-- ==== Sys2Proof/Word.lean ====
section
/-! DEFINITION. The plain words of the EK-3120. A machine-time value is an `Int` of whole nanoseconds: seconds ×
1,000,000,000 + nanoseconds (R1). It is an integer because a step of MT may carry the fill MT of a record, or the
activation MT of a grant, below 0 (R18; log entry 15). A value of local time is a `Nat`: the count of the 25 MHz
reference oscillator (section 4.2, R2). -/

namespace Sys2Proof

/-- One byte of a message (chapter 11). -/
abbrev Byte := BitVec 8

/-- Nanoseconds in a second. -/
abbrev nsPerSec : Nat := 1000000000

/-- Nanoseconds in a microsecond. -/
abbrev nsPerUs : Nat := 1000

/-- Reference periods in a microsecond of local time (R2). -/
abbrev periodsPerUs : Nat := 25

end Sys2Proof
end

