-- ==== Sys2Proof/Syntax.lean ====
section
/-! DEFINITION. The commands of the EK-3120: one constructor per row of spec/opcode_table.json, with the
operands the spec gives the row. Requests carry their body fields as they stand on the wire (section 11.3),
so that a value outside its range can be sent, and refused. -/

namespace Sys2Proof

/-- The three master links (section 0.2, chapter 10). -/
inductive Link where
  | lc | sm | sc
  deriving DecidableEq, Repr

/-- The two sources that have a health record (section 1.2). -/
inductive TimedSource where
  | grandmaster | hallPulse
  deriving DecidableEq, Repr

/-- The polarity of an edge on the PULSE input (R5). -/
inductive PulseEdge where
  | rising | falling
  deriving DecidableEq, Repr

/-- A link request with the fields of its body in the order of section 11.3. -/
inductive Request where
  | timeConfig (prio0 prio1 prio2 : Byte) (syncMs : BitVec 16) (pathDelay pulseDelay : BitVec 32)
      (kp ki : Byte) (stepUs : BitVec 16) (lockNs : BitVec 32) (q : Byte) (holdoverS : BitVec 32)
      (gmPort edge : Byte)
  | timePulseSet (op : Byte) (second : BitVec 48)
  | timeStepLock (setting : Byte)
  | timeFaultClear (sources : Byte)
  | timeReport (page : Byte)
  | stationSet (station role port heads : Byte)
  | stationRemove (station : Byte)
  | stationRun (station : Byte)
  | stationHold (station : Byte)
  | stationReport (first count : Byte)
  | streamOpen (stream cls port station queue quota cap : Byte) (staleUs : BitVec 32)
      (recovery wireHold : Byte)
  | streamClose (stream flush : Byte)
  | streamAdjust (stream quota cap queue recovery : Byte) (staleUs : BitVec 32)
  | streamReport (selector number : Byte)
  | queueSet (queue enabled : Byte) (periodUs : BitVec 32) (pauseAware : Byte)
  | queueReport (queue : Byte)
  | backoffMatch (mask compare : Byte)
  | portSet (port share : Byte)
  | portReport (port : Byte)
  | pointSet (point enabled required camera output : Byte)
      (travelUs halfWindowUs allowanceUs : BitVec 32)
  | gateSet (output : Byte) (delayUs halfWindowUs widthUs : BitVec 32)
  | trackReport (zero : Byte)
  | trackList (start : Byte)
  | outputSet (output mode level : Byte) (widthUs : BitVec 32) (period enable runAlways : Byte)
  | outputReport (output : Byte)
  | grantAsk (level base limit : Byte) (lease : BitVec 16)
  | grantConcur (slot : Byte) (number : BitVec 16)
  | grantDecline (slot : Byte) (number : BitVec 16)
  | grantExtend (slot : Byte) (number added : BitVec 16)
  | grantRelease (slot : Byte) (number : BitVec 16)
  | grantRevoke (slot : Byte) (number : BitVec 16)
  | grantPolicy (maxLease : BitVec 16)
  | grantReport
  | fabricReport
  | noticeTake
  | noticeClear
  | noticeMask (mask : BitVec 16)
  | linkReset
  | partInfo
  | partReset
  deriving DecidableEq, Repr

/-- The MT, in whole nanoseconds (R1), and the local time, in periods of the reference, at which an edge occurred (R5) or a
CELL-IN began to arrive on the lane (R171). -/
structure Stamp where
  mt : Int
  localTime : Nat
  deriving DecidableEq, Repr

/-- The commands. A command that is a link request is one WRITE transaction on link `l` that carries the
request with tag `tag` and whose request is performed (R177; log entry 8); the fabric and cell commands are
messages arriving on the inbound lane; the others are events of a pin, of the lane or of a deadline. An edge
carries when it `occurred` (R5), a cell message when it `began` to arrive, which the Fabric Port stamps and hands to its
owner (R3, R171, R173): none says that it is taken as it occurs, at the MT and the local time of the present event (log
entry 7). -/
inductive Instr where
  -- pins, local time and the SPI transactions
  | powerOnReset
  | warmReset
  | mtAdvance
  | pulseEdge (edge : PulseEdge) (occurred : Option Stamp := none)
  /-- A WRITE transaction: the bytes that follow the transaction byte. -/
  | write (l : Link) (bytes : List Byte)
  /-- A READ transaction: every byte the master sends, the transaction byte first. -/
  | read (l : Link) (mosi : List Byte)
  | replyPlaced (l : Link)
  -- the named requests
  | timeConfig (l : Link) (tag prio0 prio1 prio2 : Byte) (syncMs : BitVec 16)
      (pathDelay pulseDelay : BitVec 32) (kp ki : Byte) (stepUs : BitVec 16) (lockNs : BitVec 32)
      (q : Byte) (holdoverS : BitVec 32) (gmPort edge : Byte)
  | timePulseSet (l : Link) (tag op : Byte) (second : BitVec 48)
  | timeStepLock (l : Link) (tag setting : Byte)
  | timeFaultClear (l : Link) (tag sources : Byte)
  | timeReport (l : Link) (tag page : Byte)
  | stationSet (l : Link) (tag station role port heads : Byte)
  | stationRemove (l : Link) (tag station : Byte)
  | stationRun (l : Link) (tag station : Byte)
  | stationHold (l : Link) (tag station : Byte)
  | stationReport (l : Link) (tag first count : Byte)
  | streamOpen (l : Link) (tag stream cls port station queue quota cap : Byte) (staleUs : BitVec 32)
      (recovery wireHold : Byte)
  | streamClose (l : Link) (tag stream flush : Byte)
  | streamAdjust (l : Link) (tag stream quota cap queue recovery : Byte) (staleUs : BitVec 32)
  | streamReport (l : Link) (tag selector number : Byte)
  | queueSet (l : Link) (tag queue enabled : Byte) (periodUs : BitVec 32) (pauseAware : Byte)
  | queueReport (l : Link) (tag queue : Byte)
  | backoffMatch (l : Link) (tag mask compare : Byte)
  | portSet (l : Link) (tag port share : Byte)
  | portReport (l : Link) (tag port : Byte)
  | pointSet (l : Link) (tag point enabled required camera output : Byte)
      (travelUs halfWindowUs allowanceUs : BitVec 32)
  | gateSet (l : Link) (tag output : Byte) (delayUs halfWindowUs widthUs : BitVec 32)
  | trackReport (l : Link) (tag zero : Byte)
  | trackList (l : Link) (tag start : Byte)
  | outputSet (l : Link) (tag output mode level : Byte) (widthUs : BitVec 32)
      (period enable runAlways : Byte)
  | outputReport (l : Link) (tag output : Byte)
  | grantAsk (l : Link) (tag level base limit : Byte) (lease : BitVec 16)
  | grantConcur (l : Link) (tag slot : Byte) (number : BitVec 16)
  | grantDecline (l : Link) (tag slot : Byte) (number : BitVec 16)
  | grantExtend (l : Link) (tag slot : Byte) (number added : BitVec 16)
  | grantRelease (l : Link) (tag slot : Byte) (number : BitVec 16)
  | grantRevoke (l : Link) (tag slot : Byte) (number : BitVec 16)
  | grantPolicy (l : Link) (tag : Byte) (maxLease : BitVec 16)
  | grantReport (l : Link) (tag : Byte)
  | fabricReport (l : Link) (tag : Byte)
  | noticeTake (l : Link) (tag : Byte)
  | noticeClear (l : Link) (tag : Byte)
  | noticeMask (l : Link) (tag : Byte) (mask : BitVec 16)
  | linkReset (l : Link) (tag : Byte)
  | partInfo (l : Link) (tag : Byte)
  | partReset (l : Link) (tag : Byte)
  -- inbound fabric messages
  /-- A fabric message as it stands on the lane: its kind byte, every byte after it, and when it began to arrive. -/
  | malformedMessage (kind : Byte) (rest : List Byte) (began : Option Stamp := none)
  | enqueue (stream : Byte) (handle length : BitVec 16)
  | sent (handle : BitVec 16) (wireSec : BitVec 48) (wireNs : BitVec 32)
  | portState (port link pause watermark : Byte)
  -- cell messages inside a CELL-IN
  | cellIn (port kind code station : Byte) (body : List Byte) (began : Option Stamp := none)
  | sync (port code station seq : Byte) (originSec : BitVec 48) (originNs : BitVec 32) (began : Option Stamp := none)
  | fillDone (port code station head result : Byte) (fillSec : BitVec 48) (fillNs : BitVec 32)
      (began : Option Stamp := none)
  | verdict (port code station verdict detail : Byte) (stampSec : BitVec 48)
      (stampNs : BitVec 32) (began : Option Stamp := none)
  | backoff (port code station classes : Byte) (began : Option Stamp := none)
  | need (port code station output word : Byte) (began : Option Stamp := none)
  -- events of the lane
  | trainingComplete
  | alignmentLossExpiry
  | restartSignal
  | outboundMessageSent
  -- expiries of deadlines, and the releases of the Release Arbiter
  | faultDeadlineExpiry (src : TimedSource)
  | holdoverDeadlineExpiry
  | stalenessDeadlineExpiry (handle : BitVec 16)
  | pacingQueueExpiry (queue : Fin 8)
  | release (port : Fin 24)
  | sentOverdueExpiry (handle : BitVec 16)
  | triggerDeadlineExpiry (seq : BitVec 16) (point : Fin 4)
  | verdictDeadlineExpiry (seq : BitVec 16) (point : Fin 4)
  | gateDeadlineExpiry
  | windowEndExpiry
  | askTimeoutExpiry (slot : Fin 4)
  | warningTimeExpiry (slot : Fin 4)
  | expiryMtExpiry (slot : Fin 4)
  | pulseEndExpiry (output : Fin 8)
  | feedInstant (output : Fin 8)
  | lossOfAlignment
  | alignmentRegained
  deriving DecidableEq, Repr

end Sys2Proof
end

