-- ==== Sys2Proof/Decode.lean ====
section
/-! DEFINITION. The words of the opcode table: no row of spec/opcode_table.json gives bits, so no word spells a
command. The byte strings of chapter 11 that carry commands are read in Machine/Wire.lean. -/

namespace Sys2Proof

/-- The command that the `nbits` bits of `w` spell by the table: none of its rows gives bits. -/
def decodeTableWord (nbits w : Nat) : Option Instr :=
  let _ := (nbits, w)
  none

end Sys2Proof
end

