-- ==== Sys2Proof/Config.lean ====
section
/-! DEFINITION. What one implementation fixes and what the manual leaves open: constants with no body, so
that nothing proved can rest on a value of theirs. -/

namespace Sys2Proof.Config

/-- FREE VALUE (log entry 14). The revision number of the part, which PART-INFO reports (R190). -/
opaque revision : Byte

/-- FREE VALUE (log entry 15). The 10 bytes sent for a machine-time value that the 48-bit seconds field
of R193 cannot hold: one that a step has carried below 0, or one beyond 2^48 − 1 seconds. -/
opaque unrepresentableTime : Int → BitVec 80

/-- FREE VALUE (log entry 16). Whether a step whose applied step is 0, at the greatest or the least value of
MT, is posted as FORWARD: R17 gives the reason by the sign of the applied step, and 0 has none. -/
opaque zeroStepIsForward : Bool

/-- FREE VALUE (log entry 17). Which of the two TIME-SOURCE posts of a selection change that also changes
the clock state is made first: R8 numbers the post for the state before the post for the selection, R9
names them the other way round. -/
opaque selectionPostFirst : Bool

/-- FREE VALUE (log entry 10). The byte returned for each byte a master clocks out beyond the status byte of
a READ that finds no reply: R178 gives H'00 beyond the end of a reply only. -/
opaque noReplyFill : Byte

end Sys2Proof.Config
end

