-- ==== Sys2Proof/Table.lean ====
section
/-! DEFINITION. A table: a fixed number of like records, numbered from 0 (stations, streams, ports ...). -/

namespace Sys2Proof

/-- A table of `n` records. The length is carried with the data, so that a record number below `n`
always names a record. -/
structure Tbl (α : Type) (n : Nat) where
  /-- The records, number 0 first. -/
  xs : List α
  /-- There are `n` of them. -/
  len : xs.length = n
  deriving DecidableEq, Repr

/-- Every record holds `a`. -/
def Tbl.fill {α : Type} (n : Nat) (a : α) : Tbl α n := ⟨List.replicate n a, List.length_replicate⟩

/-- Record number `i`. -/
def Tbl.get {α : Type} {n : Nat} (t : Tbl α n) (i : Fin n) : α := t.xs[i.1]'(t.len.symm ▸ i.2)

/-- Record number `i` replaced by `a`. -/
def Tbl.set {α : Type} {n : Nat} (t : Tbl α n) (i : Fin n) (a : α) : Tbl α n :=
  ⟨t.xs.set i.1 a, (List.length_set ..).trans t.len⟩

/-- Record number `i` changed by `f`. -/
def Tbl.upd {α : Type} {n : Nat} (t : Tbl α n) (i : Fin n) (f : α → α) : Tbl α n := t.set i (f (t.get i))

/-- Every record changed by `f`. -/
def Tbl.map {α β : Type} {n : Nat} (t : Tbl α n) (f : α → β) : Tbl β n :=
  ⟨t.xs.map f, (List.length_map ..).trans t.len⟩

/-- The numbers 0 to n − 1 in ascending order. -/
def numbers (n : Nat) : List (Fin n) := List.finRange n

end Sys2Proof
end

