-- ==== Sys2Proof/Machine/State.lean ====
section
/-! DEFINITION. The state of the EK-3120, block by block, as plain data, and its value after power-on reset. -/

namespace Sys2Proof.Machine

/-! ### Outcomes -/

/-- Reasons the block stops with a fault. There are none: no rule of the manual gives a command, on any
operands, an effect that stops the part. -/
inductive Fault where
  deriving DecidableEq, Repr

/-- Reasons a command is refused a meaning. -/
inductive Refusal where
  /-- Raised by an arm of `exec` whose command has no meaning yet; no arm raises it now. Safe: the
  machine stops. -/
  | notModelled (mnemonic : String)
  deriving DecidableEq, Repr

/-! ### Time Unit (chapter 1) -/

/-- The three sources of machine time, in the order of their codes (section 11.2). -/
inductive Source where
  | grandmaster | hallPulse | localOsc
  deriving DecidableEq, Repr

/-- MT as R1 holds it: seconds, nanoseconds and 1/65,536 ns. -/
structure MachineTime where
  sec : Nat
  ns : Nat
  frac : Nat
  deriving DecidableEq, Repr

/-- Health of a timed source (section 1.2). -/
inductive HealthState where
  | healthy | faulted
  deriving DecidableEq, Repr

/-- The health record of GRANDMASTER or HALL-PULSE (section 1.2). -/
structure Health where
  state : HealthState
  /-- Qualification count, 0 to 15. -/
  qual : Nat
  lastMt : Option Int
  lastLocal : Option Nat
  /-- Sticky fault flag. -/
  sticky : Bool
  /-- Fault deadline, held while HEALTHY. -/
  deadline : Option Nat
  deriving DecidableEq, Repr

/-- The clock states in the order of R9. -/
inductive ClockState where
  | freeRun | acquiring | locked | holdover | degraded
  deriving DecidableEq, Repr

/-- The time configuration (R20). -/
structure TimeConfig where
  first : Source
  second : Source
  third : Source
  /-- Sync interval T, in milliseconds. -/
  syncMs : Nat
  pathDelay : Nat
  pulseDelay : Nat
  kp : Nat
  ki : Nat
  /-- Step threshold, in microseconds. -/
  stepUs : Nat
  /-- Lock threshold, in nanoseconds. -/
  lockNs : Nat
  q : Nat
  /-- Holdover limit, in seconds. -/
  holdoverS : Nat
  gmPort : Fin 24
  edge : PulseEdge
  deriving DecidableEq, Repr

/-- The last offset, with its source and the MT of its sample (section 1.5, R13). -/
structure OffsetRecord where
  offset : Int
  source : TimedSource
  mt : Int
  deriving DecidableEq, Repr

/-- The last step: the applied step and the MT after it (R17). -/
structure StepRecord where
  applied : Int
  mtAfter : Int
  deriving DecidableEq, Repr

/-- The Time Unit. -/
structure TimeUnit where
  mt : MachineTime
  /-- Local time, in reference periods. -/
  clock25 : Nat
  config : TimeConfig
  clock : ClockState
  everLocked : Bool
  /-- Lock run count, 0 to 15. -/
  lockRun : Nat
  /-- Integral term I, in ppb. -/
  iTerm : Int
  /-- Proportional term P, in ppb. -/
  pTerm : Int
  /-- Rate correction r, in ppb. -/
  rate : Int
  selected : Source
  gm : Health
  hp : Health
  /-- Sequence byte of the last accepted SYNC. -/
  lastSeq : Option Byte
  holdoverDeadline : Option Nat
  /-- MT of the last entry into HOLDOVER (R10). -/
  holdoverMt : Option Int
  /-- Local time of the last entry into HOLDOVER (R10, R21). -/
  holdoverLocal : Option Nat
  lastOffset : Option OffsetRecord
  lastStep : Option StepRecord
  /-- The armed second S (R12, R22). -/
  armed : Option (BitVec 48)
  stepLock : Bool
  deriving DecidableEq, Repr

/-! ### Station Map (chapter 2) -/

/-- Roles, in the order of their codes. -/
inductive Role where
  | filler | camera | other
  deriving DecidableEq, Repr

/-- Station states, in the order of R28. -/
inductive StationState where
  | absent | held | run | service
  deriving DecidableEq, Repr

/-- The fields a configured station holds (R28). `heads` is 0 for a station that is no FILLER (R31). -/
structure StationConf where
  role : Role
  port : Fin 24
  heads : Nat
  state : StationState
  deriving DecidableEq, Repr

/-- A station record; unconfigured where `conf` is absent (R28). -/
structure Station where
  conf : Option StationConf
  orderSeq : Byte
  lastChange : Option Int
  deriving DecidableEq, Repr

/-! ### Stream Table and Descriptor Store (chapter 3) -/

/-- Stream states, in the order of R41. -/
inductive StreamState where
  | free | opened | draining
  deriving DecidableEq, Repr

/-- Stream classes, in the order of their codes. -/
inductive StreamClass where
  | time | cyclic | bulk | service
  deriving DecidableEq, Repr

/-- The recovery mode: a number of clean releases, or SHED (R41). -/
inductive Recovery where
  | clean (m : Nat) | shed
  deriving DecidableEq, Repr

/-- Close reasons, in the order of R41. -/
inductive CloseReason where
  | closed | forced | grantEnded
  deriving DecidableEq, Repr

/-- Discard reasons, in the order R55 names them. -/
inductive DiscardReason where
  | length | duplicate | noStream | closing | shed | held | storeFull | cap | overtaken | stale
  | linkDown | flushed | sentLost
  deriving DecidableEq, Repr

/-- One stream record (R41). Its pending list is the PENDING descriptors of the store that name it, in the
order in which they stand there (R44). -/
structure Stream where
  state : StreamState
  owner : Option Link
  cls : Option StreamClass
  egress : Option (Fin 24)
  station : Option (Fin 32)
  queue : Fin 8
  quota : Nat
  credit : Nat
  cap : Nat
  /-- Staleness limit, in microseconds; 0 for none. -/
  staleUs : Nat
  recovery : Recovery
  /-- Congestion level, 0 to 4. -/
  level : Nat
  clean : Nat
  phase : Nat
  quiet : Nat
  wireHold : Bool
  closeReason : Option CloseReason
  released : Nat
  /-- Discard counters, one per reason of R55. -/
  discards : Tbl Nat 13
  deriving DecidableEq, Repr

/-- States of a descriptor (R43). -/
inductive DescState where
  | pending | wireHeld
  deriving DecidableEq, Repr

/-- A descriptor in a slot of the Descriptor Store (R43). -/
structure Descriptor where
  handle : BitVec 16
  stream : Fin 128
  length : Nat
  arrival : Int
  staleAt : Option Int
  state : DescState
  deriving DecidableEq, Repr

/-- The match of BACKOFF cell messages and its counters (R70). -/
structure BackoffMatch where
  mask : Byte
  compare : Byte
  matched : Nat
  unmatched : Nat
  deriving DecidableEq, Repr

/-! ### Pacing Unit and Release Arbiter (chapter 4) -/

/-- A pacing queue (R65). -/
structure PacingQueue where
  enabled : Bool
  /-- Period, in microseconds of local time. -/
  periodUs : Nat
  pauseAware : Bool
  nextExpiry : Option Nat
  /-- Expiry counter, 32-bit, wrapping. -/
  expiries : Nat
  deriving DecidableEq, Repr

/-- An entry of an outstanding list (R75). -/
structure Outstanding where
  handle : BitVec 16
  stream : Fin 128
  releaseMt : Int
  overdue : Int
  deriving DecidableEq, Repr

/-- A port record (R75). -/
structure Port where
  /-- The link is up. -/
  up : Bool
  paused : Bool
  /-- The watermark is high. -/
  high : Bool
  /-- Bulk share N. -/
  share : Nat
  /-- Consecutive-cyclic count. -/
  cyclicRun : Nat
  /-- Round-robin pointers of the TIME, CYCLIC and bulk tiers. -/
  ptrTime : Option (Fin 128)
  ptrCyclic : Option (Fin 128)
  ptrBulk : Option (Fin 128)
  /-- Outstanding list, in release order. -/
  outstanding : List Outstanding
  lastWire : Option Int
  released : Nat
  sent : Nat
  writeOffs : Nat
  deriving DecidableEq, Repr

/-! ### Track Unit (chapters 5 and 6) -/

/-- An inspection point record (R93); the times are in microseconds. -/
structure Point where
  enabled : Bool
  required : Bool
  camera : Fin 32
  output : Option (Fin 8)
  travelUs : Nat
  halfWindowUs : Nat
  allowanceUs : Nat
  deriving DecidableEq, Repr

/-- The gate record (R94); the times are in microseconds. -/
structure Gate where
  output : Option (Fin 8)
  delayUs : Nat
  halfWindowUs : Nat
  widthUs : Nat
  deriving DecidableEq, Repr

/-- States of a point entry, in the order of R96; a FAIL entry holds a detail code. -/
inductive EntryState where
  | notUsed | waiting | expected | service | pass | fail (detail : Byte) | missing
  deriving DecidableEq, Repr

/-- A point entry of a track record (R96). Its trigger deadline is its trigger time while it is WAITING, its
verdict deadline the verdict time while it is EXPECTED (R97). -/
structure PointEntry where
  state : EntryState
  trigger : Int
  verdictBy : Int
  deriving DecidableEq, Repr

/-- Fill results, in the order of their codes. -/
inductive FillResult where
  | ok | short | over | noContainer
  deriving DecidableEq, Repr

/-- A container record of the track (R96). While it is in the track its disposition is PENDING. -/
structure TrackRecord where
  seq : BitVec 16
  filler : Fin 32
  head : Nat
  result : FillResult
  fillMt : Int
  /-- Filler-running flag. -/
  running : Bool
  entries : Tbl PointEntry 4
  gateTime : Int
  deriving DecidableEq, Repr

/-- The dispositions a record leaves with, in the order of R107. -/
inductive Disposition where
  | pass | skip | rejectFill | rejectStation | rejectFail | rejectMissing | rejectUntracked
  deriving DecidableEq, Repr

/-- The last departure (R107). -/
structure Departure where
  seq : BitVec 16
  filler : Fin 32
  head : Nat
  gateTime : Int
  disposition : Disposition
  entries : Tbl EntryState 4
  deriving DecidableEq, Repr

/-- The bottle track, the forced-reject window and the counters of the Track Unit (R95, R107, R109). The
gate deadline is the gate time of the head record (R97). -/
structure Track where
  /-- The records, in order of fill MT, head first. -/
  records : List TrackRecord
  nextSeq : BitVec 16
  /-- End of the forced-reject window; the window is open exactly while it is present (R109). -/
  windowEnd : Option Int
  /-- Disposition counters, in the order of R107. -/
  counts : Tbl Nat 7
  future : Nat
  escaped : Nat
  full : Nat
  lateFill : Nat
  lastDeparture : Option Departure
  deriving DecidableEq, Repr

/-! ### Trigger Output Unit (chapter 7) -/

/-- Output modes, in the order of their codes. -/
inductive OutputMode where
  | off | feed | trigger | gate
  deriving DecidableEq, Repr

/-- Active levels, in the order of their codes. -/
inductive ActiveLevel where
  | high | low
  deriving DecidableEq, Repr

/-- Feed periods, in the order of their codes. -/
inductive FeedPeriod where
  | s1 | ms500 | ms100 | ms50 | ms10 | ms5 | ms1
  deriving DecidableEq, Repr

/-- An output record (R135). -/
structure Output where
  mode : OutputMode
  level : ActiveLevel
  widthUs : Nat
  period : FeedPeriod
  feedEnable : Bool
  runAlways : Bool
  /-- Need set, in ascending order without repeats. -/
  needs : List (Fin 32)
  pulseEnd : Option Int
  nextFeed : Option Int
  hold : Bool
  started : Nat
  merged : Nat
  deriving DecidableEq, Repr

/-! ### Grant Table (chapter 8) -/

/-- States of a grant slot, in the order of R146. -/
inductive GrantState where
  | free | asked | active
  deriving DecidableEq, Repr

/-- Levels of access, in rising order (R148). -/
inductive GrantLevel where
  | observe | configure | intervene
  deriving DecidableEq, Repr

/-- Last end reasons, in the order of R146. -/
inductive EndReason where
  | declined | timeout | expired | released | revoked | reset
  deriving DecidableEq, Repr

/-- What a slot keeps from its last ask (R146). -/
structure GrantAsk where
  number : BitVec 16
  level : GrantLevel
  base : Fin 24
  limit : Fin 24
  /-- Requested lease, in seconds. -/
  lease : Nat
  askMt : Int
  deriving DecidableEq, Repr

/-- A grant slot (R146); `ask` is absent until its first ask. -/
structure GrantSlot where
  state : GrantState
  ask : Option GrantAsk
  askTimeout : Option Int
  activation : Option Int
  /-- Expiry MT: a deadline while ACTIVE, kept for report after the end. -/
  expiry : Option Int
  warning : Option Int
  warned : Bool
  endReason : Option EndReason
  deriving DecidableEq, Repr

/-- The Grant Table (R146, R147, R149). -/
structure GrantTable where
  slots : Tbl GrantSlot 4
  nextNumber : BitVec 16
  /-- Max total lease, in seconds. -/
  maxLease : Nat
  deriving DecidableEq, Repr

/-! ### Fabric Port (chapter 9) -/

/-- The orders of an ORDER cell message (R30). -/
inductive Order where
  | run | hold | service
  deriving DecidableEq, Repr

/-- An outbound message (section 9.2). A CELL-OUT carries the ORDER it was built with (R168). -/
inductive OutMsg where
  | release (handle : BitVec 16) (port : Fin 24)
  | discard (handle : BitVec 16) (reason : DiscardReason)
  | cellOut (port : Fin 24) (station : Fin 32) (order : Order) (seq : Byte)
  | resync
  deriving DecidableEq, Repr

/-- The Fabric Port (section 9.1). -/
structure Fabric where
  /-- The link state is UP. -/
  up : Bool
  upCount : Nat
  lastUp : Option Int
  lastDown : Option Int
  malformed : Nat
  rejectedCells : Nat
  /-- Outbound queue, head first. -/
  outbound : List OutMsg
  overflow : Nat
  /-- The alignment-loss timer: the local time at which a loss of alignment has lasted 100 µs (R165). -/
  alignTimer : Option Nat
  /-- The MODEL's own record of the outbound lane: the bytes of the message sent last (log entry 26). -/
  laneOut : List Byte
  deriving DecidableEq, Repr

/-! ### Link Interface and Notice Unit (chapter 10) -/

/-- Reply statuses (section 11.3). -/
inductive Status where
  | done | refusedRights | refusedRange | refusedState | refusedFull | refusedConflict
  | unknownRequest | checkError | lengthError
  deriving DecidableEq, Repr

/-- A reply (section 10.2); its flags byte and check value are made as it is read (R178, R195). -/
structure Reply where
  code : Byte
  tag : Byte
  status : Status
  body : List Byte
  deriving DecidableEq, Repr

/-- A reply slot (R177). In WORKING it holds either a request that passed the checks of R179 and that no
owner has taken yet, or the reply that is not placed yet. -/
inductive Slot where
  | idle
  | workingHeld (r : Request) (tag : Byte)
  | workingAnswered (r : Reply)
  | ready (r : Reply)
  deriving DecidableEq, Repr

/-- A notice detail record (section 10.3). -/
structure Detail where
  mt : Int
  subject : BitVec 32
  /-- Reason code (section 11.4). -/
  reason : Byte
  more : Bool
  deriving DecidableEq, Repr

/-- One master link: its Link Interface and its notice state (R177, R182). Class n is pending exactly while
record n − 1 of `notices` is present. -/
structure LinkRec where
  slot : Slot
  overrun : Bool
  notices : Tbl (Option Detail) 16
  /-- Enable mask; bit n − 1 stands for class n. -/
  mask : BitVec 16
  /-- The MODEL's own record of the link's data output: the bytes returned after the transaction byte of
  the last transaction (log entry 26). -/
  spiOut : List Byte
  deriving DecidableEq, Repr

/-! ### The whole part -/

/-- The state of the part, and the queue of the commands that wait, first in, first out. -/
structure State where
  time : TimeUnit
  stations : Tbl Station 32
  streams : Tbl Stream 128
  /-- The occupied slots of the Descriptor Store, in the order in which they were taken. -/
  store : List Descriptor
  /-- Store-wide discard counters, one per reason of R55. -/
  storeDiscards : Tbl Nat 13
  /-- Void counter (R64). -/
  voids : Nat
  backoff : BackoffMatch
  queues : Tbl PacingQueue 8
  ports : Tbl Port 24
  points : Tbl Point 4
  gate : Gate
  track : Track
  outputs : Tbl Output 8
  /-- The Trigger Output Unit's record that the forced-reject window is open (R131). -/
  outWindow : Bool
  grants : GrantTable
  fabric : Fabric
  lc : LinkRec
  sm : LinkRec
  sc : LinkRec
  /-- The commands that wait, first in, first out. -/
  pending : List Instr
  deriving DecidableEq, Repr

/-! ### Power-on values -/

/-- R20, power-on values. -/
def TimeConfig.powerOn : TimeConfig :=
  { first := .grandmaster, second := .hallPulse, third := .localOsc, syncMs := 1000, pathDelay := 0,
    pulseDelay := 0, kp := 2, ki := 4, stepUs := 1000, lockNs := 1000, q := 4, holdoverS := 600,
    gmPort := 0, edge := .rising }

/-- R26: FAULTED, qualification count 0, no last arrival, no fault deadline, sticky fault flag clear. -/
def Health.powerOn : Health :=
  { state := .faulted, qual := 0, lastMt := none, lastLocal := none, sticky := false, deadline := none }

/-- R26; local time starts at 0 (log entry 1). -/
def TimeUnit.powerOn : TimeUnit :=
  { mt := ⟨0, 0, 0⟩, clock25 := 0, config := .powerOn, clock := .freeRun, everLocked := false,
    lockRun := 0, iTerm := 0, pTerm := 0, rate := 0, selected := .localOsc, gm := .powerOn,
    hp := .powerOn, lastSeq := none, holdoverDeadline := none, holdoverMt := none,
    holdoverLocal := none, lastOffset := none, lastStep := none, armed := none, stepLock := false }

/-- R28. -/
def Station.powerOn : Station := { conf := none, orderSeq := 0, lastChange := none }

/-- R62; a recovery mode of 0 stands for the numeric field at 0 (log entry 20). -/
def Stream.powerOn : Stream :=
  { state := .free, owner := none, cls := none, egress := none, station := none, queue := 0,
    quota := 0, credit := 0, cap := 0, staleUs := 0, recovery := .clean 0, level := 0, clean := 0,
    phase := 0, quiet := 0, wireHold := false, closeReason := none, released := 0,
    discards := Tbl.fill 13 0 }

/-- R70. -/
def BackoffMatch.powerOn : BackoffMatch := { mask := 0xFF, compare := 0xB0, matched := 0, unmatched := 0 }

/-- R65. -/
def PacingQueue.powerOn : PacingQueue :=
  { enabled := false, periodUs := 1000, pauseAware := false, nextExpiry := none, expiries := 0 }

/-- R75. -/
def Port.powerOn : Port :=
  { up := false, paused := false, high := false, share := 4, cyclicRun := 0, ptrTime := none,
    ptrCyclic := none, ptrBulk := none, outstanding := [], lastWire := none, released := 0, sent := 0,
    writeOffs := 0 }

/-- R93. -/
def Point.powerOn : Point :=
  { enabled := false, required := false, camera := 0, output := none, travelUs := 1000000,
    halfWindowUs := 1000, allowanceUs := 100000 }

/-- R94. -/
def Gate.powerOn : Gate := { output := none, delayUs := 2000000, halfWindowUs := 10000, widthUs := 20000 }

/-- R115. -/
def Track.powerOn : Track :=
  { records := [], nextSeq := 0, windowEnd := none, counts := Tbl.fill 7 0, future := 0, escaped := 0,
    full := 0, lateFill := 0, lastDeparture := none }

/-- R135. -/
def Output.powerOn : Output :=
  { mode := .off, level := .high, widthUs := 1000, period := .s1, feedEnable := false,
    runAlways := false, needs := [], pulseEnd := none, nextFeed := none, hold := false, started := 0,
    merged := 0 }

/-- R146: FREE with last end reason RESET. -/
def GrantSlot.powerOn : GrantSlot :=
  { state := .free, ask := none, askTimeout := none, activation := none, expiry := none,
    warning := none, warned := false, endReason := some .reset }

/-- R146, R147, R149. -/
def GrantTable.powerOn : GrantTable := { slots := Tbl.fill 4 .powerOn, nextNumber := 0, maxLease := 1800 }

/-- Section 9.1, R175. -/
def Fabric.powerOn : Fabric :=
  { up := false, upCount := 0, lastUp := none, lastDown := none, malformed := 0, rejectedCells := 0,
    outbound := [], overflow := 0, alignTimer := none, laneOut := [] }

/-- R192: slot IDLE, OVERRUN clear, every mask clear, and RESTARTED, class 16, posted with reason POWER-ON
(reason code 1) and subject 0 at MT 0. -/
def LinkRec.powerOn : LinkRec :=
  { slot := .idle, overrun := false,
    notices := (Tbl.fill 16 none).set 15 (some { mt := 0, subject := 0, reason := 1, more := false }),
    mask := 0, spiOut := [] }

/-- The part right after a power-on reset, with no command waiting. -/
def State.reset : State :=
  { time := .powerOn, stations := Tbl.fill 32 .powerOn, streams := Tbl.fill 128 .powerOn, store := [],
    storeDiscards := Tbl.fill 13 0, voids := 0, backoff := .powerOn, queues := Tbl.fill 8 .powerOn,
    ports := Tbl.fill 24 .powerOn, points := Tbl.fill 4 .powerOn, gate := .powerOn, track := .powerOn,
    outputs := Tbl.fill 8 .powerOn, outWindow := false, grants := .powerOn, fabric := .powerOn,
    lc := .powerOn, sm := .powerOn, sc := .powerOn, pending := [] }

end Sys2Proof.Machine
end

