-- ==== Sys2Proof/Machine/Bytes.lean ====
section
/-! DEFINITION. Byte order, field encoding and the check value (R193, R194, R195). -/

namespace Sys2Proof.Machine

/-- The `n` low bytes of `v`, most significant byte first (R193). -/
def be : Nat → Nat → List Byte
  | 0, _ => []
  | n + 1, v => BitVec.ofNat 8 (v / 256 ^ n) :: be n v

/-- A signed value in `n` bytes of two's complement (R193). -/
def beSigned (n : Nat) (v : Int) : List Byte := be n (v % (256 ^ n : Nat)).toNat

/-- An absent value of `n` bytes: bytes of H'FF in its full width (R193). -/
def absent (n : Nat) : List Byte := List.replicate n 0xFF

/-- yes/no, on/off, up/down, set/clear (section 11.2). -/
def flag (b : Bool) : List Byte := [if b then 1 else 0]

/-- A value whose width holds no code outside its range: a presence byte first (R193). -/
def maybe (n : Nat) : Option (List Byte) → List Byte
  | some bs => 1 :: bs
  | none => 0 :: absent n

/-- A value whose width holds codes outside its range: H'FF in its full width where it is absent (R193; log
entry 21). -/
def orFF (n : Nat) : Option (List Byte) → List Byte
  | some bs => bs
  | none => absent n

/-- An MT value: seconds in 6 bytes, nanoseconds in 4 (R193). -/
def timeBytes (t : Int) : List Byte :=
  if 0 ≤ t ∧ t < 2 ^ 48 * 1000000000 then
    be 6 (t.toNat / nsPerSec) ++ be 4 (t.toNat % nsPerSec)
  else be 10 (Config.unrepresentableTime t).toNat

/-- An MT value that may be absent: 10 bytes of H'FF where it is (R193). -/
def timeOrFF (t : Option Int) : List Byte := orFF 10 (t.map timeBytes)

/-- A list whose number of entries depends on the state: its length in 1 byte first (R194). -/
def counted (entries : List (List Byte)) : List Byte := BitVec.ofNat 8 entries.length :: entries.flatten

/-- Byte `i` of a body. -/
def u8 (b : List Byte) (i : Nat) : Byte := b.getD i 0

/-- The 2-byte field at offset `i`, most significant byte first. -/
def u16 (b : List Byte) (i : Nat) : BitVec 16 := u8 b i ++ u8 b (i + 1)

/-- The 4-byte field at offset `i`. -/
def u32 (b : List Byte) (i : Nat) : BitVec 32 := u16 b i ++ u16 b (i + 2)

/-- The 6-byte field at offset `i`. -/
def u48 (b : List Byte) (i : Nat) : BitVec 48 := u16 b i ++ u32 b (i + 2)

/-- A field of `n` bytes as it is sent. -/
def field {w : Nat} (n : Nat) (v : BitVec w) : List Byte := be n v.toNat

/-- One bit of the CRC-16 with generator H'1021, most significant bit first (R195). -/
def crcBit (c : Nat) : Nat := if 0x8000 ≤ c then (2 * c) ^^^ 0x11021 else 2 * c

/-- One byte of the CRC-16. -/
def crcByte (c : Nat) (b : Byte) : Nat :=
  crcBit (crcBit (crcBit (crcBit (crcBit (crcBit (crcBit (crcBit (c ^^^ (b.toNat * 256)))))))))

/-- The CRC-16 over a string of bytes: initial value H'FFFF, no reflection, no inversion (R195). -/
def crc16 (bs : List Byte) : Nat := bs.foldl crcByte 0xFFFF

/-- A message with its check value, high byte first (R195). -/
def withCrc (bs : List Byte) : List Byte := bs ++ be 2 (crc16 bs)

/-- A received message split into its contents and whether its last two bytes agree with them (R195). -/
def checkCrc (bs : List Byte) : List Byte × Bool :=
  let body := bs.take (bs.length - 2)
  (body, decide (2 ≤ bs.length ∧ bs.drop (bs.length - 2) = be 2 (crc16 body)))

end Sys2Proof.Machine
end

