-- ==== Sys2Proof/Machine/Operands.lean ====
section
/-! DEFINITION. The codes of fields (section 11.2, 11.3, 11.5, 11.6): read from a byte, with none for a code
outside the field's values, and written to a byte. -/

namespace Sys2Proof.Machine

/-! ### Reading codes -/

/-- A record number below `n`. -/
def number (n : Nat) (b : Byte) : Option (Fin n) := if h : b.toNat < n then some ⟨b.toNat, h⟩ else none

/-- A record number below `n`, or H'FF for none (R193). -/
def numberOrNone (n : Nat) (b : Byte) : Option (Option (Fin n)) :=
  if b = 0xFF then some none else (number n b).map some

/-- A number of an inclusive range. -/
def inRange (lo hi : Nat) {w : Nat} (v : BitVec w) : Option Nat :=
  if lo ≤ v.toNat ∧ v.toNat ≤ hi then some v.toNat else none

/-- yes/no, on/off, up/down, high/low. -/
def yesNo (b : Byte) : Option Bool := if b = 1 then some true else if b = 0 then some false else none

/-- Source codes. -/
def sourceOf (b : Byte) : Option Source :=
  if b = 0 then some .grandmaster else if b = 1 then some .hallPulse else if b = 2 then some .localOsc else none

/-- Pulse edge codes. -/
def edgeOf (b : Byte) : Option PulseEdge :=
  if b = 0 then some .rising else if b = 1 then some .falling else none

/-- Role codes. -/
def roleOf (b : Byte) : Option Role :=
  if b = 0 then some .filler else if b = 1 then some .camera else if b = 2 then some .other else none

/-- Stream class codes. -/
def classOf (b : Byte) : Option StreamClass :=
  if b = 0 then some .time else if b = 1 then some .cyclic else if b = 2 then some .bulk
  else if b = 3 then some .service else none

/-- Recovery mode codes: 1, 2, 4, 8, 16 or H'FF for SHED. -/
def recoveryOf (b : Byte) : Option Recovery :=
  if b = 0xFF then some .shed
  else if b = 1 ∨ b = 2 ∨ b = 4 ∨ b = 8 ∨ b = 16 then some (.clean b.toNat) else none

/-- The staleness limit: 0, or 100 to 100,000 µs (R41). -/
def stalenessOf (v : BitVec 32) : Option Nat := if v = 0 then some 0 else inRange 100 100000 v

/-- The sync interval T (R20). -/
def syncOf (v : BitVec 16) : Option Nat :=
  if v = 125 ∨ v = 250 ∨ v = 500 ∨ v = 1000 then some v.toNat else none

/-- Grant level codes. -/
def levelOf (b : Byte) : Option GrantLevel :=
  if b = 1 then some .observe else if b = 2 then some .configure else if b = 3 then some .intervene else none

/-- Output mode codes. -/
def modeOf (b : Byte) : Option OutputMode :=
  if b = 0 then some .off else if b = 1 then some .feed else if b = 2 then some .trigger
  else if b = 3 then some .gate else none

/-- Active level codes. -/
def activeLevelOf (b : Byte) : Option ActiveLevel :=
  if b = 0 then some .high else if b = 1 then some .low else none

/-- Feed period codes. -/
def periodOf (b : Byte) : Option FeedPeriod :=
  if b = 0 then some .s1 else if b = 1 then some .ms500 else if b = 2 then some .ms100
  else if b = 3 then some .ms50 else if b = 4 then some .ms10 else if b = 5 then some .ms5
  else if b = 6 then some .ms1 else none

/-- Fill result codes. -/
def fillResultOf (b : Byte) : Option FillResult :=
  if b = 0 then some .ok else if b = 1 then some .short else if b = 2 then some .over
  else if b = 3 then some .noContainer else none

/-- Verdict codes: true for PASS. -/
def verdictOf (b : Byte) : Option Bool := if b = 0 then some true else if b = 1 then some false else none

/-- The class set of a BACKOFF: bits 0 to 3; bits 4 to 7 are ignored. -/
def inClassSet (set : Byte) : StreamClass → Bool
  | .time => set.getLsbD 0
  | .cyclic => set.getLsbD 1
  | .bulk => set.getLsbD 2
  | .service => set.getLsbD 3

/-! ### Writing codes -/

/-- Source code. -/
def Source.code : Source → Byte
  | .grandmaster => 0 | .hallPulse => 1 | .localOsc => 2

/-- The source a health record belongs to. -/
def sourceOfTimed : TimedSource → Source
  | .grandmaster => .grandmaster | .hallPulse => .hallPulse

/-- Position in section 1.2: HEALTHY, FAULTED. -/
def HealthState.code : HealthState → Byte
  | .healthy => 0 | .faulted => 1

/-- Position in R9. -/
def ClockState.code : ClockState → Byte
  | .freeRun => 0 | .acquiring => 1 | .locked => 2 | .holdover => 3 | .degraded => 4

/-- Pulse edge code. -/
def edgeCode : PulseEdge → Byte
  | .rising => 0 | .falling => 1

/-- Link code (section 11.3). -/
def linkCode : Link → Byte
  | .lc => 0 | .sm => 1 | .sc => 2

/-- Role code. -/
def Role.code : Role → Byte
  | .filler => 0 | .camera => 1 | .other => 2

/-- Position in R28. -/
def StationState.code : StationState → Byte
  | .absent => 0 | .held => 1 | .run => 2 | .service => 3

/-- Position in R41. -/
def StreamState.code : StreamState → Byte
  | .free => 0 | .opened => 1 | .draining => 2

/-- Stream class code. -/
def StreamClass.code : StreamClass → Byte
  | .time => 0 | .cyclic => 1 | .bulk => 2 | .service => 3

/-- Recovery mode code. -/
def Recovery.code : Recovery → Byte
  | .clean m => BitVec.ofNat 8 m | .shed => 0xFF

/-- Position in R41. -/
def CloseReason.code : CloseReason → Byte
  | .closed => 0 | .forced => 1 | .grantEnded => 2

/-- Discard reason code (section 11.6). -/
def DiscardReason.code : DiscardReason → Byte
  | .length => 1 | .duplicate => 2 | .noStream => 3 | .closing => 4 | .shed => 5 | .held => 6
  | .storeFull => 7 | .cap => 12 | .overtaken => 8 | .stale => 9 | .linkDown => 10 | .flushed => 11
  | .sentLost => 13

/-- Position in the list of R55: the number of the reason's counter. -/
def DiscardReason.index : DiscardReason → Fin 13
  | .length => 0 | .duplicate => 1 | .noStream => 2 | .closing => 3 | .shed => 4 | .held => 5
  | .storeFull => 6 | .cap => 7 | .overtaken => 8 | .stale => 9 | .linkDown => 10 | .flushed => 11
  | .sentLost => 12

/-- Fill result code. -/
def FillResult.code : FillResult → Byte
  | .ok => 0 | .short => 1 | .over => 2 | .noContainer => 3

/-- Position in R96. -/
def EntryState.code : EntryState → Byte
  | .notUsed => 0 | .waiting => 1 | .expected => 2 | .service => 3 | .pass => 4 | .fail _ => 5
  | .missing => 6

/-- The detail code of a FAIL entry (R96). -/
def EntryState.detail : EntryState → Option Byte
  | .fail d => some d
  | _ => none

/-- Position in the list of R107: the number of the disposition's counter. -/
def Disposition.index : Disposition → Fin 7
  | .pass => 0 | .skip => 1 | .rejectFill => 2 | .rejectStation => 3 | .rejectFail => 4
  | .rejectMissing => 5 | .rejectUntracked => 6

/-- Output mode code. -/
def OutputMode.code : OutputMode → Byte
  | .off => 0 | .feed => 1 | .trigger => 2 | .gate => 3

/-- Active level code. -/
def ActiveLevel.code : ActiveLevel → Byte
  | .high => 0 | .low => 1

/-- Feed period code. -/
def FeedPeriod.code : FeedPeriod → Byte
  | .s1 => 0 | .ms500 => 1 | .ms100 => 2 | .ms50 => 3 | .ms10 => 4 | .ms5 => 5 | .ms1 => 6

/-- A feed period in nanoseconds. -/
def FeedPeriod.ns : FeedPeriod → Nat
  | .s1 => 1000000000 | .ms500 => 500000000 | .ms100 => 100000000 | .ms50 => 50000000
  | .ms10 => 10000000 | .ms5 => 5000000 | .ms1 => 1000000

/-- Position in R146. -/
def GrantState.code : GrantState → Byte
  | .free => 0 | .asked => 1 | .active => 2

/-- Grant level code; the levels rise with it (R148). -/
def GrantLevel.code : GrantLevel → Byte
  | .observe => 1 | .configure => 2 | .intervene => 3

/-- The rank of a level: OBSERVE, CONFIGURE, INTERVENE (R148). -/
def GrantLevel.rank : GrantLevel → Nat
  | .observe => 1 | .configure => 2 | .intervene => 3

/-- Position in R146. -/
def EndReason.code : EndReason → Byte
  | .declined => 0 | .timeout => 1 | .expired => 2 | .released => 3 | .revoked => 4 | .reset => 5

/-- Order code. -/
def Order.code : Order → Byte
  | .run => 1 | .hold => 2 | .service => 3

/-- Reply status code (section 11.3). -/
def Status.code : Status → Byte
  | .done => 0x00 | .refusedRights => 0x01 | .refusedRange => 0x02 | .refusedState => 0x03
  | .refusedFull => 0x04 | .refusedConflict => 0x05 | .unknownRequest => 0x10 | .checkError => 0x11
  | .lengthError => 0x12

end Sys2Proof.Machine
end

