-- ==== Sys2Proof/Machine/Wire.lean ====
section
/-! DEFINITION. Messages as strings of bytes: link requests and replies (section 11.3), inbound and outbound
fabric messages and cell messages (section 11.5), and the rights table (R180). -/

namespace Sys2Proof.Machine

/-! ### Link requests -/

/-- The request code (section 11.3). -/
def requestCode : Request → Byte
  | .timeConfig .. => 0x10
  | .timePulseSet .. => 0x11
  | .timeStepLock .. => 0x12
  | .timeFaultClear .. => 0x13
  | .timeReport .. => 0x14
  | .stationSet .. => 0x20
  | .stationRemove .. => 0x21
  | .stationRun .. => 0x22
  | .stationHold .. => 0x23
  | .stationReport .. => 0x24
  | .streamOpen .. => 0x30
  | .streamClose .. => 0x31
  | .streamAdjust .. => 0x32
  | .streamReport .. => 0x33
  | .queueSet .. => 0x40
  | .queueReport .. => 0x41
  | .backoffMatch .. => 0x42
  | .portSet .. => 0x43
  | .portReport .. => 0x44
  | .pointSet .. => 0x50
  | .gateSet .. => 0x51
  | .trackReport .. => 0x52
  | .trackList .. => 0x53
  | .outputSet .. => 0x60
  | .outputReport .. => 0x61
  | .grantAsk .. => 0x70
  | .grantConcur .. => 0x71
  | .grantDecline .. => 0x72
  | .grantExtend .. => 0x73
  | .grantRelease .. => 0x74
  | .grantRevoke .. => 0x75
  | .grantPolicy .. => 0x76
  | .grantReport => 0x77
  | .fabricReport => 0x80
  | .noticeTake => 0x90
  | .noticeClear => 0x91
  | .noticeMask .. => 0x92
  | .linkReset => 0x93
  | .partInfo => 0x94
  | .partReset => 0x95

/-- The body of a request, its fields in the order of section 11.3. -/
def requestBody : Request → List Byte
  | .timeConfig a b c t pd ud kp ki st lk q h g e =>
    [a, b, c] ++ field 2 t ++ field 4 pd ++ field 4 ud ++ [kp, ki] ++ field 2 st ++ field 4 lk ++ [q]
      ++ field 4 h ++ [g, e]
  | .timePulseSet op s => [op] ++ field 6 s
  | .timeStepLock v => [v]
  | .timeFaultClear v => [v]
  | .timeReport v => [v]
  | .stationSet a b c d => [a, b, c, d]
  | .stationRemove a => [a]
  | .stationRun a => [a]
  | .stationHold a => [a]
  | .stationReport a b => [a, b]
  | .streamOpen a b c d e f g st r w => [a, b, c, d, e, f, g] ++ field 4 st ++ [r, w]
  | .streamClose a b => [a, b]
  | .streamAdjust a b c d e st => [a, b, c, d, e] ++ field 4 st
  | .streamReport a b => [a, b]
  | .queueSet a b p c => [a, b] ++ field 4 p ++ [c]
  | .queueReport a => [a]
  | .backoffMatch a b => [a, b]
  | .portSet a b => [a, b]
  | .portReport a => [a]
  | .pointSet a b c d e t h v => [a, b, c, d, e] ++ field 4 t ++ field 4 h ++ field 4 v
  | .gateSet a d h w => [a] ++ field 4 d ++ field 4 h ++ field 4 w
  | .trackReport a => [a]
  | .trackList a => [a]
  | .outputSet a b c w p e r => [a, b, c] ++ field 4 w ++ [p, e, r]
  | .outputReport a => [a]
  | .grantAsk a b c s => [a, b, c] ++ field 2 s
  | .grantConcur a n => [a] ++ field 2 n
  | .grantDecline a n => [a] ++ field 2 n
  | .grantExtend a n s => [a] ++ field 2 n ++ field 2 s
  | .grantRelease a n => [a] ++ field 2 n
  | .grantRevoke a n => [a] ++ field 2 n
  | .grantPolicy s => field 2 s
  | .grantReport => []
  | .fabricReport => []
  | .noticeTake => []
  | .noticeClear => []
  | .noticeMask m => field 2 m
  | .linkReset => []
  | .partInfo => []
  | .partReset => []

/-- What a request code names: the body length of its request and how a body of that length is read
(section 11.3); none for a code that names no request. -/
def requestForm (code : Byte) : Option (Nat × (List Byte → Request)) :=
  match code.toNat with
  | 0x10 => some (28, fun b => .timeConfig (u8 b 0) (u8 b 1) (u8 b 2) (u16 b 3) (u32 b 5) (u32 b 9)
      (u8 b 13) (u8 b 14) (u16 b 15) (u32 b 17) (u8 b 21) (u32 b 22) (u8 b 26) (u8 b 27))
  | 0x11 => some (7, fun b => .timePulseSet (u8 b 0) (u48 b 1))
  | 0x12 => some (1, fun b => .timeStepLock (u8 b 0))
  | 0x13 => some (1, fun b => .timeFaultClear (u8 b 0))
  | 0x14 => some (1, fun b => .timeReport (u8 b 0))
  | 0x20 => some (4, fun b => .stationSet (u8 b 0) (u8 b 1) (u8 b 2) (u8 b 3))
  | 0x21 => some (1, fun b => .stationRemove (u8 b 0))
  | 0x22 => some (1, fun b => .stationRun (u8 b 0))
  | 0x23 => some (1, fun b => .stationHold (u8 b 0))
  | 0x24 => some (2, fun b => .stationReport (u8 b 0) (u8 b 1))
  | 0x30 => some (13, fun b => .streamOpen (u8 b 0) (u8 b 1) (u8 b 2) (u8 b 3) (u8 b 4) (u8 b 5)
      (u8 b 6) (u32 b 7) (u8 b 11) (u8 b 12))
  | 0x31 => some (2, fun b => .streamClose (u8 b 0) (u8 b 1))
  | 0x32 => some (9, fun b => .streamAdjust (u8 b 0) (u8 b 1) (u8 b 2) (u8 b 3) (u8 b 4) (u32 b 5))
  | 0x33 => some (2, fun b => .streamReport (u8 b 0) (u8 b 1))
  | 0x40 => some (7, fun b => .queueSet (u8 b 0) (u8 b 1) (u32 b 2) (u8 b 6))
  | 0x41 => some (1, fun b => .queueReport (u8 b 0))
  | 0x42 => some (2, fun b => .backoffMatch (u8 b 0) (u8 b 1))
  | 0x43 => some (2, fun b => .portSet (u8 b 0) (u8 b 1))
  | 0x44 => some (1, fun b => .portReport (u8 b 0))
  | 0x50 => some (17, fun b => .pointSet (u8 b 0) (u8 b 1) (u8 b 2) (u8 b 3) (u8 b 4) (u32 b 5)
      (u32 b 9) (u32 b 13))
  | 0x51 => some (13, fun b => .gateSet (u8 b 0) (u32 b 1) (u32 b 5) (u32 b 9))
  | 0x52 => some (1, fun b => .trackReport (u8 b 0))
  | 0x53 => some (1, fun b => .trackList (u8 b 0))
  | 0x60 => some (10, fun b => .outputSet (u8 b 0) (u8 b 1) (u8 b 2) (u32 b 3) (u8 b 7) (u8 b 8) (u8 b 9))
  | 0x61 => some (1, fun b => .outputReport (u8 b 0))
  | 0x70 => some (5, fun b => .grantAsk (u8 b 0) (u8 b 1) (u8 b 2) (u16 b 3))
  | 0x71 => some (3, fun b => .grantConcur (u8 b 0) (u16 b 1))
  | 0x72 => some (3, fun b => .grantDecline (u8 b 0) (u16 b 1))
  | 0x73 => some (5, fun b => .grantExtend (u8 b 0) (u16 b 1) (u16 b 3))
  | 0x74 => some (3, fun b => .grantRelease (u8 b 0) (u16 b 1))
  | 0x75 => some (3, fun b => .grantRevoke (u8 b 0) (u16 b 1))
  | 0x76 => some (2, fun b => .grantPolicy (u16 b 0))
  | 0x77 => some (0, fun _ => .grantReport)
  | 0x80 => some (0, fun _ => .fabricReport)
  | 0x90 => some (0, fun _ => .noticeTake)
  | 0x91 => some (0, fun _ => .noticeClear)
  | 0x92 => some (2, fun b => .noticeMask (u16 b 0))
  | 0x93 => some (0, fun _ => .linkReset)
  | 0x94 => some (0, fun _ => .partInfo)
  | 0x95 => some (0, fun _ => .partReset)
  | _ => none

/-- A request message: header, body and check value (section 11.3). -/
def requestBytes (tag : Byte) (r : Request) : List Byte :=
  withCrc ([BitVec.ofNat 8 (requestBody r).length, requestCode r, tag] ++ requestBody r)

/-- Checks 1 to 3 of R179 over the bytes of a WRITE: the request, or the status of the check that failed.
Check 4 reads the rights table. -/
def readRequest (bytes : List Byte) : Except Status Request :=
  let body := (bytes.drop 3).take (bytes.length - 5)
  if ¬ (5 ≤ bytes.length ∧ (u8 bytes 0).toNat = bytes.length - 5 ∧ (checkCrc bytes).2) then
    .error .checkError
  else
    match requestForm (u8 bytes 1) with
    | none => .error .unknownRequest
    | some (n, form) => if body.length = n then .ok (form body) else .error .lengthError

/-- The rights table (R180). -/
def allowed (l : Link) (r : Request) : Bool :=
  match r with
  | .timeConfig .. => l == .sm
  | .timePulseSet .. => l == .lc
  | .timeStepLock .. => l == .lc
  | .timeFaultClear .. => l != .sc
  | .timeReport .. => true
  | .stationSet .. => l == .lc
  | .stationRemove .. => l == .lc
  | .stationRun .. => l == .lc
  | .stationHold .. => l == .lc
  | .stationReport .. => true
  | .streamOpen .. => true
  | .streamClose .. => true
  | .streamAdjust .. => true
  | .streamReport .. => true
  | .queueSet .. => l == .sm
  | .queueReport .. => true
  | .backoffMatch .. => l == .sm
  | .portSet .. => l == .sm
  | .portReport .. => true
  | .pointSet .. => l == .lc
  | .gateSet .. => l == .lc
  | .trackReport .. => true
  | .trackList .. => l != .sc
  | .outputSet .. => l == .lc
  | .outputReport .. => true
  | .grantAsk .. => l == .sc
  | .grantConcur .. => l == .lc
  | .grantDecline .. => l == .lc
  | .grantExtend .. => l == .sc
  | .grantRelease .. => l == .sc
  | .grantRevoke .. => l != .sc
  | .grantPolicy .. => l == .lc
  | .grantReport => true
  | .fabricReport => true
  | .noticeTake => true
  | .noticeClear => true
  | .noticeMask .. => true
  | .linkReset => true
  | .partInfo => true
  | .partReset => l != .sc

/-! ### Link replies -/

/-- A reply message with the OVERRUN flag as it stands at the READ (section 11.3, R178). -/
def replyBytes (r : Reply) (overrun : Bool) : List Byte :=
  withCrc (be 2 r.body.length ++ [r.code, r.tag, r.status.code] ++ flag overrun ++ r.body)

/-- The status byte: slot state in bits 1 to 0, OVERRUN in bit 7 (section 11.3). -/
def statusByte (k : LinkRec) : Byte :=
  (match k.slot with
    | .idle => 0
    | .workingHeld .. => 1
    | .workingAnswered _ => 1
    | .ready _ => 2) ||| (if k.overrun then 0x80 else 0)

/-! ### Outbound messages -/

/-- An outbound message on the lane: kind, field length, fields, check value (section 11.5). -/
def outBytes : OutMsg → List Byte
  | .release h p => withCrc ([0x81, 3] ++ field 2 h ++ be 1 p.1)
  | .discard h r => withCrc ([0x82, 3] ++ field 2 h ++ [r.code])
  | .cellOut p st o q => withCrc ([0x83, 7] ++ be 1 p.1 ++ [0x06, 0x00] ++ be 1 st.1 ++ [2, o.code, q])
  | .resync => withCrc [0x84, 0]

/-! ### Inbound messages -/

/-- A cell message as the Fabric Port reads it (section 11.5): the fields of its kind, or the check of R172
that its form fails. -/
inductive Cell where
  | sync (seq : Byte) (originSec : BitVec 48) (originNs : BitVec 32)
  | fillDone (head result : Byte) (fillSec : BitVec 48) (fillNs : BitVec 32)
  | verdict (verdict detail : Byte) (stampSec : BitVec 48) (stampNs : BitVec 32)
  | backoff (code classes : Byte)
  | need (output word : Byte)
  | badKind
  | badLength
  deriving DecidableEq, Repr

/-- The kind and body of a cell message (section 11.5; checks 1 and 2 of R172). -/
def readCell (kind code : Byte) (b : List Byte) : Cell :=
  match kind.toNat with
  | 1 => if b.length = 11 then .sync (u8 b 0) (u48 b 1) (u32 b 7) else .badLength
  | 2 => if b.length = 12 then .fillDone (u8 b 0) (u8 b 1) (u48 b 2) (u32 b 8) else .badLength
  | 3 => if b.length = 12 then .verdict (u8 b 0) (u8 b 1) (u48 b 2) (u32 b 8) else .badLength
  | 4 => if b.length = 1 then .backoff code (u8 b 0) else .badLength
  | 5 => if b.length = 2 then .need (u8 b 0) (u8 b 1) else .badLength
  | _ => .badKind

/-- An inbound fabric message that passes R169, with the values of R170; a CELL-IN with its stamp (R171). -/
inductive Inbound where
  | enqueue (stream : Byte) (handle length : BitVec 16)
  | sent (handle : BitVec 16) (wire : Int)
  | portState (port : Fin 24) (up paused high : Bool)
  | cellIn (port : Fin 24) (station : Byte) (cell : Cell) (began : Stamp)
  deriving DecidableEq, Repr

/-- The reasons of R169. -/
inductive Malformed where
  | check | format
  deriving DecidableEq, Repr

/-- Whole nanoseconds of a seconds and a nanoseconds field. -/
def timeOf (sec : BitVec 48) (ns : BitVec 32) : Int := (sec.toNat * nsPerSec + ns.toNat : Nat)

/-- A SENT with its wire MT in the values of R170. -/
def readSent (handle : BitVec 16) (sec : BitVec 48) (ns : BitVec 32) : Except Malformed Inbound :=
  if ns.toNat ≤ 999999999 then .ok (.sent handle (timeOf sec ns)) else .error .format

/-- A PORT-STATE with its fields in the values of R170. -/
def readPortState (port link pause watermark : Byte) : Except Malformed Inbound :=
  match number 24 port, yesNo link, yesNo pause, yesNo watermark with
  | some p, some u, some z, some w => .ok (.portState p u z w)
  | _, _, _, _ => .error .format

/-- A CELL-IN with its source port in the values of R170, stamped as one that passes R169 (R171). -/
def readCellIn (port station : Byte) (c : Cell) (began : Stamp) : Except Malformed Inbound :=
  match number 24 port with
  | some p => .ok (.cellIn p station c began)
  | none => .error .format

/-- The checks of R169 over a whole inbound message: its kind byte and every byte after it, the check value
last, and when it began to arrive. The check value is judged first (log entry 13). -/
def readInbound (kind : Byte) (rest : List Byte) (began : Stamp) : Except Malformed Inbound :=
  let (msg, ok) := checkCrc (kind :: rest)
  let b := msg.drop 2
  if ok = false then .error .check
  else if msg.length < 2 ∨ (u8 msg 1).toNat ≠ b.length then .error .format
  else
    match kind.toNat with
    | 1 => if b.length = 5 then .ok (.enqueue (u8 b 0) (u16 b 1) (u16 b 3)) else .error .format
    | 2 => if b.length = 12 then readSent (u16 b 0) (u48 b 2) (u32 b 8) else .error .format
    | 3 => if b.length = 4 then readPortState (u8 b 0) (u8 b 1) (u8 b 2) (u8 b 3) else .error .format
    | 4 =>
      if 5 ≤ b.length ∧ b.length = 5 + (u8 b 4).toNat then
        readCellIn (u8 b 0) (u8 b 3) (readCell (u8 b 1) (u8 b 2) (b.drop 5)) began
      else .error .format
    | _ => .error .format

end Sys2Proof.Machine
end

