-- ==== Sys2Proof/Machine/Ops.lean ====
section
/-! DEFINITION. The operations the blocks share: reading and changing records, machine time, the coverage of
ports, the station of a port, posting a notice and handing over an outbound message. -/

namespace Sys2Proof.Machine

/-! ### Counters -/

/-- A 32-bit saturating counter, counted once (section 4.5). -/
def satInc (n : Nat) : Nat := if n < 4294967295 then n + 1 else n

/-- A 32-bit wrapping counter, counted once (section 4.5). -/
def wrapInc (n : Nat) : Nat := (n + 1) % 4294967296

/-! ### Changing one record -/

/-- The Time Unit changed by `f`. -/
def State.onTime (f : TimeUnit → TimeUnit) (s : State) : State := { s with time := f s.time }

/-- Station `i` changed by `f`. -/
def State.onStation (i : Fin 32) (f : Station → Station) (s : State) : State :=
  { s with stations := s.stations.upd i f }

/-- Stream `i` changed by `f`. -/
def State.onStream (i : Fin 128) (f : Stream → Stream) (s : State) : State :=
  { s with streams := s.streams.upd i f }

/-- The occupied slots of the Descriptor Store changed by `f`. -/
def State.onStore (f : List Descriptor → List Descriptor) (s : State) : State :=
  { s with store := f s.store }

/-- Pacing queue `i` changed by `f`. -/
def State.onQueue (i : Fin 8) (f : PacingQueue → PacingQueue) (s : State) : State :=
  { s with queues := s.queues.upd i f }

/-- Port `i` changed by `f`. -/
def State.onPort (i : Fin 24) (f : Port → Port) (s : State) : State :=
  { s with ports := s.ports.upd i f }

/-- The track changed by `f`. -/
def State.onTrack (f : Track → Track) (s : State) : State := { s with track := f s.track }

/-- Output `i` changed by `f`. -/
def State.onOutput (i : Fin 8) (f : Output → Output) (s : State) : State :=
  { s with outputs := s.outputs.upd i f }

/-- Grant slot `i` changed by `f`. -/
def State.onSlot (i : Fin 4) (f : GrantSlot → GrantSlot) (s : State) : State :=
  { s with grants := { s.grants with slots := s.grants.slots.upd i f } }

/-- The Fabric Port changed by `f`. -/
def State.onFabric (f : Fabric → Fabric) (s : State) : State := { s with fabric := f s.fabric }

/-- The record of link `l`. -/
def State.link (s : State) : Link → LinkRec
  | .lc => s.lc
  | .sm => s.sm
  | .sc => s.sc

/-- Link `l` changed by `f`. -/
def State.onLink (l : Link) (f : LinkRec → LinkRec) (s : State) : State :=
  match l with
  | .lc => { s with lc := f s.lc }
  | .sm => { s with sm := f s.sm }
  | .sc => { s with sc := f s.sc }

/-- `f` done for each of `xs`, in order, within one event. -/
def forEach {α : Type} (xs : List α) (f : α → State → State) (s : State) : State :=
  xs.foldl (fun s x => f x s) s

/-! ### Time -/

/-- MT truncated to whole nanoseconds (R1). -/
def MachineTime.toTime (m : MachineTime) : Int := (m.sec * nsPerSec + m.ns : Nat)

/-- The MT at which the present event is taken. -/
def State.now (s : State) : Int := s.time.mt.toTime

/-- The local time at which the present event is taken. -/
def State.localNow (s : State) : Nat := s.time.clock25

/-- The MT and the local time at which the present event is taken. -/
def State.stamp (s : State) : Stamp := { mt := s.now, localTime := s.localNow }

/-- The stamp of an edge or a message: the one that its command carries, or that of the present event (R5, R171; log entry
7). -/
def State.stampOf (s : State) (x : Option Stamp) : Stamp := x.getD s.stamp

/-- A distance of microseconds in MT, in nanoseconds. -/
def usToNs (us : Nat) : Int := (us * nsPerUs : Nat)

/-- A distance of seconds in MT, in nanoseconds. -/
def secToNs (sec : Nat) : Int := (sec * nsPerSec : Nat)

/-- A distance of microseconds in local time, in reference periods (R2). -/
def localUs (us : Nat) : Nat := us * periodsPerUs

/-- A distance of milliseconds in local time. -/
def localMs (ms : Nat) : Nat := localUs (ms * 1000)

/-- A distance of seconds in local time. -/
def localSec (sec : Nat) : Nat := localMs (sec * 1000)

/-- A deadline is held and MT has reached it (R1). -/
def reached (deadline : Option Int) (now : Int) : Bool :=
  match deadline with
  | some d => decide (d ≤ now)
  | none => false

/-- A local-time deadline is held and local time has reached it. -/
def localReached (deadline : Option Nat) (now : Nat) : Bool :=
  match deadline with
  | some d => decide (d ≤ now)
  | none => false

/-! ### Stations and ports -/

/-- Station record `c` is configured on port `p` (R28). -/
def Station.isOn (st : Station) (p : Fin 24) : Bool :=
  match st.conf with
  | some c => c.port == p
  | none => false

/-- The station of port `p`: the station configured on it, if there is one (R42). -/
def State.stationOn (s : State) (p : Fin 24) : Option (Fin 32) :=
  (numbers 32).find? fun i => (s.stations.get i).isOn p

/-- The state of station `i`, absent for an unconfigured record. -/
def State.stationState (s : State) (i : Fin 32) : Option StationState :=
  (s.stations.get i).conf.map (·.state)

/-- The port of station `i`, absent for an unconfigured record. -/
def State.stationPort (s : State) (i : Fin 32) : Option (Fin 24) := (s.stations.get i).conf.map (·.port)

/-- The station of port `p` is in SERVICE. -/
def State.inService (s : State) (p : Fin 24) : Bool :=
  match s.stationOn p with
  | some i => s.stationState i == some .service
  | none => false

/-! ### Coverage (R148) -/

/-- Port `p` lies in the window of the ask (R146). -/
def GrantAsk.holds (a : GrantAsk) (p : Fin 24) : Bool := decide (a.base ≤ p ∧ p ≤ a.limit)

/-- The slot is ACTIVE at `lvl` or higher with `p` in its window. -/
def GrantSlot.covers (g : GrantSlot) (lvl : GrantLevel) (p : Fin 24) : Bool :=
  match g.state, g.ask with
  | .active, some a => decide (lvl.rank ≤ a.level.rank) && a.holds p
  | _, _ => false

/-- Port `p` is covered at `lvl` (R148). -/
def State.covered (s : State) (lvl : GrantLevel) (p : Fin 24) : Bool :=
  s.grants.slots.xs.any fun g => g.covers lvl p

/-- A port that may be absent is covered at `lvl`. -/
def State.coveredAt (s : State) (lvl : GrantLevel) (p : Option (Fin 24)) : Bool :=
  match p with
  | some p => s.covered lvl p
  | none => false

/-- The slot is ASKED or ACTIVE at INTERVENE (R31, R150). -/
def GrantSlot.intervenes (g : GrantSlot) : Bool :=
  match g.state, g.ask with
  | .free, _ => false
  | _, some a => a.level == .intervene
  | _, none => false

/-- The slot is ASKED or ACTIVE at INTERVENE with `p` in its window. -/
def GrantSlot.reserves (g : GrantSlot) (p : Fin 24) : Bool :=
  g.intervenes && (match g.ask with | some a => a.holds p | none => false)

/-! ### Notices (R183, R184) -/

/-- A notice as it is posted: its class less 1, its subject and its reason code (section 11.4). -/
structure Notice where
  cls : Fin 16
  subject : Nat
  reason : Byte
  deriving DecidableEq, Repr

/-- Reasons of MESSAGE-ERROR, in the order of their codes (section 11.4). -/
inductive MessageFault where
  | check | format | kind | length | port | range | repeated | handle | role | head | point | mode
  deriving DecidableEq, Repr

/-- The reason code of MESSAGE-ERROR (section 11.4). -/
def MessageFault.code : MessageFault → Byte
  | .check => 1 | .format => 2 | .kind => 3 | .length => 4 | .port => 5 | .range => 6 | .repeated => 7
  | .handle => 8 | .role => 9 | .head => 10 | .point => 11 | .mode => 12

/-- Reasons of GRANT-CHANGED (R160). -/
inductive GrantEvent where
  | asked | active | warning | extended | ended (why : EndReason)
  deriving DecidableEq, Repr

/-- The reason code of GRANT-CHANGED. The end reason RESET is never posted (R163). -/
def GrantEvent.code : GrantEvent → Byte
  | .asked => 1 | .active => 2 | .warning => 3 | .extended => 4
  | .ended why => 5 + why.code

/-- Class 1, SOURCE-FAULT. -/
def noticeSourceFault (src : TimedSource) (recovered : Bool) : Notice :=
  ⟨0, (sourceOfTimed src).code.toNat, if recovered then 2 else 1⟩

/-- Class 2, TIME-STEPPED. -/
def noticeTimeStepped (src : TimedSource) (forward : Bool) : Notice :=
  ⟨1, (sourceOfTimed src).code.toNat, if forward then 1 else 2⟩

/-- The reason SELECTED of TIME-SOURCE. -/
def reasonSelected : Byte := 1

/-- The reason of TIME-SOURCE for a clock state. -/
def ClockState.reason (c : ClockState) : Byte := c.code + 2

/-- Class 3, TIME-SOURCE. -/
def noticeTimeSource (src : Source) (reason : Byte) : Notice := ⟨2, src.code.toNat, reason⟩

/-- Class 4, GATE-FORCED. -/
def noticeGateForced (occupancy : Nat) (opened : Bool) : Notice := ⟨3, occupancy, if opened then 1 else 2⟩

/-- Class 5, TRACK-EXCEPTION, reason ESCAPED. -/
def noticeEscaped (filler : Fin 32) : Notice := ⟨4, filler.1, 1⟩

/-- Class 5, TRACK-EXCEPTION, reason FULL. -/
def noticeFull (filler : Fin 32) : Notice := ⟨4, filler.1, 2⟩

/-- Class 5, TRACK-EXCEPTION, reason LATE-FILL. -/
def noticeLateFill (filler : Fin 32) : Notice := ⟨4, filler.1, 3⟩

/-- Class 6, GRANT-CHANGED. -/
def noticeGrant (slot : Fin 4) (e : GrantEvent) : Notice := ⟨5, slot.1, e.code⟩

/-- Class 7, STATION-CHANGED, with the new state as reason. -/
def noticeStation (i : Fin 32) (st : StationState) : Notice := ⟨6, i.1, st.code + 1⟩

/-- Class 7, STATION-CHANGED, reason CONFIGURED. -/
def noticeConfigured (i : Fin 32) : Notice := ⟨6, i.1, 5⟩

/-- Class 7, STATION-CHANGED, reason REMOVED. -/
def noticeRemoved (i : Fin 32) : Notice := ⟨6, i.1, 6⟩

/-- Class 8, PORT-LINK. -/
def noticePortLink (p : Fin 24) (up : Bool) : Notice := ⟨7, p.1, if up then 1 else 2⟩

/-- Class 9, VERDICT-LATE. -/
def noticeVerdictLate (camera : Fin 32) (pass : Bool) : Notice := ⟨8, camera.1, if pass then 1 else 2⟩

/-- Class 10, VERDICT-STRAY, reason SERVICE. -/
def noticeStrayService (camera : Fin 32) : Notice := ⟨9, camera.1, 1⟩

/-- Class 10, VERDICT-STRAY, reason CONFLICT. -/
def noticeStrayConflict (camera : Fin 32) : Notice := ⟨9, camera.1, 2⟩

/-- Class 10, VERDICT-STRAY, reason NO-RECORD. -/
def noticeStrayNoRecord (camera : Fin 32) : Notice := ⟨9, camera.1, 3⟩

/-- Class 11, STREAM-CONGESTED. -/
def noticeCongested (i : Fin 128) (fromBackoff : Bool) : Notice := ⟨10, i.1, if fromBackoff then 2 else 1⟩

/-- Class 12, STREAM-DRAINED, with the close reason. A stream that becomes FREE has one (R47); the code 0 for a
record without one stands in no run. -/
def noticeDrained (i : Fin 128) (why : Option CloseReason) : Notice :=
  ⟨11, i.1, match why with | some c => c.code + 1 | none => 0⟩

/-- Class 13, DISCARDS. -/
def noticeDiscards (stream : Nat) (why : DiscardReason) : Notice := ⟨12, stream, why.code⟩

/-- Class 14, MESSAGE-ERROR. -/
def noticeMessageError (subject : Nat) (why : MessageFault) : Notice := ⟨13, subject, why.code⟩

/-- Class 15, FABRIC-RESYNC. -/
def noticeResync (count : Nat) (up : Bool) : Notice := ⟨14, count, if up then 1 else 2⟩

/-- Class 16, RESTARTED, reason POWER-ON. -/
def noticePowerOn : Notice := ⟨15, 0, 1⟩

/-- Class 16, RESTARTED, reason WARM, with the link of the PART-RESET. -/
def noticeWarm (l : Link) : Notice := ⟨15, (linkCode l).toNat, 2⟩

/-- Class 16, RESTARTED, reason WARM-PIN. -/
def noticeWarmPin : Notice := ⟨15, 0, 3⟩

/-- The detail record of a class after a post at `mt` (R183). -/
def Notice.record (n : Notice) (mt : Int) : Option Detail → Option Detail
  | none => some { mt := mt, subject := BitVec.ofNat 32 n.subject, reason := n.reason, more := false }
  | some d => some { d with more := true }

/-- The post delivered to one link (R183). -/
def deliver (n : Notice) (mt : Int) (k : LinkRec) : LinkRec :=
  { k with notices := k.notices.upd n.cls (n.record mt) }

/-- A post: delivered to the LC and SM links, and to the SC link where `toSc` says so (R183, R184). -/
def post (n : Notice) (toSc : Bool) (s : State) : State :=
  { s with
    lc := deliver n s.now s.lc
    sm := deliver n s.now s.sm
    sc := if toSc then deliver n s.now s.sc else s.sc }

/-- A post of a class that reaches the SC link always. -/
def postAll (n : Notice) (s : State) : State := post n true s

/-- A post that reaches the SC link when its port is covered at OBSERVE or above (R184). -/
def postAt (n : Notice) (p : Option (Fin 24)) (s : State) : State := post n (s.coveredAt .observe p) s

/-- A post routed by the port of station `i` (R184). -/
def postStation (n : Notice) (i : Fin 32) (s : State) : State := postAt n (s.stationPort i) s

/-! ### Outbound messages (R167) -/

/-- A block hands `m` to the Fabric Port: it joins the tail of the outbound queue, or is lost and counted where
the queue holds 1,024 messages. -/
def handOver (m : OutMsg) (s : State) : State :=
  s.onFabric fun f =>
    if f.outbound.length < 1024 then { f with outbound := f.outbound ++ [m] }
    else { f with overflow := satInc f.overflow }

end Sys2Proof.Machine
end

