-- ==== Sys2Proof/Machine/Slots.lean ====
section
/-! DEFINITION. The reply slot of a link and the way of a request through it (R176 to R179). -/

namespace Sys2Proof.Machine

/-- The outcome of a command. -/
abbrev Result := Host.Outcome State Fault Refusal

/-- What an owner makes of a request it takes: the state after it and its reply (R179, section 4.6). -/
structure Answer where
  state : State
  status : Status
  body : List Byte
  deriving DecidableEq, Repr

/-- A refusal: no state is changed and the reply body is empty (section 4.6, R180). -/
def refuse (why : Status) (s : State) : Answer := ⟨s, why, []⟩

/-- A request performed, with its results. -/
def done (body : List Byte) (s : State) : Answer := ⟨s, .done, body⟩

/-- The slot is in WORKING. -/
def Slot.working : Slot → Bool
  | .workingHeld .. => true
  | .workingAnswered _ => true
  | _ => false

/-- The slot of link `l` set. -/
def State.setSlot (l : Link) (x : Slot) (s : State) : State := s.onLink l fun k => { k with slot := x }

/-- A WRITE of `n` bytes after the transaction byte begins: the part returns H'00 on every byte (section 11.3),
the byte returned during the transaction byte not among those recorded (log entry 43), and OVERRUN is set where the
slot is not IDLE (R177). -/
def beginWrite (l : Link) (n : Nat) (s : State) : State :=
  s.onLink l fun k =>
    { k with spiOut := List.replicate n 0, overrun := k.overrun || !(k.slot == .idle) }

/-- The two requests whose own rule places their reply within the request (R189, R191). -/
def placedAtOnce : Request → Bool
  | .linkReset => true
  | .partReset => true
  | _ => false

/-- The owner of request `r`, held in the slot of link `l`, takes it: its answer becomes the reply, which waits
to be placed (R177), or is placed within the request (R189, R191). -/
def ownerTakes (l : Link) (tag : Byte) (r : Request) (own : State → Answer) (s : State) : State :=
  let a := own s
  let reply : Reply := { code := requestCode r, tag := tag, status := a.status, body := a.body }
  a.state.setSlot l (if placedAtOnce r then .ready reply else .workingAnswered reply)

/-- A WRITE on link `l` that carries the well-framed request `r`, taken by its owner at once (R177, R179; log
entry 8): ignored in WORKING, refused where the rights table does not allow the link, else performed. -/
def request (l : Link) (tag : Byte) (r : Request) (own : State → Answer) (s : State) : State :=
  let s1 := beginWrite l ((requestBody r).length + 5) s
  if (s.link l).slot.working then s1
  else if allowed l r then ownerTakes l tag r own (s1.setSlot l (.workingHeld r tag))
  else s1.setSlot l (.workingAnswered { code := requestCode r, tag := tag, status := .refusedRights, body := [] })

/-- The bytes a READ has to deliver: the status byte, and the reply where the slot is READY (R178). -/
def readout (k : LinkRec) : List Byte :=
  match k.slot with
  | .ready r => statusByte k :: replyBytes r k.overrun
  | _ => [statusByte k]

/-- The first `n` of the bytes `bs`, then `fill` for each byte clocked out beyond them. -/
def clockOut (n : Nat) (fill : Byte) (bs : List Byte) : List Byte :=
  bs.take n ++ List.replicate (n - bs.length) fill

/-- A READ that clocks out `n` bytes after the transaction byte (R178). The status byte is the first of them: the
byte returned during the transaction byte itself is not recorded (log entry 43). -/
def readSlot (n : Nat) (k : LinkRec) : LinkRec :=
  match k.slot with
  | .ready _ => { k with spiOut := clockOut n 0 (readout k), slot := .idle, overrun := false }
  | _ => { k with spiOut := clockOut n Config.noReplyFill (readout k) }

/-- The reply made for a request in WORKING is placed: the slot goes to READY (R177). -/
def placeReply (k : LinkRec) : LinkRec :=
  match k.slot with
  | .workingAnswered r => { k with slot := .ready r }
  | _ => k

end Sys2Proof.Machine
end

