-- ==== Sys2Proof/Machine/Flags.lean ====
section
/-! DEFINITION. The signals that follow from the state of a link: the pending classes and the ATTN output (R182,
R185). -/

namespace Sys2Proof.Machine

/-- Class c + 1 is pending (R182). -/
def LinkRec.pends (k : LinkRec) (c : Fin 16) : Bool := (k.notices.get c).isSome

/-- Class c + 1 is enabled (R182). -/
def LinkRec.enables (k : LinkRec) (c : Fin 16) : Bool := k.mask.getLsbD c.1

/-- The set of pending classes: bit n − 1 stands for class n (section 11.2). -/
def LinkRec.pendingSet (k : LinkRec) : Nat :=
  (numbers 16).foldl (fun acc c => if k.pends c then acc + 2 ^ c.1 else acc) 0

/-- The pending class with the lowest number, less 1 (R186). -/
def LinkRec.firstPending (k : LinkRec) : Option (Fin 16) := (numbers 16).find? k.pends

/-- The ATTN output of the link is at its active level, low (R185). -/
def LinkRec.attnLow (k : LinkRec) : Bool := (numbers 16).any fun c => k.pends c && k.enables c

end Sys2Proof.Machine
end

