-- ==== Sys2Proof/Machine/Outputs.lean ====
section
/-! DEFINITION. The Trigger Output Unit (chapter 7) and the gate output (section 6.4). -/

namespace Sys2Proof.Machine

/-! ### The output record -/

/-- The states of an output, in the order of R135. -/
inductive OutState where
  | idle | active | stopped | waitingTime | heldActive
  deriving DecidableEq, Repr

/-- Position in the table of R135 (log entry 22). -/
def OutState.code : OutState → Byte
  | .idle => 0 | .active => 1 | .stopped => 2 | .waitingTime => 3 | .heldActive => 4

/-- The feed is wanted: feed enable yes, or a need (R140). -/
def Output.wanted (o : Output) : Bool := o.feedEnable || !o.needs.isEmpty

/-- The FEED output is running under clock state `c` (R140). -/
def Output.running (c : ClockState) (o : Output) : Bool :=
  o.wanted && (c == .locked || c == .holdover || o.runAlways)

/-- The state of an output under clock state `c` (R128, R135). -/
def Output.shown (c : ClockState) (o : Output) : OutState :=
  match o.mode with
  | .off => .idle
  | .trigger => if o.pulseEnd.isSome then .active else .idle
  | .feed =>
    if o.pulseEnd.isSome then .active
    else if o.running c then .idle
    else if o.wanted then .waitingTime
    else .stopped
  | .gate => if o.hold then .heldActive else if o.pulseEnd.isSome then .active else .idle

/-- The output drives its active level (R128, R135). -/
def Output.driven (c : ClockState) (o : Output) : Bool :=
  o.shown c == .active || o.shown c == .heldActive

/-- The level of the output's pin: true for high (R135). -/
def Output.pinHigh (c : ClockState) (o : Output) : Bool :=
  match o.level with
  | .high => o.driven c
  | .low => !o.driven c

/-- The effective width of a FEED pulse, in nanoseconds: below half the feed period the pulse width, half the
period otherwise (R139). -/
def Output.effectiveNs (o : Output) : Nat := min (o.widthUs * nsPerUs) (o.period.ns / 2)

/-- The first feed instant strictly later than `t` (R139). -/
def nextInstant (period : FeedPeriod) (t : Int) : Int := (t / (period.ns : Int) + 1) * (period.ns : Int)

/-- A pulse asked of the output, to end at `fin`: it starts, or merges with the one in progress (R129, R135,
R138). -/
def Output.ask (fin : Int) (o : Output) : Output :=
  match o.pulseEnd with
  | none => { o with pulseEnd := some fin, started := satInc o.started }
  | some e => { o with pulseEnd := some (max e fin), merged := satInc o.merged }

/-- The inspection point that names output `o` as its trigger output (section 7.2). -/
def State.pointNaming (s : State) (o : Fin 8) : Option (Fin 4) :=
  (numbers 4).find? fun i => (s.points.get i).enabled && (s.points.get i).output == some o

/-- The gate record names output `o`. -/
def State.gateNames (s : State) (o : Fin 8) : Bool := s.gate.output == some o

/-! ### Pulses asked by the Track Unit -/

/-- A TRIGGER pulse asked at the MT of the event (R104, R138): an output that is not in TRIGGER mode is not
asked. -/
def askTrigger (o : Option (Fin 8)) (s : State) : State :=
  match o with
  | none => s
  | some o =>
    s.onOutput o fun x => if x.mode = .trigger then x.ask (s.now + usToNs x.widthUs) else x

/-- A gate pulse of the gate pulse width asked at the MT of the event (R107, R129): an output that is not in GATE
mode is not asked. -/
def askGate (s : State) : State :=
  match s.gate.output with
  | none => s
  | some o => s.onOutput o fun x => if x.mode = .gate then x.ask (s.now + usToNs s.gate.widthUs) else x

/-- The hold begins: the unit records the window as open and the output in GATE mode sets its hold on (R131). -/
def holdBegins (s : State) : State :=
  { s with
    outWindow := true
    outputs := s.outputs.map fun x => if x.mode = .gate then { x with hold := true } else x }

/-- The hold ends: the unit records the window as closed and the output in GATE mode sets its hold off (R132). -/
def holdEnds (s : State) : State :=
  { s with
    outWindow := false
    outputs := s.outputs.map fun x => if x.mode = .gate then { x with hold := false } else x }

/-! ### Need sets -/

/-- Station `i` added to a need set, which stays ascending and without repeats (R141). -/
def addNeed (i : Fin 32) (set : List (Fin 32)) : List (Fin 32) :=
  (numbers 32).filter fun j => j == i || set.contains j

/-- Station `i` removed from a need set. -/
def dropNeed (i : Fin 32) (set : List (Fin 32)) : List (Fin 32) := set.filter (· != i)

/-- Station `i` leaves the need set of every output in FEED mode (R142). -/
def leaveNeeds (i : Fin 32) (s : State) : State :=
  { s with
    outputs := s.outputs.map fun x => if x.mode = .feed then { x with needs := dropNeed i x.needs } else x }

/-- A NEED that has passed the Fabric Port's checks, from station `i` (R141). -/
def takeNeed (i : Fin 32) (output word : Byte) (s : State) : State :=
  match number 8 output, yesNo word with
  | some o, some wantsIt =>
    if (s.outputs.get o).mode = .feed then
      s.onOutput o fun x =>
        { x with needs := if wantsIt then addNeed i x.needs else dropNeed i x.needs }
    else postAll (noticeMessageError i.1 .mode) s
  | _, _ => postAll (noticeMessageError i.1 .range) s

/-! ### OUTPUT-SET (R136, R137) -/

/-- The settings an OUTPUT-SET carries. -/
structure OutputSettings where
  mode : OutputMode
  level : ActiveLevel
  widthUs : Nat
  period : FeedPeriod
  feedEnable : Bool
  runAlways : Bool
  deriving DecidableEq, Repr

/-- Check 1 of R136. -/
def readOutputSettings (mode level : Byte) (widthUs : BitVec 32) (period enable runAlways : Byte) :
    Option OutputSettings := do
  let m ← modeOf mode
  let v ← activeLevelOf level
  let w ← inRange 1 100000 widthUs
  let p ← periodOf period
  let e ← yesNo enable
  let r ← yesNo runAlways
  pure { mode := m, level := v, widthUs := w, period := p, feedEnable := e, runAlways := r }

/-- The record with the settings of the request. -/
def Output.withSettings (c : OutputSettings) (o : Output) : Output :=
  { o with
    level := c.level, widthUs := c.widthUs, period := c.period, feedEnable := c.feedEnable
    runAlways := c.runAlways }

/-- A change of mode at MT `now`, with the window recorded as `window`: the old mode is left, the new one entered
(R137, R133). -/
def Output.enter (m : OutputMode) (now : Int) (window : Bool) (o : Output) : Output :=
  { o with
    mode := m, pulseEnd := none, needs := []
    nextFeed := if m = .feed then some (nextInstant o.period now) else none
    hold := m == .gate && window }

/-- An accepted OUTPUT-SET on one record (R137). -/
def Output.configure (c : OutputSettings) (now : Int) (window : Bool) (o : Output) : Output :=
  if o.mode ≠ c.mode then (o.withSettings c).enter c.mode now window
  else if c.mode = .feed ∧ o.period ≠ c.period then
    { o.withSettings c with nextFeed := some (nextInstant c.period now) }
  else o.withSettings c

/-- Another output than `o` is in GATE mode (R136, check 3). -/
def State.otherGate (s : State) (o : Fin 8) : Bool :=
  (numbers 8).any fun j => j != o && (s.outputs.get j).mode == .gate

/-- OUTPUT-SET (R136, R137). -/
def ownOutputSet (output mode level : Byte) (widthUs : BitVec 32) (period enable runAlways : Byte)
    (s : State) : Answer :=
  match number 8 output, readOutputSettings mode level widthUs period enable runAlways with
  | some o, some c =>
    if (s.outputs.get o).mode ≠ c.mode ∧ ((s.pointNaming o).isSome ∨ s.gateNames o = true)
        ∧ s.track.records ≠ [] then refuse .refusedState s
    else if c.mode = .gate ∧ s.otherGate o = true then refuse .refusedConflict s
    else done [] (s.onOutput o (·.configure c s.now s.outWindow))
  | _, _ => refuse .refusedRange s

/-! ### OUTPUT-REPORT (R145) -/

/-- A set of station numbers in 4 bytes, bit n standing for station n (R194). -/
def stationSetBytes (set : List (Fin 32)) : List Byte :=
  be 4 ((numbers 32).foldl (fun acc i => if set.contains i then acc + 2 ^ i.1 else acc) 0)

/-- A pin level: position in "high or low" of R145 (log entry 22). -/
def pinCode (high : Bool) : List Byte := [if high then 0 else 1]

/-- The reply body of OUTPUT-REPORT (R145). -/
def outputReport (s : State) (o : Fin 8) : List Byte :=
  let x := s.outputs.get o
  [x.mode.code, x.level.code] ++ be 4 x.widthUs ++ [x.period.code] ++ flag x.feedEnable ++ flag x.runAlways
    ++ [(x.shown s.time.clock).code] ++ pinCode (x.pinHigh s.time.clock)
    ++ timeOrFF x.pulseEnd
    ++ be 4 (x.effectiveNs / nsPerUs) ++ timeOrFF x.nextFeed
    ++ stationSetBytes x.needs
    ++ flag x.hold ++ flag s.outWindow
    ++ orFF 1 ((s.pointNaming o).map fun i => be 1 i.1) ++ flag (s.gateNames o)
    ++ be 4 x.started ++ be 4 x.merged

/-- OUTPUT-REPORT (R145). -/
def ownOutputReport (output : Byte) (s : State) : Answer :=
  match number 8 output with
  | some o => done (outputReport s o) s
  | none => refuse .refusedRange s

/-! ### Steps and warm reset -/

/-- The output at a step by `d`, with `now` the MT after it (R143). -/
def Output.shift (d : Int) (now : Int) (o : Output) : Output :=
  { o with
    pulseEnd := o.pulseEnd.map (· + d)
    nextFeed := if o.mode = .feed then some (nextInstant o.period now) else o.nextFeed }

/-- The output at a warm reset (R134, R144). -/
def Output.warm (now : Int) (o : Output) : Output :=
  { o with
    pulseEnd := none, needs := [], started := 0, merged := 0
    nextFeed := if o.mode = .feed then some (nextInstant o.period now) else o.nextFeed }

/-! ### The meanings of the commands -/

/-- OUTPUT_SET. -/
def execOutputSet (l : Link) (tag output mode level : Byte) (widthUs : BitVec 32)
    (period enable runAlways : Byte) (s : State) : Result :=
  .next (request l tag (.outputSet output mode level widthUs period enable runAlways)
    (ownOutputSet output mode level widthUs period enable runAlways) s)

/-- OUTPUT_REPORT. -/
def execOutputReport (l : Link) (tag output : Byte) (s : State) : Result :=
  .next (request l tag (.outputReport output) (ownOutputReport output) s)

/-- PULSE_END_EXPIRY: the pulse end becomes absent (R130, R138, R140); nothing expires where it is not held or not
reached (R1; log entry 3). -/
def execPulseEndExpiry (o : Fin 8) (s : State) : Result :=
  .next (if reached (s.outputs.get o).pulseEnd s.now then s.onOutput o fun x => { x with pulseEnd := none } else s)

/-- The output takes its feed instant `t` (R139, R140). -/
def Output.takeInstant (c : ClockState) (t : Int) (o : Output) : Output :=
  let o1 := if o.running c then o.ask (t + (o.effectiveNs : Int)) else o
  { o1 with nextFeed := some (t + (o.period.ns : Int)) }

/-- FEED_INSTANT (R139, R140), where the output is in FEED mode and MT has reached its next feed instant. -/
def execFeedInstant (o : Fin 8) (s : State) : Result :=
  let x := s.outputs.get o
  match x.nextFeed with
  | some t =>
    .next (if x.mode = .feed ∧ t ≤ s.now then s.onOutput o (·.takeInstant s.time.clock t) else s)
  | none => .next s

end Sys2Proof.Machine
end

