-- ==== Sys2Proof/Machine/Streams.lean ====
section
/-! DEFINITION. The Stream Table and the Descriptor Store (chapter 3), and the congestion of streams (section
4.2). -/

namespace Sys2Proof.Machine

/-! ### The Descriptor Store -/

/-- The descriptor is PENDING on stream `i`. -/
def Descriptor.waits (i : Fin 128) (d : Descriptor) : Bool := d.stream == i && d.state == .pending

/-- The descriptor is WIRE-HELD on stream `i`. -/
def Descriptor.wireHeldOn (i : Fin 128) (d : Descriptor) : Bool := d.stream == i && d.state == .wireHeld

/-- The pending list of stream `i`, oldest first (R44). -/
def State.pendingList (s : State) (i : Fin 128) : List Descriptor := s.store.filter (·.waits i)

/-- Stream `i` holds no PENDING and no WIRE-HELD descriptor. -/
def State.holdsNone (s : State) (i : Fin 128) : Bool := s.store.all (·.stream != i)

/-- The slot that holds `handle` is freed. -/
def freeSlot (handle : BitVec 16) (s : State) : State := s.onStore (·.filter (·.handle != handle))

/-- The stream is OPEN or DRAINING. -/
def Stream.live (x : Stream) : Bool := x.state == .opened || x.state == .draining

/-- The egress port of stream `i` while it is OPEN or DRAINING (R184). -/
def State.streamPort (s : State) (i : Fin 128) : Option (Fin 24) :=
  if (s.streams.get i).live then (s.streams.get i).egress else none

/-- Stream `i` is owned by the SC link. -/
def Stream.ownedBySc (x : Stream) : Bool := x.owner == some .sc

/-- The stream is held: the station of its egress port is in SERVICE, its class is not TIME and its owner is not
the SC link (R42). -/
def State.held (s : State) (x : Stream) : Bool :=
  x.cls != some .time && !x.ownedBySc && (match x.egress with | some p => s.inService p | none => false)

/-! ### Becoming FREE (R50) -/

/-- Stream `i` becomes FREE other than by a reset: STREAM-DRAINED is posted with the close reason (R50), routed by
the egress port of the opening just ended (R184). -/
def freeStream (i : Fin 128) (s : State) : State :=
  postAt (noticeDrained i (s.streams.get i).closeReason) (s.streams.get i).egress
    (s.onStream i fun x => { x with state := .free })

/-- A DRAINING stream that holds no descriptor becomes FREE (R50). -/
def drainCheck (i : Fin 128) (s : State) : State :=
  if (s.streams.get i).state = .draining ∧ s.holdsNone i = true then freeStream i s else s

/-! ### Discards (R55) -/

/-- One counter of a table of discard counters, counted once. -/
def countDiscard (why : DiscardReason) (t : Tbl Nat 13) : Tbl Nat 13 := t.upd why.index satInc

/-- Effect 3 of R55. -/
def countStoreWide (why : DiscardReason) (s : State) : State :=
  { s with storeDiscards := countDiscard why s.storeDiscards }

/-- Effect 4 of R55 for stream `i`. -/
def countStream (why : DiscardReason) (i : Fin 128) (s : State) : State :=
  s.onStream i fun x => { x with discards := countDiscard why x.discards }

/-- The discard of a PENDING descriptor (R55, effects 1 to 5). Whether its stream then becomes FREE is settled by
`drainCheck` at the end of the event. -/
def discardPending (why : DiscardReason) (d : Descriptor) (s : State) : State :=
  postAt (noticeDiscards d.stream.1 why) (s.streamPort d.stream)
    (countStream why d.stream (countStoreWide why
      (freeSlot d.handle (handOver (.discard d.handle why) s))))

/-- Several descriptors of one list discarded, in list order (R44). -/
def discardList (why : DiscardReason) (ds : List Descriptor) (s : State) : State :=
  forEach ds (discardPending why) s

/-- Every PENDING descriptor of stream `i` discarded, oldest first (R44). -/
def discardAll (why : DiscardReason) (i : Fin 128) (s : State) : State := discardList why (s.pendingList i) s

/-- The discard of an ENQUEUE at intake, for the stream number it names (R53, R55): the stream's counter counts
where the stream is OPEN or DRAINING. -/
def discardIntake (why : DiscardReason) (handle : BitVec 16) (stream : Byte) (s : State) : State :=
  let s1 := countStoreWide why (handOver (.discard handle why) s)
  match number 128 stream with
  | some i =>
    if (s.streams.get i).live then
      postAt (noticeDiscards stream.toNat why) (s.streamPort i) (countStream why i s1)
    else postAt (noticeDiscards stream.toNat why) none s1
  | none => postAt (noticeDiscards stream.toNat why) none s1

/-! ### Closing (R47 to R51) -/

/-- The close reason is recorded when the stream leaves OPEN (R47). -/
def recordReason (why : CloseReason) (x : Stream) : Stream :=
  if x.state = .opened then { x with closeReason := some why } else x

/-- A stream that leaves OPEN, or keeps draining: FREE where it holds no descriptor, else DRAINING (R48, R49). -/
def settleClose (i : Fin 128) (s : State) : State :=
  if s.holdsNone i then freeStream i s else s.onStream i fun x => { x with state := .draining }

/-- A close with flush of an OPEN or DRAINING stream (R49). -/
def closeFlush (why : CloseReason) (i : Fin 128) (s : State) : State :=
  settleClose i (discardAll .flushed i (s.onStream i (recordReason why)))

/-- A close without flush: nothing changes for a DRAINING stream (R48). -/
def closeDrain (why : CloseReason) (i : Fin 128) (s : State) : State :=
  if (s.streams.get i).state = .opened then settleClose i (s.onStream i (recordReason why)) else s

/-- The streams a grant's end closes: owned by the SC link, OPEN or DRAINING, egress port in the ended window and
not covered at CONFIGURE or above by another ACTIVE grant (R51). -/
def State.endedBy (s : State) (a : GrantAsk) (i : Fin 128) : Bool :=
  let x := s.streams.get i
  x.live && x.ownedBySc &&
    (match x.egress with | some p => a.holds p && !s.covered .configure p | none => false)

/-- The Stream Table at the end of a grant that was ACTIVE at CONFIGURE or INTERVENE, its slot already FREE
(R51). -/
def closeEnded (a : GrantAsk) (s : State) : State :=
  forEach (numbers 128) (fun i s => if s.endedBy a i then closeFlush .grantEnded i s else s) s

/-! ### Stations and links of ports (R57 to R59) -/

/-- Every PENDING descriptor of the streams that `sel` selects is discarded, streams in ascending number (R44),
and a DRAINING stream left empty becomes FREE (R50). -/
def discardStreams (why : DiscardReason) (sel : Stream → Bool) (s : State) : State :=
  forEach (numbers 128)
    (fun i s => if sel (s.streams.get i) then drainCheck i (discardAll why i s) else s) s

/-- A port's link has gone down (R57). -/
def portWentDown (p : Fin 24) (s : State) : State :=
  discardStreams .linkDown (fun x => x.egress == some p) s

/-- The stations of the ports that `ports` selects have entered SERVICE in one event (R58). -/
def serviceEntered (ports : Fin 24 → Bool) (s : State) : State :=
  discardStreams .held (fun x => x.egress.any ports && x.cls == some .cyclic && !x.ownedBySc) s

/-- The station field cleared in every stream that names station `i` and whose egress port `keep` does not keep
(R59), in a FREE record too (log entry 40). -/
def clearStationField (i : Fin 32) (keep : Option (Fin 24)) (s : State) : State :=
  { s with
    streams := s.streams.map fun x =>
      if x.station = some i ∧ (keep = none ∨ x.egress ≠ keep) then { x with station := none } else x }

/-! ### Congestion (R69 to R72) -/

/-- A congestion notice to stream `i` (R71, R72). -/
def congest (fromBackoff : Bool) (i : Fin 128) (s : State) : State :=
  let x := s.streams.get i
  let tell := fun s => if x.level = 0 then postAt (noticeCongested i fromBackoff) (s.streamPort i) s else s
  match x.recovery with
  | .clean _ =>
    tell (s.onStream i fun x => { x with level := min (x.level + 1) 4, clean := 0 })
  | .shed =>
    drainCheck i (tell ((discardAll .shed i s).onStream i fun x => { x with level := 1, quiet := 0 }))

/-- A congestion notice to every OPEN or DRAINING stream that `sel` selects, in ascending number (R69, R70). -/
def congestStreams (fromBackoff : Bool) (sel : Stream → Bool) (s : State) : State :=
  forEach (numbers 128)
    (fun i s => if (s.streams.get i).live && sel (s.streams.get i) then congest fromBackoff i s else s) s

/-- A watermark-high event of port `p` (R69). -/
def watermarkHigh (p : Fin 24) (s : State) : State :=
  congestStreams false (fun x => x.cls == some .bulk && x.egress == some p) s

/-- The class of the stream is in the class set (R70). -/
def Stream.classIn (set : Byte) (x : Stream) : Bool :=
  match x.cls with
  | some c => inClassSet set c
  | none => false

/-- A BACKOFF that has passed the Fabric Port's checks, from port `p` (R70). -/
def takeBackoff (p : Fin 24) (code classes : Byte) (s : State) : State :=
  if code &&& s.backoff.mask = s.backoff.compare then
    congestStreams true (fun x => x.classIn classes && x.egress == some p)
      { s with backoff := { s.backoff with matched := satInc s.backoff.matched } }
  else { s with backoff := { s.backoff with unmatched := satInc s.backoff.unmatched } }

/-! ### Intake (R53, R54) -/

/-- The handle stands in the outstanding list of some port. -/
def State.isOutstanding (s : State) (handle : BitVec 16) : Bool :=
  s.ports.xs.any fun p => p.outstanding.any (·.handle == handle)

/-- The handle is held by a descriptor in the store. -/
def State.inStore (s : State) (handle : BitVec 16) : Bool := s.store.any (·.handle == handle)

/-- Checks 4 to 8 of R53 for stream `i`: the reason of the first that fails. -/
def State.intakeReason (s : State) (i : Fin 128) : Option DiscardReason :=
  let x := s.streams.get i
  if x.state = .draining then some .closing
  else if x.recovery = .shed ∧ x.level = 1 then some .shed
  else if x.cls = some .cyclic ∧ x.ownedBySc = false
      ∧ (match x.egress with | some p => s.inService p | none => false) = true then some .held
  else if 512 ≤ s.store.length then some .storeFull
  else if x.cap ≤ (s.pendingList i).length ∧ x.cls ≠ some .cyclic then some .cap
  else none

/-- The staleness deadline of a descriptor that stream `x` accepts at MT `now` (R43). -/
def Stream.staleAt (x : Stream) (now : Int) : Option Int :=
  if x.cls = some .cyclic ∧ x.staleUs ≠ 0 then some (now + usToNs x.staleUs) else none

/-- The ENQUEUE joins the tail of stream `i`, after the oldest has been overtaken where a CYCLIC stream stands at
its cap (R54). -/
def accept (i : Fin 128) (handle length : BitVec 16) (s : State) : State :=
  let x := s.streams.get i
  let s1 :=
    if x.cls = some .cyclic ∧ x.cap ≤ (s.pendingList i).length then
      discardList .overtaken ((s.pendingList i).take 1) s
    else s
  s1.onStore (· ++ [{ handle := handle, stream := i, length := length.toNat, arrival := s.now,
                      staleAt := x.staleAt s.now, state := .pending }])

/-- An ENQUEUE that has passed the Fabric Port's checks (R53). -/
def takeEnqueue (stream : Byte) (handle length : BitVec 16) (s : State) : State :=
  if length.toNat < 64 ∨ 9216 < length.toNat then discardIntake .length handle stream s
  else if s.inStore handle = true ∨ s.isOutstanding handle = true then
    discardIntake .duplicate handle stream s
  else
    match number 128 stream with
    | none => discardIntake .noStream handle stream s
    | some i =>
      if (s.streams.get i).state = .free then discardIntake .noStream handle stream s
      else
        match s.intakeReason i with
        | some why => discardIntake why handle stream s
        | none => accept i handle length s

/-! ### Stream requests -/

/-- The settings of a STREAM-OPEN. -/
structure StreamSettings where
  cls : StreamClass
  egress : Fin 24
  station : Option (Fin 32)
  queue : Fin 8
  quota : Nat
  cap : Nat
  staleUs : Nat
  recovery : Recovery
  wireHold : Bool
  deriving DecidableEq, Repr

/-- Check 1 of R46, the stream number apart. -/
def readStreamSettings (cls port station queue quota cap : Byte) (staleUs : BitVec 32)
    (recovery wireHold : Byte) : Option StreamSettings := do
  let c ← classOf cls
  let p ← number 24 port
  let st ← numberOrNone 32 station
  let q ← number 8 queue
  let bq ← inRange 1 63 quota
  let pc ← inRange 1 64 cap
  let sl ← stalenessOf staleUs
  let r ← recoveryOf recovery
  let w ← yesNo wireHold
  if sl ≠ 0 ∧ c ≠ .cyclic then none
  else pure { cls := c, egress := p, station := st, queue := q, quota := bq, cap := pc, staleUs := sl,
              recovery := r, wireHold := w }

/-- The record of a stream opened on link `l` (R46). -/
def StreamSettings.opened (c : StreamSettings) (l : Link) : Stream :=
  { state := .opened, owner := some l, cls := some c.cls, egress := some c.egress, station := c.station,
    queue := c.queue, quota := c.quota, credit := 1, cap := c.cap, staleUs := c.staleUs,
    recovery := c.recovery, level := 0, clean := 0, phase := 0, quiet := 0, wireHold := c.wireHold,
    closeReason := none, released := 0, discards := Tbl.fill 13 0 }

/-- STREAM-OPEN on link `l` (R46). -/
def ownStreamOpen (l : Link) (stream cls port station queue quota cap : Byte) (staleUs : BitVec 32)
    (recovery wireHold : Byte) (s : State) : Answer :=
  match number 128 stream, readStreamSettings cls port station queue quota cap staleUs recovery wireHold with
  | some i, some c =>
    if l = .sc ∧ (c.cls ≠ .service ∨ s.covered .configure c.egress = false) then refuse .refusedRights s
    else if (match c.station with
        | some st => s.stationPort st != some c.egress
        | none => false) = true then refuse .refusedRange s
    else if (s.streams.get i).state ≠ .free then refuse .refusedState s
    else done [] (s.onStream i fun _ => c.opened l)
  | _, _ => refuse .refusedRange s

/-- STREAM-CLOSE on link `l` (R47): on the SM link a close of another link's stream acts with flush and reason
FORCED. -/
def ownStreamClose (l : Link) (stream flush : Byte) (s : State) : Answer :=
  match number 128 stream, yesNo flush with
  | some i, some f =>
    let x := s.streams.get i
    if x.state = .free then refuse .refusedState s
    else if l = .lc ∧ x.owner ≠ some .lc then refuse .refusedRights s
    else if l = .sc ∧ (x.owner ≠ some .sc ∨ s.coveredAt .configure x.egress = false) then
      refuse .refusedRights s
    else if x.owner ≠ some l then done [] (closeFlush .forced i s)
    else done [] (if f then closeFlush .closed i s else closeDrain .closed i s)
  | _, _ => refuse .refusedRange s

/-- The new values of a STREAM-ADJUST. -/
structure StreamAdjustment where
  quota : Nat
  cap : Nat
  queue : Fin 8
  recovery : Recovery
  staleUs : Nat
  deriving DecidableEq, Repr

/-- Check 1 of R52, the stream number and the class apart. -/
def readAdjustment (quota cap queue recovery : Byte) (staleUs : BitVec 32) : Option StreamAdjustment := do
  let bq ← inRange 1 63 quota
  let pc ← inRange 1 64 cap
  let q ← number 8 queue
  let r ← recoveryOf recovery
  let sl ← stalenessOf staleUs
  pure { quota := bq, cap := pc, queue := q, recovery := r, staleUs := sl }

/-- A change of the recovery mode (R52); a value equal to the one it replaces has no effect. -/
def Stream.setRecovery (r : Recovery) (x : Stream) : Stream :=
  if x.recovery = r then x
  else
    match x.recovery, r with
    | .clean _, .shed => { x with recovery := r, level := min x.level 1, quiet := 0 }
    | _, _ => { x with recovery := r, clean := 0 }

/-- The record of an adjusted stream (R52). -/
def Stream.adjust (a : StreamAdjustment) (x : Stream) : Stream :=
  { x with
    quota := a.quota, credit := min x.credit a.quota, cap := a.cap, queue := a.queue
    staleUs := a.staleUs }.setRecovery a.recovery

/-- STREAM-ADJUST on link `l` (R52): the oldest PENDING descriptors beyond a lowered cap are discarded with
CAP. -/
def ownStreamAdjust (l : Link) (stream quota cap queue recovery : Byte) (staleUs : BitVec 32)
    (s : State) : Answer :=
  match number 128 stream, readAdjustment quota cap queue recovery staleUs with
  | some i, some a =>
    let x := s.streams.get i
    if a.staleUs ≠ 0 ∧ x.cls ≠ some .cyclic then refuse .refusedRange s
    else if x.state ≠ .opened then refuse .refusedState s
    else if x.owner ≠ some l then refuse .refusedRights s
    else if l = .sc ∧ s.coveredAt .configure x.egress = false then refuse .refusedRights s
    else
      let s1 := s.onStream i (·.adjust a)
      let waiting := s1.pendingList i
      done [] (discardList .cap (waiting.take (waiting.length - a.cap)) s1)
  | _, _ => refuse .refusedRange s

/-! ### STREAM-REPORT (R61) -/

/-- Thirteen or seven counters of 32 bits (R194). -/
def counters {n : Nat} (t : Tbl Nat n) : List Byte := t.xs.flatMap (be 4)

/-- The settings and counters of a stream record, in the order of R41 (R61; log entry 23). A record that was never
opened carries no mark of its own: its absent owner, class and egress port stand for it (log entry 41). -/
def streamRecordBytes (x : Stream) : List Byte :=
  [x.state.code] ++ orFF 1 (x.owner.map fun l => [linkCode l]) ++ orFF 1 (x.cls.map fun c => [c.code])
    ++ orFF 1 (x.egress.map fun p => be 1 p.1) ++ orFF 1 (x.station.map fun i => be 1 i.1)
    ++ be 1 x.queue.1 ++ be 1 x.quota ++ be 1 x.credit ++ be 1 x.cap ++ be 4 x.staleUs
    ++ [x.recovery.code] ++ be 1 x.level ++ be 1 x.clean ++ be 1 x.phase ++ be 1 x.quiet
    ++ flag x.wireHold ++ orFF 1 (x.closeReason.map fun c => [c.code]) ++ be 4 x.released
    ++ counters x.discards

/-- A PENDING descriptor as STREAM-REPORT lists it (R61). -/
def descriptorBytes (d : Descriptor) : List Byte :=
  field 2 d.handle ++ be 2 d.length ++ timeBytes d.arrival ++ timeOrFF d.staleAt

/-- STREAM-REPORT, selector STREAM (R61). The greatest WIRE-HELD count is 2, the room of the outstanding list in which every
WIRE-HELD handle stands (R60, R75, R78), so R194 gives it 1 byte (log entry 44). -/
def streamReport (s : State) (i : Fin 128) : List Byte :=
  streamRecordBytes (s.streams.get i) ++ be 1 (s.pendingList i).length
    ++ be 1 (s.store.filter (·.wireHeldOn i)).length
    ++ counted (((s.pendingList i).take 8).map descriptorBytes)

/-- STREAM-REPORT, selector STATION (R61). -/
def stationStreams (s : State) (i : Fin 32) : List Byte :=
  let named := (numbers 128).filter fun k =>
    (s.streams.get k).live && (s.streams.get k).station == some i
  counted ((named.take 32).map fun k => be 1 k.1 ++ [(s.streams.get k).state.code])

/-- STREAM-REPORT, selector STORE (R61). The greatest WIRE-HELD count is 48, 2 for each port (R60, R75, R78), so R194 gives
it 1 byte (log entry 44). -/
def storeReport (s : State) : List Byte :=
  be 2 s.store.length ++ be 1 (s.store.filter (·.state == .wireHeld)).length ++ counters s.storeDiscards
    ++ be 4 s.voids

/-- The SC link may not be shown what stands on port `p`: there is one, not covered at OBSERVE or above (R40,
R61). -/
def State.hidden (s : State) (l : Link) (p : Option (Fin 24)) : Bool :=
  l == .sc && p.isSome && !s.coveredAt .observe p

/-- STREAM-REPORT, selector STREAM, on link `l` (R61). -/
def reportStream (l : Link) (num : Byte) (s : State) : Answer :=
  match number 128 num with
  | some i => if s.hidden l (s.streams.get i).egress then refuse .refusedRights s else done (streamReport s i) s
  | none => refuse .refusedRange s

/-- STREAM-REPORT, selector STATION, on link `l` (R61). -/
def reportStation (l : Link) (num : Byte) (s : State) : Answer :=
  match number 32 num with
  | some i => if s.hidden l (s.stationPort i) then refuse .refusedRights s else done (stationStreams s i) s
  | none => refuse .refusedRange s

/-- STREAM-REPORT, selector STORE, on link `l` (R61). -/
def reportStore (l : Link) (s : State) : Answer :=
  if l = .sc then refuse .refusedRights s else done (storeReport s) s

/-- STREAM-REPORT on link `l` (R61). -/
def ownStreamReport (l : Link) (selector num : Byte) (s : State) : Answer :=
  if selector = 0 then reportStream l num s
  else if selector = 1 then reportStation l num s
  else if selector = 2 then reportStore l s
  else refuse .refusedRange s

/-! ### The meanings of the commands -/

/-- STREAM_OPEN. -/
def execStreamOpen (l : Link) (tag stream cls port station queue quota cap : Byte) (staleUs : BitVec 32)
    (recovery wireHold : Byte) (s : State) : Result :=
  .next (request l tag (.streamOpen stream cls port station queue quota cap staleUs recovery wireHold)
    (ownStreamOpen l stream cls port station queue quota cap staleUs recovery wireHold) s)

/-- STREAM_CLOSE. -/
def execStreamClose (l : Link) (tag stream flush : Byte) (s : State) : Result :=
  .next (request l tag (.streamClose stream flush) (ownStreamClose l stream flush) s)

/-- STREAM_ADJUST. -/
def execStreamAdjust (l : Link) (tag stream quota cap queue recovery : Byte) (staleUs : BitVec 32)
    (s : State) : Result :=
  .next (request l tag (.streamAdjust stream quota cap queue recovery staleUs)
    (ownStreamAdjust l stream quota cap queue recovery staleUs) s)

/-- STREAM_REPORT. -/
def execStreamReport (l : Link) (tag selector num : Byte) (s : State) : Result :=
  .next (request l tag (.streamReport selector num) (ownStreamReport l selector num) s)

/-- STALENESS_DEADLINE_EXPIRY: the PENDING descriptor of the handle, its staleness deadline held and reached, is
discarded with STALE (R56). -/
def execStalenessDeadlineExpiry (handle : BitVec 16) (s : State) : Result :=
  match s.store.find? (·.handle == handle) with
  | some d =>
    .next (if d.state = .pending ∧ reached d.staleAt s.now = true then
        drainCheck d.stream (discardPending .stale d s)
      else s)
  | none => .next s

end Sys2Proof.Machine
end

