-- ==== Sys2Proof/Machine/Stations.lean ====
section
/-! DEFINITION. The Station Map (chapter 2). -/

namespace Sys2Proof.Machine

/-! ### Changes of state (R29, R30) -/

/-- The order of a state into which a station is ordered (R30). -/
def orderFor : StationState → Option Order
  | .absent => none
  | .held => some .hold
  | .run => some .run
  | .service => some .service

/-- The ORDER of a change into `st`: while the fabric link is UP the order sequence is incremented, wrapping, and an
ORDER for the station's port is handed over (R30, R168). -/
def emitOrder (i : Fin 32) (st : StationState) (s : State) : State :=
  match orderFor st, s.stationPort i with
  | some o, some p =>
    if s.fabric.up then
      let q := (s.stations.get i).orderSeq + 1
      handOver (.cellOut p i o q) (s.onStation i fun x => { x with orderSeq := q })
    else s
  | _, _ => s

/-- The state field of station `i` takes `st` at the MT of the event (R29, effect 1). -/
def setStation (i : Fin 32) (st : StationState) (s : State) : State :=
  s.onStation i fun x => { x with conf := x.conf.map ({ · with state := st }), lastChange := some s.now }

/-- What the blocks that read station states do at a change into `st` (R29, effect 4): the Stream Table acts on an
entry into SERVICE (R58), the Trigger Output Unit on an entry into ABSENT (R142). -/
def tellOfState (i : Fin 32) (st : StationState) (s : State) : State :=
  match st, s.stationPort i with
  | .service, some p => serviceEntered (· == p) s
  | .absent, _ => leaveNeeds i s
  | _, _ => s

/-- Effects 1 to 3 of R29 at a change of the state of station `i`, its post reaching the SC link where `toSc` says
so. -/
def turnStation (i : Fin 32) (st : StationState) (toSc : Bool) (s : State) : State :=
  emitOrder i st (post (noticeStation i st) toSc (setStation i st s))

/-- A change of the state of station `i` (R29), its post reaching the SC link where `toSc` says so. -/
def changeStation (i : Fin 32) (st : StationState) (toSc : Bool) (s : State) : State :=
  tellOfState i st (turnStation i st toSc s)

/-- A change of the state of station `i`, routed by the coverage of its port (R184). -/
def moveStation (i : Fin 32) (st : StationState) (s : State) : State :=
  changeStation i st (s.coveredAt .observe (s.stationPort i)) s

/-! ### Port links and grants (R36, R37, R39) -/

/-- The Station Map at a change of the link of port `p` (R36). -/
def portLinkChanged (p : Fin 24) (up : Bool) (s : State) : State :=
  match s.stationOn p with
  | none => s
  | some i =>
    match up, s.stationState i with
    | false, some .absent => s
    | false, some _ => moveStation i .absent s
    | true, some .absent => moveStation i (if s.covered .intervene p then .service else .held) s
    | _, _ => s

/-- Station `i` is in state `st`, on a port of the window. -/
def State.standsAt (s : State) (a : GrantAsk) (st : StationState) (i : Fin 32) : Bool :=
  match s.stationPort i with
  | some p => a.holds p && s.stationState i == some st
  | none => false

/-- The stations of a window in state `before` go to `after`, in ascending number, their posts routed with the
grant counted as ACTIVE (R37). What the Stream Table does at an entry into SERVICE comes after all the moves, in
`enterWindow` (log entry 39). -/
def moveWindow (a : GrantAsk) (before after : StationState) (s : State) : State :=
  forEach ((numbers 32).filter (s.standsAt a before)) (fun i => turnStation i after true) s

/-- The HELD stations of a window go to SERVICE, and the Stream Table then discards the held CYCLIC traffic of their
ports, streams in ascending number over the whole event (R151, step 3; R44, R58; log entry 39). -/
def enterWindow (a : GrantAsk) (s : State) : State :=
  serviceEntered (fun p => (numbers 32).any fun i => s.standsAt a .held i && s.stationPort i == some p)
    (moveWindow a .held .service s)

/-- Some configured station of the window is in RUN (R151). -/
def State.runsIn (s : State) (a : GrantAsk) : Bool :=
  (numbers 32).any fun i =>
    (match s.stationPort i with | some p => a.holds p | none => false) && s.stationState i == some .run

/-- Every configured station that is not ABSENT goes to ABSENT, in ascending number (R39). -/
def allAbsent (s : State) : State :=
  forEach (numbers 32)
    (fun i s =>
      match s.stationState i with
      | none => s
      | some .absent => s
      | some _ => moveStation i .absent s) s

/-- A warm reset: every station in RUN or SERVICE goes to HELD with an ORDER HOLD, in ascending number, and nothing
is posted (R38). -/
def warmStations (s : State) : State :=
  forEach (numbers 32)
    (fun i s =>
      if s.stationState i = some .run ∨ s.stationState i = some .service then
        emitOrder i .held (setStation i .held s)
      else s) s

/-! ### STATION-SET and STATION-REMOVE (R31 to R33) -/

/-- Station `i` is named as the camera station of an enabled inspection point (R93). -/
def State.namedCamera (s : State) (i : Fin 32) : Bool :=
  s.points.xs.any fun pt => pt.enabled && pt.camera == i

/-- Another configured station than `i` holds port `p`. -/
def State.portTaken (s : State) (i : Fin 32) (p : Fin 24) : Bool :=
  (numbers 32).any fun j => j != i && (s.stations.get j).isOn p

/-- Check 2 of R31. -/
def headsFit (r : Role) (heads : Byte) : Bool :=
  match r with
  | .filler => decide (1 ≤ heads.toNat ∧ heads.toNat ≤ 16)
  | _ => heads == 0

/-- The state a station takes from the link of its port (R32). -/
def State.stateByLink (s : State) (p : Fin 24) : StationState :=
  if (s.ports.get p).up then .held else .absent

/-- STATION-CHANGED with reason CONFIGURED, routed by the port after the request (R32, R184). -/
def postConfigured (i : Fin 32) (s : State) : State := postStation (noticeConfigured i) i s

/-- An accepted STATION-SET on an unconfigured record (R32). -/
def configureNew (i : Fin 32) (r : Role) (p : Fin 24) (heads : Nat) (s : State) : State :=
  let st := s.stateByLink p
  let s1 := s.onStation i fun _ =>
    { conf := some { role := r, port := p, heads := heads, state := st }, orderSeq := 0
      lastChange := some s.now }
  emitOrder i st (postConfigured i s1)

/-- An accepted STATION-SET of a configured record that keeps its port (R32). -/
def configureSame (i : Fin 32) (c : StationConf) (r : Role) (heads : Nat) (s : State) : State :=
  postConfigured i (s.onStation i fun x => { x with conf := some { c with role := r, heads := heads } })

/-- An accepted STATION-SET that moves a configured record to port `p` (R32): streams naming the station lose
their station field unless `p` is their egress port (R59), and a station that goes from HELD to ABSENT leaves
every need set (R142). -/
def configureMoved (i : Fin 32) (c : StationConf) (r : Role) (p : Fin 24) (heads : Nat) (s : State) : State :=
  let st := s.stateByLink p
  let s1 := s.onStation i fun x =>
    { x with
      conf := some { role := r, port := p, heads := heads, state := st }
      lastChange := some s.now }
  let s2 := clearStationField i (some p) (emitOrder i st (postConfigured i s1))
  if c.state = .held ∧ st = .absent then leaveNeeds i s2 else s2

/-- An accepted STATION-SET (R32). -/
def configure (i : Fin 32) (r : Role) (p : Fin 24) (heads : Nat) (s : State) : State :=
  match (s.stations.get i).conf with
  | none => configureNew i r p heads s
  | some c => if c.port = p then configureSame i c r heads s else configureMoved i c r p heads s

/-- STATION-SET (R31). -/
def ownStationSet (station role port heads : Byte) (s : State) : Answer :=
  match number 32 station, roleOf role, number 24 port with
  | some i, some r, some p =>
    if headsFit r heads = false then refuse .refusedRange s
    else if s.stationState i = some .run ∨ s.stationState i = some .service then refuse .refusedState s
    else if (s.stations.get i).conf.map (·.role) = some .camera ∧ s.namedCamera i = true ∧ r ≠ .camera then
      refuse .refusedConflict s
    else if s.portTaken i p = true then refuse .refusedRange s
    else if s.grants.slots.xs.any (·.reserves p) = true then refuse .refusedConflict s
    else done [] (configure i r p heads.toNat s)
  | _, _, _ => refuse .refusedRange s

/-- An accepted STATION-REMOVE (R33). -/
def remove (i : Fin 32) (s : State) : State :=
  let s1 := postStation (noticeRemoved i) i s
  let s2 := s1.onStation i fun _ => { conf := none, orderSeq := 0, lastChange := some s.now }
  leaveNeeds i (clearStationField i none s2)

/-- STATION-REMOVE (R33). -/
def ownStationRemove (station : Byte) (s : State) : Answer :=
  match number 32 station with
  | none => refuse .refusedRange s
  | some i =>
    match s.stationState i with
    | some .absent | some .held =>
      if s.namedCamera i then refuse .refusedConflict s else done [] (remove i s)
    | _ => refuse .refusedState s

/-- STATION-RUN (R34). -/
def ownStationRun (station : Byte) (s : State) : Answer :=
  match number 32 station with
  | none => refuse .refusedRange s
  | some i =>
    if s.stationState i = some .held then done [] (moveStation i .run s) else refuse .refusedState s

/-- STATION-HOLD (R35). -/
def ownStationHold (station : Byte) (s : State) : Answer :=
  match number 32 station with
  | none => refuse .refusedRange s
  | some i =>
    match s.stationState i with
    | some .run => done [] (moveStation i .held s)
    | some .held | some .absent => done [] s
    | _ => refuse .refusedState s

/-! ### STATION-REPORT (R40) -/

/-- One entry of STATION-REPORT: the mark configured or not, then the fields in the order of R40 (log entry
23). -/
def stationEntry (x : Station) : List Byte :=
  flag x.conf.isSome ++ orFF 1 (x.conf.map fun c => [c.role.code])
    ++ orFF 1 (x.conf.map fun c => be 1 c.port.1)
    ++ orFF 1 (x.conf.bind fun c => if c.role = .filler then some (be 1 c.heads) else none)
    ++ orFF 1 (x.conf.map fun c => [c.state.code]) ++ [x.orderSeq] ++ timeOrFF x.lastChange

/-- The stations of a range, in number order. -/
def stationRange (first count : Nat) : List (Fin 32) :=
  (numbers 32).filter fun i => decide (first ≤ i.1 ∧ i.1 < first + count)

/-- STATION-REPORT on link `l` (R40). -/
def ownStationReport (l : Link) (first count : Byte) (s : State) : Answer :=
  if ¬ (first.toNat ≤ 31 ∧ 1 ≤ count.toNat ∧ count.toNat ≤ 8 ∧ first.toNat + count.toNat ≤ 32) then
    refuse .refusedRange s
  else
    let range := stationRange first.toNat count.toNat
    if range.any fun i => s.hidden l (s.stationPort i) then refuse .refusedRights s
    else done (range.flatMap fun i => stationEntry (s.stations.get i)) s

/-! ### The meanings of the commands -/

/-- STATION_SET. -/
def execStationSet (l : Link) (tag station role port heads : Byte) (s : State) : Result :=
  .next (request l tag (.stationSet station role port heads) (ownStationSet station role port heads) s)

/-- STATION_REMOVE. -/
def execStationRemove (l : Link) (tag station : Byte) (s : State) : Result :=
  .next (request l tag (.stationRemove station) (ownStationRemove station) s)

/-- STATION_RUN. -/
def execStationRun (l : Link) (tag station : Byte) (s : State) : Result :=
  .next (request l tag (.stationRun station) (ownStationRun station) s)

/-- STATION_HOLD. -/
def execStationHold (l : Link) (tag station : Byte) (s : State) : Result :=
  .next (request l tag (.stationHold station) (ownStationHold station) s)

/-- STATION_REPORT. -/
def execStationReport (l : Link) (tag first count : Byte) (s : State) : Result :=
  .next (request l tag (.stationReport first count) (ownStationReport l first count) s)

end Sys2Proof.Machine
end

