-- ==== Sys2Proof/Machine/Pacing.lean ====
section
/-! DEFINITION. The Pacing Unit and the Release Arbiter (chapter 4). -/

namespace Sys2Proof.Machine

/-! ### Pacing queues (R65 to R68, R74) -/

/-- The stream is linked to queue `q` (R65). -/
def Stream.linkedTo (q : Fin 8) (x : Stream) : Bool := x.live && x.queue == q

/-- The quiet count of a SHED stream at an expiry of its queue (R74). -/
def Stream.quieten (x : Stream) : Stream :=
  if x.recovery = .shed ∧ x.level = 1 then
    if 16 ≤ x.quiet + 1 then { x with quiet := 16, level := 0 } else { x with quiet := x.quiet + 1 }
  else x

/-- An accrual on one stream, where `frozen` says that its queue is pause-aware and its port paused (R67). -/
def Stream.accrue (frozen : Bool) (x : Stream) : Stream :=
  if frozen then x
  else
    let ph := (x.phase + 1) % 16
    { x with
      phase := ph
      credit := if ph % 2 ^ x.level = 0 then min (x.credit + 1) x.quota else x.credit }

/-- The stream's egress port is paused. -/
def State.pausedFor (s : State) (x : Stream) : Bool :=
  match x.egress with
  | some p => (s.ports.get p).paused
  | none => false

/-- The accruals of one expiry of queue `q`: every linked stream on its own record (R67), and its quiet count
(R74). -/
def accrueAll (q : Fin 8) (s : State) : State :=
  { s with
    streams := s.streams.map fun x =>
      if x.linkedTo q then
        (x.accrue ((s.queues.get q).pauseAware && s.pausedFor x)).quieten
      else x }

/-- PACING_QUEUE_EXPIRY: the queue, enabled and its next expiry reached, counts its expiry, keeps its grid and gives
the accruals (R66, R67). -/
def execPacingQueueExpiry (q : Fin 8) (s : State) : Result :=
  let x := s.queues.get q
  match x.nextExpiry with
  | some t =>
    .next (if x.enabled = true ∧ t ≤ s.localNow then
        accrueAll q (s.onQueue q fun x =>
          { x with expiries := wrapInc x.expiries, nextExpiry := some (t + localUs x.periodUs) })
      else s)
  | none => .next s

/-- QUEUE-SET (R86). -/
def ownQueueSet (queue enabled : Byte) (periodUs : BitVec 32) (pauseAware : Byte) (s : State) : Answer :=
  match number 8 queue, yesNo enabled, inRange 20 1000000 periodUs, yesNo pauseAware with
  | some q, some e, some us, some pa =>
    done [] (s.onQueue q fun x =>
      { x with
        enabled := e, periodUs := us, pauseAware := pa
        nextExpiry :=
          if e = false then none
          else if x.enabled = false then some (s.localNow + localUs us)
          else x.nextExpiry })
  | _, _, _, _ => refuse .refusedRange s

/-- The reply body of QUEUE-REPORT (R87). -/
def queueReport (s : State) (q : Fin 8) : List Byte :=
  let x := s.queues.get q
  flag x.enabled ++ be 4 x.periodUs ++ flag x.pauseAware
    ++ orFF 4 (x.nextExpiry.map fun t => be 4 ((t - s.localNow) / periodsPerUs))
    ++ be 4 x.expiries ++ be 1 (s.streams.xs.filter (·.linkedTo q)).length
    ++ [s.backoff.mask, s.backoff.compare] ++ be 4 s.backoff.matched ++ be 4 s.backoff.unmatched

/-- QUEUE-REPORT (R87). -/
def ownQueueReport (queue : Byte) (s : State) : Answer :=
  match number 8 queue with
  | some q => done (queueReport s q) s
  | none => refuse .refusedRange s

/-- BACKOFF-MATCH (R88). -/
def ownBackoffMatch (mask compare : Byte) (s : State) : Answer :=
  if compare &&& ~~~ mask ≠ 0 then refuse .refusedRange s
  else
    done (be 4 s.backoff.matched ++ be 4 s.backoff.unmatched)
      { s with backoff := { s.backoff with mask := mask, compare := compare } }

/-! ### Port records (R76, R89, R90) -/

/-- A change of the link of port `p`: posted, and handed to the Station Map and the Stream Table (R76). -/
def linkChange (p : Fin 24) (up : Bool) (s : State) : State :=
  let s1 := portLinkChanged p up
    (postAt (noticePortLink p up) (some p) (s.onPort p fun x => { x with up := up }))
  if up then s1 else portWentDown p s1

/-- A PORT-STATE that has passed the Fabric Port's checks (R76): each field that differs acts, in turn. -/
def takePortState (p : Fin 24) (up paused high : Bool) (s : State) : State :=
  let x := s.ports.get p
  let s1 := if x.up = up then s else linkChange p up s
  let s2 := s1.onPort p fun x => { x with paused := paused, high := high }
  if x.high = false ∧ high = true then watermarkHigh p s2 else s2

/-- PORT-SET (R89). -/
def ownPortSet (port share : Byte) (s : State) : Answer :=
  match number 24 port, inRange 0 15 share with
  | some p, some n => done [] (s.onPort p fun x => { x with share := n, cyclicRun := 0 })
  | _, _ => refuse .refusedRange s

/-! ### The Release Arbiter (R77 to R81) -/

/-- The three tiers of a port (R79). -/
inductive Tier where
  | time | cyclic | bulk
  deriving DecidableEq, Repr

/-- The tier of a stream class (R79). -/
def StreamClass.tier : StreamClass → Tier
  | .time => .time
  | .cyclic => .cyclic
  | .bulk => .bulk
  | .service => .bulk

/-- Stream `i` is eligible at port `p` (R77). -/
def State.eligible (s : State) (p : Fin 24) (i : Fin 128) : Bool :=
  let x := s.streams.get i
  x.live && x.egress == some p && decide (1 ≤ x.credit) && !(s.pendingList i).isEmpty && !s.held x

/-- The streams eligible at port `p` in a tier, in ascending number. -/
def State.eligibleIn (s : State) (p : Fin 24) (t : Tier) : List (Fin 128) :=
  (numbers 128).filter fun i =>
    s.eligible p i && (match (s.streams.get i).cls with | some c => c.tier == t | none => false)

/-- The tier chosen and the consecutive-cyclic count after the release (R79); none where no stream is eligible. -/
def State.chooseTier (s : State) (p : Fin 24) : Option (Tier × Nat) :=
  let x := s.ports.get p
  let bulk := !(s.eligibleIn p .bulk).isEmpty
  let cyc := !(s.eligibleIn p .cyclic).isEmpty
  if 0 < x.share ∧ x.cyclicRun = x.share ∧ bulk = true then some (.bulk, 0)
  else if !(s.eligibleIn p .time).isEmpty then some (.time, x.cyclicRun)
  else if cyc = true ∧ bulk = true ∧ 0 < x.share then some (.cyclic, x.cyclicRun + 1)
  else if cyc then some (.cyclic, x.cyclicRun)
  else if bulk then some (.bulk, 0)
  else none

/-- The round-robin pointer of a tier (R80). -/
def Port.pointer (x : Port) : Tier → Option (Fin 128)
  | .time => x.ptrTime
  | .cyclic => x.ptrCyclic
  | .bulk => x.ptrBulk

/-- The round-robin pointer of a tier set. -/
def Port.point (t : Tier) (i : Fin 128) (x : Port) : Port :=
  match t with
  | .time => { x with ptrTime := some i }
  | .cyclic => { x with ptrCyclic := some i }
  | .bulk => { x with ptrBulk := some i }

/-- The stream served next: the lowest number above the pointer, or the lowest of all (R80). -/
def nextAfter (ptr : Option (Fin 128)) (xs : List (Fin 128)) : Option (Fin 128) :=
  match ptr with
  | none => xs.head?
  | some k => (xs.find? (k < ·)).or xs.head?

/-- The choice of the Release Arbiter at port `p`: tier, count after the release, stream (R79, R80). -/
def State.choose (s : State) (p : Fin 24) : Option (Tier × Nat × Fin 128) := do
  let (t, n) ← s.chooseTier p
  let i ← nextAfter ((s.ports.get p).pointer t) (s.eligibleIn p t)
  pure (t, n, i)

/-- The port can take another frame: link up, not paused, fewer than 2 handles outstanding (R78). -/
def Port.canTake (x : Port) : Bool := x.up && !x.paused && decide (x.outstanding.length < 2)

/-- The clean count and the congestion level at a release (R73). -/
def Stream.recover (x : Stream) : Stream :=
  match x.recovery with
  | .clean m =>
    if x.level = 0 then x
    else if x.clean + 1 = m then { x with level := x.level - 1, clean := 0 }
    else { x with clean := x.clean + 1 }
  | .shed => x

/-- The released descriptor in the store: it becomes WIRE-HELD, or its slot is freed (R60). -/
def storeRelease (wireHold : Bool) (handle : BitVec 16) (ds : List Descriptor) : List Descriptor :=
  if wireHold then
    ds.map fun d => if d.handle = handle then { d with state := .wireHeld, staleAt := none } else d
  else ds.filter (·.handle != handle)

/-- The distance from a release to its SENT-overdue deadline, in nanoseconds: 20 ms (R81). -/
def overdueNs : Int := 20000000

/-- The release of descriptor `d`, the oldest PENDING one of stream `i`, at port `p` (R81, R60, R73). -/
def releaseOne (p : Fin 24) (t : Tier) (n : Nat) (i : Fin 128) (d : Descriptor) (s : State) : State :=
  let s1 := (s.onStore (storeRelease (s.streams.get i).wireHold d.handle)).onStream i fun x =>
    { x with credit := x.credit - 1, released := satInc x.released }
  let s2 := (drainCheck i s1).onStream i Stream.recover
  let s3 := handOver (.release d.handle p) s2
  s3.onPort p fun x =>
    { (x.point t i) with
      outstanding := x.outstanding ++
        [{ handle := d.handle, stream := i, releaseMt := s.now, overdue := s.now + overdueNs }]
      cyclicRun := n
      released := satInc x.released }

/-- RELEASE: one release at port `p`, where the release conditions of R78 hold (R79 to R81; log entry 6). -/
def execRelease (p : Fin 24) (s : State) : Result :=
  if (s.ports.get p).canTake then
    match s.choose p with
    | some (t, n, i) =>
      match (s.pendingList i).head? with
      | some d => .next (releaseOne p t n i d s)
      | none => .next s
    | none => .next s
  else .next s

/-! ### Confirmation and write-off (R83 to R85) -/

/-- The port in whose outstanding list the handle stands. -/
def State.portHolding (s : State) (handle : BitVec 16) : Option (Fin 24) :=
  (numbers 24).find? fun p => (s.ports.get p).outstanding.any (·.handle == handle)

/-- The handle leaves the outstanding list, wherever it stands in it. -/
def dropOutstanding (handle : BitVec 16) (xs : List Outstanding) : List Outstanding :=
  xs.filter (·.handle != handle)

/-- The Stream Table told that a handle has left the outstanding lists: a WIRE-HELD descriptor that holds it frees its
slot (R60). -/
def handleSettled (handle : BitVec 16) (s : State) : State :=
  match s.store.find? fun d => d.handle == handle && d.state == .wireHeld with
  | some d => drainCheck d.stream (freeSlot handle s)
  | none => s

/-- A SENT that has passed the Fabric Port's checks (R83, R85). -/
def takeSent (handle : BitVec 16) (wire : Int) (s : State) : State :=
  match s.portHolding handle with
  | some p =>
    handleSettled handle (s.onPort p fun x =>
      { x with outstanding := dropOutstanding handle x.outstanding, sent := satInc x.sent, lastWire := some wire })
  | none => postAll (noticeMessageError handle.toNat .handle) s

/-- The effects 3 to 5 of R55 with reason SENT-LOST, charged to stream `i` (R84). -/
def chargeLost (i : Fin 128) (s : State) : State :=
  let s1 := countStoreWide .sentLost s
  let s2 := if (s1.streams.get i).live then countStream .sentLost i s1 else s1
  postAt (noticeDiscards i.1 .sentLost) (s2.streamPort i) s2

/-- The write-off of an outstanding entry of port `p` (R84). -/
def writeOff (p : Fin 24) (e : Outstanding) (s : State) : State :=
  chargeLost e.stream (handleSettled e.handle (s.onPort p fun x =>
    { x with outstanding := dropOutstanding e.handle x.outstanding, writeOffs := satInc x.writeOffs }))

/-- SENT_OVERDUE_EXPIRY: the handle, its SENT-overdue deadline reached, is written off (R84). -/
def execSentOverdueExpiry (handle : BitVec 16) (s : State) : Result :=
  match s.portHolding handle with
  | some p =>
    match (s.ports.get p).outstanding.find? (·.handle == handle) with
    | some e => .next (if e.overdue ≤ s.now then writeOff p e s else s)
    | none => .next s
  | none => .next s

/-! ### PORT-REPORT (R90) -/

/-- An outstanding entry as PORT-REPORT lists it. -/
def outstandingBytes (e : Outstanding) : List Byte :=
  field 2 e.handle ++ be 1 e.stream.1 ++ timeBytes e.releaseMt ++ timeBytes e.overdue

/-- A stream number, or none. -/
def streamOrFF (i : Option (Fin 128)) : List Byte := orFF 1 (i.map fun i => be 1 i.1)

/-- The reply body of PORT-REPORT (R90). -/
def portReport (s : State) (p : Fin 24) : List Byte :=
  let x := s.ports.get p
  flag x.up ++ flag x.paused ++ flag x.high ++ be 1 x.share ++ be 1 x.cyclicRun
    ++ streamOrFF x.ptrTime ++ streamOrFF x.ptrCyclic ++ streamOrFF x.ptrBulk
    ++ timeOrFF x.lastWire ++ be 4 x.released ++ be 4 x.sent ++ be 4 x.writeOffs
    ++ counted (x.outstanding.map outstandingBytes)
    ++ be 1 (s.eligibleIn p .time).length ++ be 1 (s.eligibleIn p .cyclic).length
    ++ be 1 (s.eligibleIn p .bulk).length

/-- PORT-REPORT (R90). -/
def ownPortReport (port : Byte) (s : State) : Answer :=
  match number 24 port with
  | some p => done (portReport s p) s
  | none => refuse .refusedRange s

/-! ### Warm reset and loss of the link (R91, R92) -/

/-- A port record at a warm reset (R91). -/
def Port.warm (x : Port) : Port :=
  { x with
    outstanding := [], cyclicRun := 0, ptrTime := none, ptrCyclic := none, ptrBulk := none
    released := 0, sent := 0, writeOffs := 0, lastWire := none }

/-- A port record at the loss of the fabric link (R92). -/
def Port.mark (x : Port) : Port := { x with up := false, paused := false, high := false, outstanding := [] }

/-- Every port record marked at the loss of the fabric link, PORT-LINK posted for each that was up, in ascending
number (R92). -/
def markPorts (s : State) : State :=
  forEach (numbers 24)
    (fun p s =>
      let s1 := s.onPort p Port.mark
      if (s.ports.get p).up then postAt (noticePortLink p false) (some p) s1 else s1) s

/-! ### The meanings of the requests -/

/-- QUEUE_SET. -/
def execQueueSet (l : Link) (tag queue enabled : Byte) (periodUs : BitVec 32) (pauseAware : Byte)
    (s : State) : Result :=
  .next (request l tag (.queueSet queue enabled periodUs pauseAware)
    (ownQueueSet queue enabled periodUs pauseAware) s)

/-- QUEUE_REPORT. -/
def execQueueReport (l : Link) (tag queue : Byte) (s : State) : Result :=
  .next (request l tag (.queueReport queue) (ownQueueReport queue) s)

/-- BACKOFF_MATCH. -/
def execBackoffMatch (l : Link) (tag mask compare : Byte) (s : State) : Result :=
  .next (request l tag (.backoffMatch mask compare) (ownBackoffMatch mask compare) s)

/-- PORT_SET. -/
def execPortSet (l : Link) (tag port share : Byte) (s : State) : Result :=
  .next (request l tag (.portSet port share) (ownPortSet port share) s)

/-- PORT_REPORT. -/
def execPortReport (l : Link) (tag port : Byte) (s : State) : Result :=
  .next (request l tag (.portReport port) (ownPortReport port) s)

end Sys2Proof.Machine
end

