-- ==== Sys2Proof/Machine/Grants.lean ====
section
/-! DEFINITION. The Grant Table (chapter 8). -/

namespace Sys2Proof.Machine

/-! ### Naming a grant (R147) -/

/-- The slot a request names by slot number and grant number, or the status that refuses the name (R147). -/
def State.named (s : State) (slot : Byte) (num : BitVec 16) : Except Status (Fin 4) :=
  match number 4 slot with
  | none => .error .refusedRange
  | some k =>
    match (s.grants.slots.get k).ask with
    | some a => if a.number = num then .ok k else .error .refusedState
    | none => .error .refusedState

/-! ### Activation and end (R154, R159) -/

/-- Sixty seconds in nanoseconds: how long before the expiry the warning time lies (R154). -/
def warnNs : Int := 60000000000

/-- One hundred and twenty seconds in nanoseconds: the ask timeout (R150). -/
def askTimeoutNs : Int := 120000000000

/-- The slot activated at MT `now`: its lease deadlines are set (R151, R154). -/
def GrantSlot.activate (a : GrantAsk) (now : Int) (g : GrantSlot) : GrantSlot :=
  let e := now + secToNs a.lease
  { g with
    state := .active, askTimeout := none, activation := some now, expiry := some e
    warning := if 60 < a.lease then some (e - warnNs) else none, warned := false }

/-- The slot FREE with an end reason, its deadlines cancelled, the rest kept for report (R159, step 1; R163). -/
def GrantSlot.release (why : EndReason) (g : GrantSlot) : GrantSlot :=
  { g with state := .free, askTimeout := none, warning := none, warned := false, endReason := some why }

/-- The level is CONFIGURE or INTERVENE. -/
def GrantLevel.configures (l : GrantLevel) : Bool := l == .configure || l == .intervene

/-- Steps 2 and 3 of the end of a grant that was ACTIVE (R159), its slot already FREE. -/
def withdraw (a : GrantAsk) (s : State) : State :=
  let s1 := if a.level = .intervene then moveWindow a .service .held s else s
  if a.level.configures then closeEnded a s1 else s1

/-- The end of the grant of slot `k` (R159). -/
def endGrant (k : Fin 4) (why : EndReason) (s : State) : State :=
  let g := s.grants.slots.get k
  let s1 := s.onSlot k (·.release why)
  let s2 :=
    match g.state, g.ask with
    | .active, some a => withdraw a s1
    | _, _ => s1
  postAll (noticeGrant k (.ended why)) s2

/-! ### Requests -/

/-- GRANT-ASK read (R150, check 1): level, window base and limit, requested lease. -/
def readAsk (level base limit : Byte) (lease : BitVec 16) : Option (GrantLevel × Fin 24 × Fin 24 × Nat) := do
  let v ← levelOf level
  let b ← number 24 base
  let m ← number 24 limit
  let t ← inRange 1 3600 lease
  if m < b then none else pure (v, b, m, t)

/-- The window b to m shares a port with the window of a slot that is ASKED or ACTIVE at INTERVENE (R150, check
2). -/
def GrantSlot.overlaps (b m : Fin 24) (g : GrantSlot) : Bool :=
  g.intervenes && (match g.ask with | some a => decide (a.base ≤ m ∧ b ≤ a.limit) | none => false)

/-- The FREE slot with the lowest number (R150). -/
def State.freeGrantSlot (s : State) : Option (Fin 4) :=
  (numbers 4).find? fun k => (s.grants.slots.get k).state == .free

/-- Slot `k` takes the ask (R150). The fields it kept for report are kept until then (R146): in ASKED it holds no
activation MT and no expiry MT (log entry 36). -/
def takeAsk (k : Fin 4) (a : GrantAsk) (s : State) : State :=
  let s1 : State := { s with grants := { s.grants with nextNumber := s.grants.nextNumber + 1 } }
  if a.level = .observe then
    postAll (noticeGrant k .active)
      (s1.onSlot k fun g => { g with ask := some a, endReason := none }.activate a s.now)
  else
    postAll (noticeGrant k .asked)
      (s1.onSlot k fun g =>
        { g with
          state := .asked, ask := some a, endReason := none, askTimeout := some (s.now + askTimeoutNs)
          activation := none, expiry := none })

/-- The reply body of an accepted GRANT-ASK: slot, grant number, the state taken, and for OBSERVE the expiry MT
(R150; log entry 23). -/
def askReply (k : Fin 4) (a : GrantAsk) : List Byte :=
  be 1 k.1 ++ field 2 a.number ++
    (if a.level = .observe then [GrantState.active.code] ++ timeBytes (a.askMt + secToNs a.lease)
     else [GrantState.asked.code])

/-- GRANT-ASK (R150). -/
def ownGrantAsk (level base limit : Byte) (lease : BitVec 16) (s : State) : Answer :=
  match readAsk level base limit lease with
  | none => refuse .refusedRange s
  | some (v, b, m, t) =>
    if v = .intervene ∧ s.grants.slots.xs.any (·.overlaps b m) = true then refuse .refusedConflict s
    else
      match s.freeGrantSlot with
      | none => refuse .refusedFull s
      | some k =>
        let a : GrantAsk :=
          { number := s.grants.nextNumber, level := v, base := b, limit := m, lease := t, askMt := s.now }
        done (askReply k a) (takeAsk k a s)

/-- An accepted GRANT-CONCUR (R151). -/
def concur (k : Fin 4) (a : GrantAsk) (s : State) : State :=
  let s1 := s.onSlot k (·.activate a s.now)
  let s2 := if a.level = .intervene then enterWindow a s1 else s1
  postAll (noticeGrant k .active) s2

/-- GRANT-CONCUR (R151). -/
def ownGrantConcur (slot : Byte) (num : BitVec 16) (s : State) : Answer :=
  match s.named slot num with
  | .error why => refuse why s
  | .ok k =>
    let g := s.grants.slots.get k
    match g.state, g.ask with
    | .asked, some a =>
      if a.level = .intervene ∧ s.runsIn a = true then refuse .refusedState s
      else done (timeBytes (s.now + secToNs a.lease)) (concur k a s)
    | _, _ => refuse .refusedState s

/-- GRANT-DECLINE (R152). -/
def ownGrantDecline (slot : Byte) (num : BitVec 16) (s : State) : Answer :=
  match s.named slot num with
  | .error why => refuse why s
  | .ok k =>
    if (s.grants.slots.get k).state = .asked then done [] (endGrant k .declined s)
    else refuse .refusedState s

/-- The expiry after an extension: within the bound, never earlier (R155). -/
def extended (activation expiry : Int) (added maxLease : Nat) : Int :=
  max expiry (min (expiry + secToNs added) (activation + secToNs maxLease))

/-- The slot after an extension to expiry `e`, its warning brought up to date at MT `now` (R155). -/
def GrantSlot.extendTo (e now : Int) (g : GrantSlot) : GrantSlot :=
  if warnNs < e - now then { g with expiry := some e, warned := false, warning := some (e - warnNs) }
  else { g with expiry := some e }

/-- GRANT-EXTEND (R155). The naming of R147 is judged first, then the range of the added time, then the state of the slot
(log entry 45). -/
def ownGrantExtend (slot : Byte) (num added : BitVec 16) (s : State) : Answer :=
  match s.named slot num with
  | .error why => refuse why s
  | .ok k =>
    let g := s.grants.slots.get k
    match inRange 1 3600 added with
    | none => refuse .refusedRange s
    | some t =>
      match g.state, g.activation, g.expiry with
      | .active, some a, some e =>
        let e' := extended a e t s.grants.maxLease
        let s1 := s.onSlot k (·.extendTo e' s.now)
        done (timeBytes e') (if e' = e then s1 else postAll (noticeGrant k .extended) s1)
      | _, _, _ => refuse .refusedState s

/-- GRANT-RELEASE (R157). -/
def ownGrantRelease (slot : Byte) (num : BitVec 16) (s : State) : Answer :=
  match s.named slot num with
  | .error why => refuse why s
  | .ok k =>
    if (s.grants.slots.get k).state = .free then refuse .refusedState s
    else done [] (endGrant k .released s)

/-- GRANT-REVOKE (R158). -/
def ownGrantRevoke (slot : Byte) (num : BitVec 16) (s : State) : Answer :=
  match s.named slot num with
  | .error why => refuse why s
  | .ok k =>
    if (s.grants.slots.get k).state = .free then refuse .refusedState s
    else done [] (endGrant k .revoked s)

/-- GRANT-POLICY (R149). -/
def ownGrantPolicy (maxLease : BitVec 16) (s : State) : Answer :=
  match inRange 60 14400 maxLease with
  | some t => done [] { s with grants := { s.grants with maxLease := t } }
  | none => refuse .refusedRange s

/-! ### GRANT-REPORT (R162) -/

/-- The coverage of a port: the highest level at which it is covered, or none (R148). -/
def State.coverage (s : State) (p : Fin 24) : Option GrantLevel :=
  if s.covered .intervene p then some .intervene
  else if s.covered .configure p then some .configure
  else if s.covered .observe p then some .observe
  else none

/-- A slot as GRANT-REPORT gives it (R162). -/
def slotBytes (g : GrantSlot) : List Byte :=
  [g.state.code] ++ maybe 2 (g.ask.map fun a => field 2 a.number)
    ++ orFF 1 (g.ask.map fun a => [a.level.code]) ++ orFF 1 (g.ask.map fun a => be 1 a.base.1)
    ++ orFF 1 (g.ask.map fun a => be 1 a.limit.1) ++ orFF 2 (g.ask.map fun a => be 2 a.lease)
    ++ timeOrFF (g.ask.map (·.askMt)) ++ timeOrFF g.askTimeout ++ timeOrFF g.activation
    ++ timeOrFF g.expiry ++ timeOrFF g.warning ++ flag g.warned
    ++ orFF 1 (g.endReason.map fun e => [e.code])

/-- The INTERVENE slot, ASKED or ACTIVE, whose window holds the port (R162). -/
def State.reserver (s : State) (p : Fin 24) : Option (Fin 4) :=
  (numbers 4).find? fun k => (s.grants.slots.get k).reserves p

/-- The reply body of GRANT-REPORT (R162). A port's coverage is sent as the code of its grant level, and H'FF for none
(log entry 42). -/
def grantReport (s : State) : List Byte :=
  s.grants.slots.xs.flatMap slotBytes ++ be 2 s.grants.maxLease ++ field 2 s.grants.nextNumber
    ++ (numbers 24).flatMap fun p =>
      orFF 1 ((s.coverage p).map fun v => [v.code]) ++ orFF 1 ((s.reserver p).map fun k => be 1 k.1)

/-- GRANT-REPORT (R162). -/
def ownGrantReport (s : State) : Answer := done (grantReport s) s

/-! ### Steps -/

/-- A slot at a step by `d` (R18, R154): the deadlines of an ASKED or ACTIVE slot and the activation MT of an ACTIVE
one move. -/
def GrantSlot.shift (d : Int) (g : GrantSlot) : GrantSlot :=
  match g.state with
  | .free => g
  | .asked => { g with askTimeout := g.askTimeout.map (· + d) }
  | .active =>
    { g with
      activation := g.activation.map (· + d), warning := g.warning.map (· + d)
      expiry := g.expiry.map (· + d) }

/-! ### The meanings of the commands -/

/-- GRANT_ASK. -/
def execGrantAsk (l : Link) (tag level base limit : Byte) (lease : BitVec 16) (s : State) : Result :=
  .next (request l tag (.grantAsk level base limit lease) (ownGrantAsk level base limit lease) s)

/-- GRANT_CONCUR. -/
def execGrantConcur (l : Link) (tag slot : Byte) (num : BitVec 16) (s : State) : Result :=
  .next (request l tag (.grantConcur slot num) (ownGrantConcur slot num) s)

/-- GRANT_DECLINE. -/
def execGrantDecline (l : Link) (tag slot : Byte) (num : BitVec 16) (s : State) : Result :=
  .next (request l tag (.grantDecline slot num) (ownGrantDecline slot num) s)

/-- GRANT_EXTEND. -/
def execGrantExtend (l : Link) (tag slot : Byte) (num added : BitVec 16) (s : State) : Result :=
  .next (request l tag (.grantExtend slot num added) (ownGrantExtend slot num added) s)

/-- GRANT_RELEASE. -/
def execGrantRelease (l : Link) (tag slot : Byte) (num : BitVec 16) (s : State) : Result :=
  .next (request l tag (.grantRelease slot num) (ownGrantRelease slot num) s)

/-- GRANT_REVOKE. -/
def execGrantRevoke (l : Link) (tag slot : Byte) (num : BitVec 16) (s : State) : Result :=
  .next (request l tag (.grantRevoke slot num) (ownGrantRevoke slot num) s)

/-- GRANT_POLICY. -/
def execGrantPolicy (l : Link) (tag : Byte) (maxLease : BitVec 16) (s : State) : Result :=
  .next (request l tag (.grantPolicy maxLease) (ownGrantPolicy maxLease) s)

/-- GRANT_REPORT. -/
def execGrantReport (l : Link) (tag : Byte) (s : State) : Result :=
  .next (request l tag .grantReport ownGrantReport s)

/-- ASK_TIMEOUT_EXPIRY: the ASKED grant, its ask timeout reached, ends with TIMEOUT (R153). -/
def execAskTimeoutExpiry (k : Fin 4) (s : State) : Result :=
  let g := s.grants.slots.get k
  .next (if g.state = .asked ∧ reached g.askTimeout s.now = true then endGrant k .timeout s else s)

/-- WARNING_TIME_EXPIRY: the ACTIVE grant, its warning time reached, is warned (R154). -/
def execWarningTimeExpiry (k : Fin 4) (s : State) : Result :=
  let g := s.grants.slots.get k
  .next (if g.state = .active ∧ reached g.warning s.now = true then
      postAll (noticeGrant k .warning) (s.onSlot k fun g => { g with warned := true, warning := none })
    else s)

/-- EXPIRY_MT_EXPIRY: the ACTIVE grant, its expiry MT reached, ends with EXPIRED (R156). -/
def execExpiryMtExpiry (k : Fin 4) (s : State) : Result :=
  let g := s.grants.slots.get k
  .next (if g.state = .active ∧ reached g.expiry s.now = true then endGrant k .expired s else s)

end Sys2Proof.Machine
end

