-- ==== Sys2Proof/Machine/Track.lean ====
section
/-! DEFINITION. The Track Unit: the bottle track, its points and its gate (chapter 5) and the verdicts (chapter
6). -/

namespace Sys2Proof.Machine

/-! ### The forced-reject window (R109, R110) -/

/-- The gate delay as a distance in MT. -/
def Gate.delay (g : Gate) : Int := usToNs g.delayUs

/-- The gate half-window as a distance in MT. -/
def Gate.halfWindow (g : Gate) : Int := usToNs g.halfWindowUs

/-- The occupancy of the track (R95). -/
def State.occupancy (s : State) : Nat := s.track.records.length

/-- A track-full fill that would reach the gate half-window's end at `e` opens the window, or extends it (R101,
R109). -/
def forceWindow (e : Int) (s : State) : State :=
  match s.track.windowEnd with
  | some w => s.onTrack fun t => { t with windowEnd := some (max w e) }
  | none =>
    postAll (noticeGateForced s.occupancy true)
      (holdBegins (s.onTrack fun t => { t with windowEnd := some e }))

/-- WINDOW_END_EXPIRY: the forced-reject window, its end reached, closes (R110, R132). -/
def execWindowEndExpiry (s : State) : Result :=
  .next (if reached s.track.windowEnd s.now then
      postAll (noticeGateForced s.occupancy false)
        (holdEnds (s.onTrack fun t => { t with windowEnd := none }))
    else s)

/-! ### Fill arrival (R98 to R102) -/

/-- The entry of point `pt` for a fill at MT `fill` whose message arrived at MT `arrival` (R96, R102). -/
def Point.entryFor (pt : Point) (r : FillResult) (fill arrival : Int) : PointEntry :=
  let t := fill + usToNs pt.travelUs
  { state :=
      if pt.enabled = false ∨ r = .noContainer then .notUsed
      else if t ≤ arrival then .missing
      else .waiting
    trigger := t
    verdictBy := t + usToNs pt.allowanceUs }

/-- The entry is in state MISSING. -/
def PointEntry.isMissing (e : PointEntry) : Bool := e.state == .missing

/-- A record placed in the track: after every record whose fill MT is earlier than or equal to its own (R95,
R102). -/
def insertRecord (r : TrackRecord) : List TrackRecord → List TrackRecord
  | [] => [r]
  | x :: xs => if x.fillMt ≤ r.fillMt then x :: insertRecord r xs else r :: x :: xs

/-- The record of a fill that passed R98 to R101 (R102). -/
def State.newRecord (s : State) (filler : Fin 32) (head : Nat) (r : FillResult) (fill arrival : Int) : TrackRecord :=
  { seq := s.track.nextSeq, filler := filler, head := head, result := r, fillMt := fill
    running := s.stationState filler == some .run
    entries := s.points.map fun pt => pt.entryFor r fill arrival
    gateTime := fill + s.gate.delay }

/-- The making of a record (R102). -/
def makeRecord (filler : Fin 32) (head : Nat) (r : FillResult) (fill arrival : Int) (s : State) : State :=
  let rec' := s.newRecord filler head r fill arrival
  let late := rec'.entries.xs.any PointEntry.isMissing
  let s1 := s.onTrack fun t =>
    { t with
      records := insertRecord rec' t.records, nextSeq := t.nextSeq + 1
      lateFill := if late then satInc t.lateFill else t.lateFill }
  if late then postStation (noticeLateFill filler) filler s1 else s1

/-- One disposition counter, counted once (R107). -/
def countDisposition (d : Disposition) (t : Track) : Track := { t with counts := t.counts.upd d.index satInc }

/-- A fill whose container has already passed the gate (R100). -/
def escapedFill (filler : Fin 32) (r : FillResult) (s : State) : State :=
  if r = .noContainer then s.onTrack (countDisposition .skip)
  else postStation (noticeEscaped filler) filler (s.onTrack fun t => { t with escaped := satInc t.escaped })

/-- A fill that finds 256 records in the track (R101). -/
def fullFill (filler : Fin 32) (r : FillResult) (fill : Int) (s : State) : State :=
  if r = .noContainer then s.onTrack (countDisposition .skip)
  else
    postStation (noticeFull filler) filler
      ((forceWindow (fill + s.gate.delay + s.gate.halfWindow) s).onTrack fun t => { t with full := satInc t.full })

/-- A validated fill, its stamp clamped (R100 to R102). -/
def placeFill (filler : Fin 32) (head : Nat) (r : FillResult) (fill arrival : Int) (s : State) : State :=
  if fill + s.gate.delay ≤ arrival then escapedFill filler r s
  else if 256 ≤ s.track.records.length then fullFill filler r fill s
  else makeRecord filler head r fill arrival s

/-- A fill stamp later than the arrival MT is clamped to it and counted (R99). -/
def clampFill (fill arrival : Int) (s : State) : Int × State :=
  if arrival < fill then (arrival, s.onTrack fun t => { t with future := satInc t.future }) else (fill, s)

/-- A FILL-DONE that has passed the Fabric Port's checks, from station `i`, with the MT that the Fabric Port stamped at its
arrival (R98 to R102, R171). -/
def takeFill (i : Fin 32) (head result : Byte) (sec : BitVec 48) (ns : BitVec 32) (arrival : Int) (s : State) : State :=
  match (s.stations.get i).conf with
  | none => s
  | some c =>
    if c.role ≠ .filler then postAll (noticeMessageError i.1 .role) s
    else if head = 0 ∨ c.heads < head.toNat then postAll (noticeMessageError i.1 .head) s
    else
      match fillResultOf result with
      | some r =>
        if 999999999 < ns.toNat then postAll (noticeMessageError i.1 .range) s
        else
          let clamped := clampFill (timeOf sec ns) arrival s
          placeFill i head.toNat r clamped.1 arrival clamped.2
      | none => postAll (noticeMessageError i.1 .range) s

/-! ### Entries -/

/-- The record with sequence number `seq`: the first that carries it, where a track that R95 rules out held two (log entry
37). -/
def State.recordOf (s : State) (seq : BitVec 16) : Option TrackRecord :=
  s.track.records.find? (·.seq == seq)

/-- Entry `pt` of record `seq` set to state `st`: in every record that carries the number, where a track that R95 rules out
held two (log entry 37). -/
def setEntry (seq : BitVec 16) (pt : Fin 4) (st : EntryState) (s : State) : State :=
  s.onTrack fun t =>
    { t with
      records := t.records.map fun r =>
        if r.seq = seq then { r with entries := r.entries.upd pt ({ · with state := st }) } else r }

/-- The trigger output an enabled point names (R93). -/
def Point.named (pt : Point) : Option (Fin 8) := if pt.enabled then pt.output else none

/-- The state a WAITING entry takes at its trigger time, by the state of the point's camera (R104). -/
def State.triggered (s : State) (pt : Fin 4) : EntryState :=
  if s.stationState (s.points.get pt).camera = some .run then .expected else .service

/-- TRIGGER_DEADLINE_EXPIRY: the WAITING entry, its trigger time reached, becomes EXPECTED or SERVICE and asks for a
TRIGGER pulse (R104). -/
def execTriggerDeadlineExpiry (seq : BitVec 16) (pt : Fin 4) (s : State) : Result :=
  match s.recordOf seq with
  | some r =>
    let e := r.entries.get pt
    .next (if e.state = .waiting ∧ e.trigger ≤ s.now then
        askTrigger (s.points.get pt).named (setEntry seq pt (s.triggered pt) s)
      else s)
  | none => .next s

/-- VERDICT_DEADLINE_EXPIRY: the EXPECTED entry, its verdict deadline reached, becomes MISSING (R124). -/
def execVerdictDeadlineExpiry (seq : BitVec 16) (pt : Fin 4) (s : State) : Result :=
  match s.recordOf seq with
  | some r =>
    let e := r.entries.get pt
    .next (if e.state = .expected ∧ e.verdictBy ≤ s.now then setEntry seq pt .missing s else s)
  | none => .next s

/-! ### The gate (R106, R107) -/

/-- A FAIL entry. -/
def EntryState.isFail : EntryState → Bool
  | .fail _ => true
  | _ => false

/-- Some entry of a required point satisfies `f`. -/
def State.requiredEntry (s : State) (r : TrackRecord) (f : EntryState → Bool) : Bool :=
  (numbers 4).any fun i => (s.points.get i).required && f (r.entries.get i).state

/-- The disposition of a record at its gate expiry (R106). -/
def State.judge (s : State) (r : TrackRecord) : Disposition :=
  if r.result = .noContainer then .skip
  else if r.result = .short ∨ r.result = .over then .rejectFill
  else if r.running = false ∨ r.entries.xs.any (·.state == .service) = true then .rejectStation
  else if s.requiredEntry r EntryState.isFail then .rejectFail
  else if s.requiredEntry r (· == .missing) then .rejectMissing
  else if s.track.windowEnd.isSome then .rejectUntracked
  else .pass

/-- The disposition is a REJECT. -/
def Disposition.rejects : Disposition → Bool
  | .pass => false
  | .skip => false
  | _ => true

/-- The record as the last departure (R107, effect 3). -/
def TrackRecord.departure (r : TrackRecord) (d : Disposition) : Departure :=
  { seq := r.seq, filler := r.filler, head := r.head, gateTime := r.gateTime, disposition := d
    entries := r.entries.map (·.state) }

/-- The departure of the head record `r`, the records `rest` staying (R107). -/
def depart (r : TrackRecord) (rest : List TrackRecord) (s : State) : State :=
  let d := s.judge r
  let s1 := s.onTrack fun t =>
    { countDisposition d t with records := rest, lastDeparture := some (r.departure d) }
  if d.rejects then askGate s1 else s1

/-- The record holds no trigger deadline and no verdict deadline: no entry is WAITING or EXPECTED (R97). -/
def TrackRecord.settled (r : TrackRecord) : Bool :=
  r.entries.xs.all fun e => e.state != .waiting && e.state != .expected

/-- GATE_DEADLINE_EXPIRY: the head record, its gate time reached, leaves (R106, R107). The deadlines of its entries lie
before its gate time (R94, R124), and their expiries are taken first: the event does not come while one is held (log
entry 5). -/
def execGateDeadlineExpiry (s : State) : Result :=
  match s.track.records with
  | r :: rest => .next (if r.gateTime ≤ s.now ∧ r.settled = true then depart r rest s else s)
  | [] => .next s

/-! ### Verdicts (R117 to R122) -/

/-- The point of a verdict: the enabled inspection point that names the camera (R117). -/
def State.pointOf (s : State) (camera : Fin 32) : Option (Fin 4) :=
  (numbers 4).find? fun i => (s.points.get i).enabled && (s.points.get i).camera == camera

/-- The distance of an entry's trigger time from the image stamp. -/
def PointEntry.distance (stamp : Int) (e : PointEntry) : Nat := (e.trigger - stamp).natAbs

/-- The entry lies in the match window (R118). -/
def PointEntry.inWindow (stamp : Int) (half : Nat) (e : PointEntry) : Bool :=
  decide (e.distance stamp ≤ half * nsPerUs)

/-- The record whose entry at point `pt` is selected and lies closest to the stamp, the older one at equal distance
(R119, R121). -/
def closest (stamp : Int) (pt : Fin 4) (sel : PointEntry → Bool) : List TrackRecord → Option TrackRecord
  | [] => none
  | r :: rs =>
    if sel (r.entries.get pt) then
      match closest stamp pt sel rs with
      | some b =>
        if (b.entries.get pt).distance stamp < (r.entries.get pt).distance stamp then some b else some r
      | none => some r
    else closest stamp pt sel rs

/-- The classes of a verdict (R118). -/
inductive VerdictClass where
  | matched (r : TrackRecord)
  | late
  | repeated (r : TrackRecord)
  | strayService
  | strayNoRecord
  deriving DecidableEq, Repr

/-- The entries of R118's row 3. -/
def PointEntry.judged (e : PointEntry) : Bool := e.state == .pass || e.state.isFail

/-- The classification of a verdict stamped `stamp` at point `pt` (R118): the first row that applies. -/
def State.classify (s : State) (pt : Fin 4) (stamp : Int) : VerdictClass :=
  let inW := fun e : PointEntry => e.inWindow stamp (s.points.get pt).halfWindowUs
  let rs := s.track.records
  match closest stamp pt (fun e => inW e && e.state == .expected) rs with
  | some r => .matched r
  | none =>
    if rs.any fun r => inW (r.entries.get pt) && (r.entries.get pt).state == .missing then .late
    else
      match closest stamp pt (fun e => inW e && e.judged) rs with
      | some r => .repeated r
      | none =>
        if rs.any fun r => inW (r.entries.get pt) && (r.entries.get pt).state == .service then .strayService
        else .strayNoRecord

/-- The state a verdict gives to an entry (R119). -/
def verdictState (pass : Bool) (detail : Byte) : EntryState := if pass then .pass else .fail detail

/-- A repeat on an entry in state `st` (R121): the conflict's new state, or none where the verdicts agree. -/
def conflictState (st : EntryState) (pass : Bool) (detail : Byte) : Option EntryState :=
  match st, pass with
  | .pass, false => some (.fail detail)
  | .fail d, true => some (.fail d)
  | _, _ => none

/-- A validated verdict at point `pt` (R118 to R122). -/
def matchVerdict (i : Fin 32) (pt : Fin 4) (stamp : Int) (pass : Bool) (detail : Byte) (s : State) : State :=
  match s.classify pt stamp with
  | .matched r => setEntry r.seq pt (verdictState pass detail) s
  | .late => postStation (noticeVerdictLate i pass) i s
  | .repeated r =>
    match conflictState (r.entries.get pt).state pass detail with
    | some st => postStation (noticeStrayConflict i) i (setEntry r.seq pt st s)
    | none => s
  | .strayService => postStation (noticeStrayService i) i s
  | .strayNoRecord => postStation (noticeStrayNoRecord i) i s

/-- A VERDICT that has passed the Fabric Port's checks, from station `i` (R117). -/
def takeVerdict (i : Fin 32) (verdict detail : Byte) (sec : BitVec 48) (ns : BitVec 32) (s : State) : State :=
  match s.pointOf i with
  | none => postAll (noticeMessageError i.1 .point) s
  | some pt =>
    match verdictOf verdict with
    | some pass =>
      if 999999999 < ns.toNat then postAll (noticeMessageError i.1 .range) s
      else matchVerdict i pt (timeOf sec ns) pass detail s
    | none => postAll (noticeMessageError i.1 .range) s

/-! ### Track requests (R111 to R114) -/

/-- Check 1 of R111, the point number apart. -/
def readPoint (enabled required camera output : Byte) (travelUs halfWindowUs allowanceUs : BitVec 32) :
    Option Point := do
  let e ← yesNo enabled
  let r ← yesNo required
  let c ← number 32 camera
  let o ← numberOrNone 8 output
  let t ← inRange 1 60000000 travelUs
  let h ← inRange 10 100000 halfWindowUs
  let v ← inRange 1000 10000000 allowanceUs
  pure { enabled := e, required := r, camera := c, output := o, travelUs := t, halfWindowUs := h, allowanceUs := v }

/-- Another enabled point than `k` names the camera or the trigger output of `pt` (R111, check 4). -/
def State.pointClash (s : State) (k : Fin 4) (pt : Point) : Bool :=
  (numbers 4).any fun j =>
    let x := s.points.get j
    j != k && x.enabled && (x.camera == pt.camera || (pt.output.isSome && x.output == pt.output))

/-- A named output is not in mode `m` (R111, check 5; R112, check 3). -/
def State.wrongMode (s : State) (m : OutputMode) (o : Option (Fin 8)) : Bool :=
  match o with
  | some o => (s.outputs.get o).mode != m
  | none => false

/-- POINT-SET (R111). -/
def ownPointSet (point enabled required camera output : Byte) (travelUs halfWindowUs allowanceUs : BitVec 32)
    (s : State) : Answer :=
  match number 4 point, readPoint enabled required camera output travelUs halfWindowUs allowanceUs with
  | some k, some pt =>
    if s.track.records ≠ [] then refuse .refusedState s
    else if pt.enabled = true ∧ (s.stations.get pt.camera).conf.map (·.role) ≠ some .camera then
      refuse .refusedRange s
    else if pt.enabled = true ∧ s.pointClash k pt = true then refuse .refusedConflict s
    else if pt.enabled = true ∧ s.wrongMode .trigger pt.output = true then refuse .refusedConflict s
    else if pt.enabled = true ∧ s.gate.delayUs ≤ pt.travelUs + pt.allowanceUs then refuse .refusedRange s
    else done [] { s with points := s.points.set k pt }
  | _, _ => refuse .refusedRange s

/-- Check 1 of R112. -/
def readGate (output : Byte) (delayUs halfWindowUs widthUs : BitVec 32) : Option Gate := do
  let o ← numberOrNone 8 output
  let d ← inRange 1 60000000 delayUs
  let h ← inRange 100 1000000 halfWindowUs
  let w ← inRange 1 100000 widthUs
  pure { output := o, delayUs := d, halfWindowUs := h, widthUs := w }

/-- GATE-SET (R112). -/
def ownGateSet (output : Byte) (delayUs halfWindowUs widthUs : BitVec 32) (s : State) : Answer :=
  match readGate output delayUs halfWindowUs widthUs with
  | none => refuse .refusedRange s
  | some g =>
    if s.track.records ≠ [] ∨ s.track.windowEnd.isSome = true then refuse .refusedState s
    else if s.wrongMode .gate g.output = true then refuse .refusedConflict s
    else if s.points.xs.any (fun pt => pt.enabled && decide (g.delayUs ≤ pt.travelUs + pt.allowanceUs)) = true
    then refuse .refusedRange s
    else done [] { s with gate := g }

/-- The last departure as TRACK-REPORT gives it (R113; log entry 21). -/
def departureBytes (d : Departure) : List Byte :=
  field 2 d.seq ++ be 1 d.filler.1 ++ be 1 d.head ++ timeBytes d.gateTime ++ be 1 d.disposition.index.1
    ++ d.entries.xs.map EntryState.code

/-- The reply body of TRACK-REPORT (R113). -/
def trackReport (s : State) : List Byte :=
  let t := s.track
  be 2 t.records.length ++ field 2 t.nextSeq ++ timeOrFF (t.records.head?.map (·.gateTime))
    ++ flag t.windowEnd.isSome ++ timeOrFF t.windowEnd ++ counters t.counts
    ++ be 4 t.future ++ be 4 t.escaped ++ be 4 t.full ++ be 4 t.lateFill
    ++ maybe 19 (t.lastDeparture.map departureBytes)

/-- The eleven counters zeroed (R113). -/
def zeroCounters (t : Track) : Track :=
  { t with counts := Tbl.fill 7 0, future := 0, escaped := 0, full := 0, lateFill := 0 }

/-- TRACK-REPORT on link `l` (R113). -/
def ownTrackReport (l : Link) (zero : Byte) (s : State) : Answer :=
  match yesNo zero with
  | none => refuse .refusedRange s
  | some true => if l = .lc then done (trackReport s) (s.onTrack zeroCounters) else refuse .refusedRights s
  | some false => done (trackReport s) s

/-- A point entry as TRACK-LIST gives it (R114). -/
def entryBytes (e : PointEntry) : List Byte :=
  [e.state.code] ++ timeBytes e.trigger ++ timeBytes e.verdictBy ++ maybe 1 (e.state.detail.map fun d => [d])

/-- The disposition PENDING of a record in the track (R96; log entry 22). -/
def pendingCode : Byte := 0

/-- A record as TRACK-LIST gives it, in the order of R96. -/
def recordBytes (r : TrackRecord) : List Byte :=
  field 2 r.seq ++ be 1 r.filler.1 ++ be 1 r.head ++ [r.result.code] ++ timeBytes r.fillMt ++ flag r.running
    ++ r.entries.xs.flatMap entryBytes ++ timeBytes r.gateTime ++ [pendingCode]

/-- TRACK-LIST (R114): every start index is in range. -/
def ownTrackList (start : Byte) (s : State) : Answer :=
  done (be 2 s.track.records.length ++ counted (((s.track.records.drop start.toNat).take 8).map recordBytes)) s

/-! ### Steps and warm reset -/

/-- An entry at a step by `d` (R18). -/
def PointEntry.shift (d : Int) (e : PointEntry) : PointEntry :=
  { e with trigger := e.trigger + d, verdictBy := e.verdictBy + d }

/-- A record at a step by `d` (R18). -/
def TrackRecord.shift (d : Int) (r : TrackRecord) : TrackRecord :=
  { r with fillMt := r.fillMt + d, entries := r.entries.map (·.shift d), gateTime := r.gateTime + d }

/-- The track at a step by `d` (R18). -/
def Track.shift (d : Int) (t : Track) : Track :=
  { t with records := t.records.map (·.shift d), windowEnd := t.windowEnd.map (· + d) }

/-- The track at a warm reset, the forced-reject window open to `e` (R116). -/
def Track.warm (e : Int) (t : Track) : Track :=
  { zeroCounters t with records := [], lastDeparture := none, windowEnd := some e }

/-! ### The meanings of the requests -/

/-- POINT_SET. -/
def execPointSet (l : Link) (tag point enabled required camera output : Byte)
    (travelUs halfWindowUs allowanceUs : BitVec 32) (s : State) : Result :=
  .next (request l tag (.pointSet point enabled required camera output travelUs halfWindowUs allowanceUs)
    (ownPointSet point enabled required camera output travelUs halfWindowUs allowanceUs) s)

/-- GATE_SET. -/
def execGateSet (l : Link) (tag output : Byte) (delayUs halfWindowUs widthUs : BitVec 32) (s : State) : Result :=
  .next (request l tag (.gateSet output delayUs halfWindowUs widthUs)
    (ownGateSet output delayUs halfWindowUs widthUs) s)

/-- TRACK_REPORT. -/
def execTrackReport (l : Link) (tag zero : Byte) (s : State) : Result :=
  .next (request l tag (.trackReport zero) (ownTrackReport l zero) s)

/-- TRACK_LIST. -/
def execTrackList (l : Link) (tag start : Byte) (s : State) : Result :=
  .next (request l tag (.trackList start) (ownTrackList start) s)

end Sys2Proof.Machine
end

