-- ==== Sys2Proof/Machine/Time.lean ====
section
/-! DEFINITION. The Time Unit (chapter 1). -/

namespace Sys2Proof.Machine

/-! ### The advance of MT (R1, R2) -/

/-- The rate F in 1/65,536 ns per microsecond: floor(r × 65,536 / 1,000,000) (R2). -/
def rateF (r : Int) : Int := r * 65536 / 1000000

/-- The greatest value of MT in whole nanoseconds (R1). -/
def maxTime : Int := 2 ^ 48 * 1000000000 - 1

/-- MT in units of 1/65,536 ns (R1). -/
def MachineTime.units (m : MachineTime) : Int := m.toTime * 65536 + (m.frac : Int)

/-- MT at a whole-nanosecond value, with a fraction. -/
def machineTimeAt (t : Int) (frac : Nat) : MachineTime :=
  { sec := t.toNat / nsPerSec, ns := t.toNat % nsPerSec, frac := frac }

/-- MT from a number of units of 1/65,536 ns, held at its greatest value (R1). -/
def machineTimeOf (units : Int) : MachineTime :=
  let u := (min units (maxTime * 65536 + 65535)).toNat
  machineTimeAt ((u / 65536 : Nat) : Int) (u % 65536)

/-- MT after a microsecond of local time under rate correction `r` (R2). -/
def MachineTime.advance (r : Int) (m : MachineTime) : MachineTime :=
  machineTimeOf (m.units + 65536000 + rateF r)

/-- MT_ADVANCE: one microsecond of local time (R2; log entry 2). -/
def execMtAdvance (s : State) : Result :=
  .next (s.onTime fun t =>
    { t with mt := t.mt.advance t.rate, clock25 := t.clock25 + periodsPerUs })

/-! ### Health records -/

/-- The health record of a source. -/
def TimeUnit.health (t : TimeUnit) : TimedSource → Health
  | .grandmaster => t.gm
  | .hallPulse => t.hp

/-- The health record of a source changed by `f`. -/
def TimeUnit.onHealth (src : TimedSource) (f : Health → Health) (t : TimeUnit) : TimeUnit :=
  match src with
  | .grandmaster => { t with gm := f t.gm }
  | .hallPulse => { t with hp := f t.hp }

/-- The source is HEALTHY; LOCAL is so at all times (R7). -/
def TimeUnit.healthy (t : TimeUnit) : Source → Bool
  | .grandmaster => t.gm.state == .healthy
  | .hallPulse => t.hp.state == .healthy
  | .localOsc => true

/-! ### Clock states (R9, R10) -/

/-- The next clock state at a change of selection to `src` (R9). -/
def ClockState.atSelection (c : ClockState) (everLocked : Bool) (src : Source) : ClockState :=
  match src, c with
  | .localOsc, .acquiring => if everLocked then .holdover else .freeRun
  | .localOsc, .locked => .holdover
  | .localOsc, c => c
  | _, _ => .acquiring

/-- The Time Unit in clock state `c`, entered at MT `now` and local time `here`: the lock run count is 0, the
ever-locked flag is set by LOCKED (R9), HOLDOVER sets its deadline and records its entry, and any other state
holds no holdover deadline (R10). -/
def TimeUnit.enterClock (c : ClockState) (now : Int) (here : Nat) (t : TimeUnit) : TimeUnit :=
  let t1 := { t with clock := c, lockRun := 0, everLocked := t.everLocked || (c == ClockState.locked) }
  if c = .holdover then
    { t1 with
      holdoverDeadline := some (here + localSec t.config.holdoverS), holdoverMt := some now
      holdoverLocal := some here }
  else { t1 with holdoverDeadline := none }

/-- The clock state becomes `c`. -/
def enterClock (c : ClockState) (s : State) : State := s.onTime (·.enterClock c s.now s.localNow)

/-- TIME-SOURCE for the clock state as it stands (R9). -/
def postClock (s : State) : State := postAll (noticeTimeSource s.time.selected s.time.clock.reason) s

/-- TIME-SOURCE for the selection as it stands (R8). -/
def postSelected (s : State) : State := postAll (noticeTimeSource s.time.selected reasonSelected) s

/-- A change of clock state, posted (R9). -/
def changeClock (c : ClockState) (s : State) : State := postClock (enterClock c s)

/-- HOLDOVER_DEADLINE_EXPIRY (R10). -/
def execHoldoverDeadlineExpiry (s : State) : Result :=
  .next (if s.time.clock = .holdover ∧ localReached s.time.holdoverDeadline s.localNow = true then
      changeClock .degraded s
    else s)

/-! ### Selection (R8) -/

/-- The first HEALTHY source of the priority list. -/
def TimeUnit.choice (t : TimeUnit) : Source :=
  ([t.config.first, t.config.second, t.config.third].find? t.healthy).getD .localOsc

/-- Effects 1 to 3 of R8: I is kept, P is 0, and r takes I where the new source is LOCAL. -/
def TimeUnit.select (src : Source) (t : TimeUnit) : TimeUnit :=
  { t with selected := src, pTerm := 0, rate := if src = .localOsc then t.iTerm else t.rate }

/-- Selection is re-evaluated; where it yields another source, the selection and the clock state change and
TIME-SOURCE is posted for each that did, in an order that is a free value (R8, R9; log entry 17). -/
def reselect (s : State) : State :=
  let src := s.time.choice
  if src = s.time.selected then s
  else
    let c := s.time.clock.atSelection s.time.everLocked src
    let s1 := s.onTime (·.select src)
    if c = s.time.clock then postSelected (s1.onTime fun t => { t with lockRun := 0 })
    else
      let s2 := enterClock c s1
      if Config.selectionPostFirst then postClock (postSelected s2) else postSelected (postClock s2)

/-! ### Faults (R4, R6, R7) -/

/-- The record of a source that faults. -/
def Health.fault (h : Health) : Health :=
  { h with state := .faulted, qual := 0, sticky := true, deadline := none }

/-- The source faults: SOURCE-FAULT is posted with FAULTED. -/
def faultSource (src : TimedSource) (s : State) : State :=
  postAll (noticeSourceFault src false) (s.onTime (·.onHealth src Health.fault))

/-- FAULT_DEADLINE_EXPIRY (R4, R6): the source, HEALTHY and its fault deadline reached, faults, and selection is
re-evaluated. -/
def execFaultDeadlineExpiry (src : TimedSource) (s : State) : Result :=
  let h := s.time.health src
  .next (if h.state = .healthy ∧ localReached h.deadline s.localNow = true then
      reselect (faultSource src s)
    else s)

/-! ### Steps (R17, R18) -/

/-- The descriptors at a step by `d`: the staleness deadline of each PENDING one of a CYCLIC stream moves (R18). -/
def shiftStore (d : Int) (s : State) : State :=
  s.onStore (·.map fun x =>
    if x.state = .pending ∧ (s.streams.get x.stream).cls = some .cyclic then
      { x with staleAt := x.staleAt.map (· + d) }
    else x)

/-- A port at a step by `d`: the SENT-overdue deadline of each outstanding handle moves (R18). -/
def Port.shift (d : Int) (x : Port) : Port :=
  { x with outstanding := x.outstanding.map fun e => { e with overdue := e.overdue + d } }

/-- What the blocks shift at a step by `d`, MT already moved (R18, R143). -/
def shiftDeadlines (d : Int) (s : State) : State :=
  let s1 := shiftStore d s
  { s1 with
    track := s1.track.shift d
    ports := s1.ports.map (·.shift d)
    grants := { s1.grants with slots := s1.grants.slots.map (·.shift d) }
    outputs := s1.outputs.map (·.shift d s1.now) }

/-- The MT after a step by offset `o` (R17). -/
def MachineTime.stepped (o : Int) (m : MachineTime) : MachineTime :=
  if m.toTime + o < 0 then ⟨0, 0, 0⟩
  else if maxTime < m.toTime + o then machineTimeAt maxTime 65535
  else machineTimeAt (m.toTime + o) m.frac

/-- The sign of an applied step as TIME-STEPPED gives it; for a step of 0 a free value (R17; log entry 16). -/
def stepForward (applied : Int) : Bool :=
  if applied = 0 then Config.zeroStepIsForward else decide (0 < applied)

/-- A step of MT by the offset `o` of a sample of `src` (R17, R18). -/
def stepTime (src : TimedSource) (o : Int) (s : State) : State :=
  let m := s.time.mt.stepped o
  let applied := m.toTime - s.now
  let s1 := s.onTime fun t =>
    { t with mt := m, pTerm := 0, lastStep := some { applied := applied, mtAfter := m.toTime } }
  postAll (noticeTimeStepped src (stepForward applied)) (shiftDeadlines applied s1)

/-! ### The servo (R13 to R16) -/

/-- The range of I and of r, in ppb (R15). -/
def rateLimit : Int := 200000

/-- A value clamped to ± `m`. -/
def clampTo (m : Int) (v : Int) : Int := max (-m) (min m v)

/-- The frequency term (R14, item 1). -/
def frequencyTerm (o : Int) (intervalMs : Nat) : Int := (o * 1000).tdiv intervalMs

/-- Stage R14: I, P and r from the offset `o`. -/
def TimeUnit.discipline (o : Int) (intervalMs : Nat) (t : TimeUnit) : TimeUnit :=
  let f := frequencyTerm o intervalMs
  let i := clampTo rateLimit (t.iTerm + f.tdiv (2 ^ t.config.ki))
  let p := f.tdiv (2 ^ t.config.kp)
  { t with iTerm := i, pTerm := p, rate := clampTo rateLimit (i + p) }

/-- The sample of offset `o` counts toward a change of clock state: within the lock threshold in ACQUIRING, beyond it
in LOCKED (R16). -/
def TimeUnit.counts (o : Int) (t : TimeUnit) : Bool :=
  let inside := decide (o.natAbs ≤ t.config.lockNs)
  match t.clock with
  | .acquiring => inside
  | .locked => !inside
  | _ => false

/-- The clock state a full lock run count leads to (R16). -/
def ClockState.afterRun : ClockState → ClockState
  | .acquiring => .locked
  | .locked => .acquiring
  | c => c

/-- Stage R16. -/
def lockStage (o : Int) (s : State) : State :=
  let t := s.time
  if t.clock = .acquiring ∨ t.clock = .locked then
    if t.counts o then
      if t.config.q ≤ t.lockRun + 1 then changeClock t.clock.afterRun s
      else s.onTime fun t => { t with lockRun := t.lockRun + 1 }
    else s.onTime fun t => { t with lockRun := 0 }
  else s

/-- The step threshold in nanoseconds (R13). -/
def TimeConfig.stepNs (c : TimeConfig) : Nat := c.stepUs * 1000

/-- The last offset recorded (section 1.5, R13). -/
def recordOffset (o : Int) (src : TimedSource) (mt : Int) (s : State) : State :=
  s.onTime fun t => { t with lastOffset := some { offset := o, source := src, mt := mt } }

/-- A sample of `src` with offset `o`, at sample interval `intervalMs` (R13 to R17). The MT of the sample is `mt`, the
stamp of its arrival, which a step leaves as it is; the step adds to MT as it stands (R17, R19; log entry 46). -/
def sample (src : TimedSource) (o : Int) (intervalMs : Nat) (mt : Int) (s : State) : State :=
  let limit := s.time.config.stepNs
  if s.time.stepLock = false ∧ limit < o.natAbs then
    stepTime src o (recordOffset o src mt s)
  else
    let o' := clampTo limit o
    lockStage o' ((recordOffset o' src mt s).onTime (·.discipline o' intervalMs))

/-! ### Arrivals (R3, R5, R11, R12) -/

/-- An accepted arrival stamped `x` on the record of its source, with `d` the distance to its fault deadline (R3, R5). -/
def Health.arrive (onTime : Bool) (q : Nat) (d : Nat) (x : Stamp) (h : Health) : Health :=
  let here := x.localTime
  let h1 := { h with lastMt := some x.mt, lastLocal := some here }
  match h.state, onTime with
  | .healthy, _ => { h1 with deadline := some (here + d) }
  | .faulted, false => { h1 with qual := 0 }
  | .faulted, true =>
    if q ≤ h.qual + 1 then { h1 with qual := h.qual + 1, state := .healthy, deadline := some (here + d) }
    else { h1 with qual := h.qual + 1 }

/-- The arrival makes a FAULTED source HEALTHY. -/
def Health.recovers (onTime : Bool) (q : Nat) (h : Health) : Bool :=
  h.state == .faulted && onTime && decide (q ≤ h.qual + 1)

/-- An accepted arrival of `src`, stamped `x`: its record, SOURCE-FAULT with RECOVERED where it becomes HEALTHY, and the
re-evaluation of selection. -/
def arrival (src : TimedSource) (onTime : Bool) (d : Nat) (x : Stamp) (s : State) : State :=
  let q := s.time.config.q
  let s1 := s.onTime (·.onHealth src (·.arrive onTime q d x))
  reselect (if (s.time.health src).recovers onTime q then postAll (noticeSourceFault src true) s1 else s1)

/-- The sync interval T in local time. -/
def TimeConfig.syncLocal (c : TimeConfig) : Nat := localMs c.syncMs

/-- An accepted SYNC that arrived at local time `here` is on time (R3). -/
def TimeUnit.syncOnTime (seq : Byte) (here : Nat) (t : TimeUnit) : Bool :=
  match t.gm.lastLocal, t.lastSeq with
  | some last, some q => decide (2 * (here - last) ≤ 3 * t.config.syncLocal) && seq == q + 1
  | _, _ => false

/-- A SYNC that has passed the Fabric Port's checks. Its gap, its record and its offset read the MT and the local time that
the Fabric Port stamped (R3, R11, R171). -/
def takeSync (seq : Byte) (originSec : BitVec 48) (originNs : BitVec 32) (began : Stamp) (s : State) : State :=
  if 999999999 < originNs.toNat then postAll (noticeMessageError s.time.config.gmPort.1 .range) s
  else if s.time.lastSeq = some seq then postAll (noticeMessageError s.time.config.gmPort.1 .repeated) s
  else
    let onTime := s.time.syncOnTime seq began.localTime
    let s1 := arrival .grandmaster onTime (3 * s.time.config.syncLocal) began
      (s.onTime fun t => { t with lastSeq := some seq })
    if s1.time.selected = .grandmaster then
      sample .grandmaster (timeOf originSec originNs + (s.time.config.pathDelay : Int) - began.mt)
        s.time.config.syncMs began.mt s1
    else s1

/-- Half a second of local time (R5). -/
def halfSecond : Nat := localMs 500

/-- The gap of an edge at local time `here` from the last accepted edge, where there is one. -/
def TimeUnit.edgeGap (here : Nat) (t : TimeUnit) : Option Nat := t.hp.lastLocal.map (here - ·)

/-- An edge of the selected polarity at local time `here` is a glitch (R5). -/
def TimeUnit.glitch (here : Nat) (t : TimeUnit) : Bool :=
  match t.edgeGap here with
  | some g => decide (g < halfSecond)
  | none => false

/-- An accepted edge at local time `here` is on time (R5). -/
def TimeUnit.edgeOnTime (here : Nat) (t : TimeUnit) : Bool :=
  match t.edgeGap here with
  | some g => decide (halfSecond ≤ g ∧ g ≤ 3 * halfSecond)
  | none => false

/-- The whole second nearest to an MT: a nanosecond part of 500,000,000 or more rounds up (R12). -/
def nearestSecond (mt : Int) : Int := (mt + 500000000) / nsPerSec

/-- The second that a HALL-PULSE sample at MT `mt` uses (R12). -/
def TimeUnit.second (mt : Int) (t : TimeUnit) : Int :=
  match t.armed with
  | some x => x.toNat
  | none => nearestSecond mt

/-- A HALL-PULSE sample of an edge at MT `mt`: its offset, and the armed second consumed (R12). -/
def samplePulse (mt : Int) (s : State) : State :=
  let o := s.time.second mt * nsPerSec + (s.time.config.pulseDelay : Int) - mt
  sample .hallPulse o 1000 mt (s.onTime fun t => { t with armed := none })

/-- PULSE_EDGE: an edge with the MT and the local time at which it occurred (R5). -/
def execPulseEdge (edge : PulseEdge) (s : State) (occurred : Option Stamp := none) : Result :=
  let x := s.stampOf occurred
  if edge ≠ s.time.config.edge then .next s
  else if s.time.glitch x.localTime then
    .next (s.onTime (·.onHealth .hallPulse fun h => if h.state = .faulted then { h with qual := 0 } else h))
  else
    let s1 := arrival .hallPulse (s.time.edgeOnTime x.localTime) (localSec 3) x s
    .next (if s1.time.selected = .hallPulse then samplePulse x.mt s1 else s1)

/-! ### TIME-CONFIG (R20, R21) -/

/-- The priority list, where it names each source exactly once (R20). -/
def readPriority (a b c : Byte) : Option (Source × Source × Source) := do
  let x ← sourceOf a
  let y ← sourceOf b
  let z ← sourceOf c
  if x = y ∨ x = z ∨ y = z then none else pure (x, y, z)

/-- The checks of R20. -/
def readTimeConfig (prio0 prio1 prio2 : Byte) (syncMs : BitVec 16) (pathDelay pulseDelay : BitVec 32)
    (kp ki : Byte) (stepUs : BitVec 16) (lockNs : BitVec 32) (q : Byte) (holdoverS : BitVec 32)
    (gmPort edge : Byte) : Option TimeConfig := do
  let (x, y, z) ← readPriority prio0 prio1 prio2
  let t ← syncOf syncMs
  let pd ← inRange 0 10000000 pathDelay
  let ud ← inRange 0 1000000 pulseDelay
  let p ← inRange 0 7 kp
  let i ← inRange 0 7 ki
  let st ← inRange 10 10000 stepUs
  let lk ← inRange 50 100000 lockNs
  let n ← inRange 1 15 q
  let h ← inRange 10 86400 holdoverS
  let g ← number 24 gmPort
  let e ← edgeOf edge
  pure { first := x, second := y, third := z, syncMs := t, pathDelay := pd, pulseDelay := ud, kp := p, ki := i,
         stepUs := st, lockNs := lk, q := n, holdoverS := h, gmPort := g, edge := e }

/-- Item 1 of R21: the grandmaster port has changed. -/
def newPort (s : State) : State :=
  let healthy := s.time.gm.state == .healthy
  let s1 := s.onTime fun t =>
    { t with gm := { t.gm with lastMt := none, lastLocal := none, qual := 0 }, lastSeq := none }
  if healthy then faultSource .grandmaster s1 else s1

/-- Item 2 of R21: T has changed, for a HEALTHY GRANDMASTER. -/
def newInterval (s : State) : State :=
  match s.time.gm.state, s.time.gm.lastLocal with
  | .healthy, some last =>
    let d := last + 3 * s.time.config.syncLocal
    if d < s.localNow then faultSource .grandmaster s
    else s.onTime (·.onHealth .grandmaster fun h => { h with deadline := some d })
  | _, _ => s

/-- Item 3 of R21: the pulse edge has changed. -/
def newEdge (s : State) : State :=
  s.onTime (·.onHealth .hallPulse fun h =>
    { h with lastLocal := none, qual := if h.state = .faulted then 0 else h.qual })

/-- Item 4 of R21: the holdover limit has changed, in HOLDOVER. -/
def newHoldover (s : State) : State :=
  match s.time.clock, s.time.holdoverLocal with
  | .holdover, some entry =>
    let d := entry + localSec s.time.config.holdoverS
    if d < s.localNow then changeClock .degraded s
    else s.onTime fun t => { t with holdoverDeadline := some d }
  | _, _ => s

/-- `f` done where `c` holds. -/
def doWhen (c : Prop) [Decidable c] (f : State → State) (s : State) : State := if c then f s else s

/-- An accepted TIME-CONFIG: the configuration is replaced, and the items of R21 act in order on what has changed
(log entry 18). -/
def configureTime (c : TimeConfig) (s : State) : State :=
  let old := s.time.config
  let s0 := s.onTime fun t => { t with config := c }
  let s1 := doWhen (old.gmPort ≠ c.gmPort) newPort s0
  let s2 := doWhen (old.syncMs ≠ c.syncMs) newInterval s1
  let s3 := doWhen (old.edge ≠ c.edge) newEdge s2
  let s4 := doWhen (old.holdoverS ≠ c.holdoverS) newHoldover s3
  reselect s4

/-- TIME-CONFIG (R20, R21). -/
def ownTimeConfig (prio0 prio1 prio2 : Byte) (syncMs : BitVec 16) (pathDelay pulseDelay : BitVec 32)
    (kp ki : Byte) (stepUs : BitVec 16) (lockNs : BitVec 32) (q : Byte) (holdoverS : BitVec 32)
    (gmPort edge : Byte) (s : State) : Answer :=
  match readTimeConfig prio0 prio1 prio2 syncMs pathDelay pulseDelay kp ki stepUs lockNs q holdoverS gmPort
      edge with
  | some c => done [] (configureTime c s)
  | none => refuse .refusedRange s

/-! ### The other time requests (R22 to R25) -/

/-- TIME-PULSE-SET (R22). -/
def ownTimePulseSet (op : Byte) (second : BitVec 48) (s : State) : Answer :=
  if op = 1 then done [] (s.onTime fun t => { t with armed := some second })
  else if op = 0 then done [] (s.onTime fun t => { t with armed := none })
  else refuse .refusedRange s

/-- TIME-STEP-LOCK (R23). -/
def ownTimeStepLock (setting : Byte) (s : State) : Answer :=
  match yesNo setting with
  | some v => done [] (s.onTime fun t => { t with stepLock := v })
  | none => refuse .refusedRange s

/-- The sticky flag cleared where the source is named and HEALTHY (R24). -/
def Health.clearSticky (named : Bool) (h : Health) : Health :=
  if named = true ∧ h.state = .healthy then { h with sticky := false } else h

/-- TIME-FAULT-CLEAR (R24): the reply carries the sticky fault flags after the request, one byte each in the order
GRANDMASTER, HALL-PULSE, LOCAL (log entry 38); LOCAL's is clear (R7). -/
def ownTimeFaultClear (sources : Byte) (s : State) : Answer :=
  if 1 ≤ sources.toNat ∧ sources.toNat ≤ 7 then
    let s1 := s.onTime fun t =>
      { t with gm := t.gm.clearSticky (sources.getLsbD 0), hp := t.hp.clearSticky (sources.getLsbD 1) }
    done (flag s1.time.gm.sticky ++ flag s1.time.hp.sticky ++ flag false) s1
  else refuse .refusedRange s

/-- The CONFIG page: the time configuration in the order of R20. -/
def configPage (c : TimeConfig) : List Byte :=
  [c.first.code, c.second.code, c.third.code] ++ be 2 c.syncMs ++ be 4 c.pathDelay ++ be 4 c.pulseDelay
    ++ be 1 c.kp ++ be 1 c.ki ++ be 2 c.stepUs ++ be 4 c.lockNs ++ be 1 c.q ++ be 4 c.holdoverS
    ++ be 1 c.gmPort.1 ++ [edgeCode c.edge]

/-- A health record as the STATE page gives it (R25). -/
def healthBytes (h : Health) : List Byte :=
  [h.state.code] ++ be 1 h.qual ++ timeOrFF h.lastMt ++ flag h.sticky

/-- The last offset as the STATE page gives it (R25; log entry 21). -/
def offsetBytes (o : OffsetRecord) : List Byte :=
  beSigned 10 o.offset ++ [(sourceOfTimed o.source).code] ++ timeBytes o.mt

/-- The last step as the STATE page gives it (R25; log entry 21). -/
def stepBytes (x : StepRecord) : List Byte := beSigned 10 x.applied ++ timeBytes x.mtAfter

/-- The STATE page (R25). -/
def statePage (t : TimeUnit) : List Byte :=
  timeBytes t.mt.toTime ++ [t.clock.code, t.selected.code] ++ flag t.everLocked ++ be 1 t.lockRun
    ++ beSigned 4 t.iTerm ++ beSigned 4 t.pTerm ++ beSigned 4 t.rate ++ beSigned 2 (rateF t.rate)
    ++ maybe 21 (t.lastOffset.map offsetBytes) ++ maybe 20 (t.lastStep.map stepBytes)
    ++ timeOrFF t.holdoverMt ++ flag t.stepLock ++ maybe 6 (t.armed.map (field 6))
    ++ healthBytes t.gm ++ healthBytes t.hp ++ maybe 1 (t.lastSeq.map fun q => [q])

/-- TIME-REPORT (R25). -/
def ownTimeReport (page : Byte) (s : State) : Answer :=
  if page = 0 then done (statePage s.time) s
  else if page = 1 then done (configPage s.time.config) s
  else refuse .refusedRange s

/-! ### The meanings of the requests -/

/-- TIME_CONFIG. -/
def execTimeConfig (l : Link) (tag prio0 prio1 prio2 : Byte) (syncMs : BitVec 16)
    (pathDelay pulseDelay : BitVec 32) (kp ki : Byte) (stepUs : BitVec 16) (lockNs : BitVec 32) (q : Byte)
    (holdoverS : BitVec 32) (gmPort edge : Byte) (s : State) : Result :=
  .next (request l tag
    (.timeConfig prio0 prio1 prio2 syncMs pathDelay pulseDelay kp ki stepUs lockNs q holdoverS gmPort edge)
    (ownTimeConfig prio0 prio1 prio2 syncMs pathDelay pulseDelay kp ki stepUs lockNs q holdoverS gmPort edge) s)

/-- TIME_PULSE_SET. -/
def execTimePulseSet (l : Link) (tag op : Byte) (second : BitVec 48) (s : State) : Result :=
  .next (request l tag (.timePulseSet op second) (ownTimePulseSet op second) s)

/-- TIME_STEP_LOCK. -/
def execTimeStepLock (l : Link) (tag setting : Byte) (s : State) : Result :=
  .next (request l tag (.timeStepLock setting) (ownTimeStepLock setting) s)

/-- TIME_FAULT_CLEAR. -/
def execTimeFaultClear (l : Link) (tag sources : Byte) (s : State) : Result :=
  .next (request l tag (.timeFaultClear sources) (ownTimeFaultClear sources) s)

/-- TIME_REPORT. -/
def execTimeReport (l : Link) (tag page : Byte) (s : State) : Result :=
  .next (request l tag (.timeReport page) (ownTimeReport page) s)

end Sys2Proof.Machine
end

