-- ==== Sys2Proof/Machine/Fabric.lean ====
section
/-! DEFINITION. The Fabric Port: the link, the inbound messages and the cell messages (chapter 9). -/

namespace Sys2Proof.Machine

/-! ### Inbound messages (R169, R170) -/

/-- A message that fails R169: dropped, counted and posted with its kind code as received. -/
def malformed (kind : Byte) (why : MessageFault) (s : State) : State :=
  postAll (noticeMessageError kind.toNat why)
    (s.onFabric fun f => { f with malformed := satInc f.malformed })

/-- The reason a malformed message is posted with. -/
def Malformed.fault : Malformed → MessageFault
  | .check => .check
  | .format => .format

/-! ### Cell messages (R172, R173) -/

/-- A cell message that fails a check of R172: discarded, counted and posted with its source port. -/
def rejectCell (p : Fin 24) (why : MessageFault) (s : State) : State :=
  postAll (noticeMessageError p.1 why)
    (s.onFabric fun f => { f with rejectedCells := satInc f.rejectedCells })

/-- Check 4 of R172: the station configured on the source port, where its number is the one the message names. -/
def State.sender (s : State) (p : Fin 24) (station : Byte) : Option (Fin 32) :=
  match s.stationOn p with
  | some i => if station.toNat = i.1 then some i else none
  | none => none

/-- A message of a kind other than SYNC that passes check 4 is handed to its owner (R172, R173). -/
def fromStation (p : Fin 24) (station : Byte) (own : Fin 32 → State → State) (s : State) : State :=
  match s.sender p station with
  | some i => own i s
  | none => rejectCell p .port s

/-- A CELL-IN that passes R169, with the stamp made before the checks: the checks of R172 in order, then the owner of its
kind (R171, R173). SYNC and FILL-DONE read the stamp; a VERDICT is not compared with it (R117), and R70 and R141 name
none. -/
def takeCell (p : Fin 24) (station : Byte) (c : Cell) (began : Stamp) (s : State) : State :=
  match c with
  | .badKind => rejectCell p .kind s
  | .badLength => rejectCell p .length s
  | .sync seq sec ns =>
    if p = s.time.config.gmPort then takeSync seq sec ns began s else rejectCell p .port s
  | .fillDone head result sec ns => fromStation p station (fun i => takeFill i head result sec ns began.mt) s
  | .verdict v d sec ns => fromStation p station (fun i => takeVerdict i v d sec ns) s
  | .backoff code classes => fromStation p station (fun _ => takeBackoff p code classes) s
  | .need output word => fromStation p station (fun i => takeNeed i output word) s

/-- A message that passes R169 is handed to its owner (R170). -/
def handOn (m : Inbound) (s : State) : State :=
  match m with
  | .enqueue stream handle length => takeEnqueue stream handle length s
  | .sent handle wire => takeSent handle wire s
  | .portState p up paused high => takePortState p up paused high s
  | .cellIn p station c began => takeCell p station c began s

/-- An inbound message of kind `kind`, as R169 reads it: taken in UP alone (R164). -/
def takeInbound (kind : Byte) (m : Except Malformed Inbound) (s : State) : State :=
  if s.fabric.up = false then s
  else
    match m with
    | .ok m => handOn m s
    | .error why => malformed kind why.fault s

/-! ### The link (R164, R165) -/

/-- Completion of training (R164). -/
def linkUp (s : State) : State :=
  let s1 := s.onFabric fun f =>
    { f with
      up := true, upCount := satInc f.upCount, lastUp := some s.now, outbound := .resync :: f.outbound }
  postAll (noticeResync s1.fabric.upCount true) s1

/-- The Descriptor Store emptied, each descriptor counted as void (R64). -/
def voidStore (s : State) : State :=
  { s with store := [], voids := s.store.foldl (fun n _ => satInc n) s.voids }

/-- Every DRAINING stream left without a descriptor becomes FREE, in ascending number (R64). -/
def drainAll (s : State) : State := forEach (numbers 128) drainCheck s

/-- The loss of the link (R165). -/
def linkLost (s : State) : State :=
  let s1 := s.onFabric fun f =>
    { f with up := false, lastDown := some s.now, outbound := [], alignTimer := none }
  let s2 := allAbsent (markPorts (drainAll (voidStore s1)))
  postAll (noticeResync s2.fabric.upCount false) s2

/-- The 100 µs of an alignment loss, in local time (R165). -/
def alignmentLimit : Nat := localUs 100

/-! ### FABRIC-REPORT (R175) -/

/-- The reply body of FABRIC-REPORT. -/
def fabricReport (f : Fabric) : List Byte :=
  flag f.up ++ be 4 f.upCount ++ timeOrFF f.lastUp ++ timeOrFF f.lastDown ++ be 4 f.malformed
    ++ be 4 f.rejectedCells ++ be 4 f.overflow ++ be 2 f.outbound.length

/-- FABRIC-REPORT (R175). -/
def ownFabricReport (s : State) : Answer := done (fabricReport s.fabric) s

/-! ### The meanings of the commands -/

/-- MALFORMED_MESSAGE: a message as it stands on the lane, judged by R169; one that passes is handed on (log entry
13). -/
def execMalformedMessage (kind : Byte) (rest : List Byte) (s : State) (began : Option Stamp := none) : Result :=
  .next (takeInbound kind (readInbound kind rest (s.stampOf began)) s)

/-- ENQUEUE (R53, R54). -/
def execEnqueue (stream : Byte) (handle length : BitVec 16) (s : State) : Result :=
  .next (takeInbound 1 (.ok (.enqueue stream handle length)) s)

/-- SENT (R83, R85). -/
def execSent (handle : BitVec 16) (wireSec : BitVec 48) (wireNs : BitVec 32) (s : State) : Result :=
  .next (takeInbound 2 (readSent handle wireSec wireNs) s)

/-- PORT_STATE (R76). -/
def execPortState (port link pause watermark : Byte) (s : State) : Result :=
  .next (takeInbound 3 (readPortState port link pause watermark) s)

/-- CELL_IN: a cell message as it stands inside a CELL-IN (R171, R172). -/
def execCellIn (port kind code station : Byte) (body : List Byte) (s : State)
    (began : Option Stamp := none) : Result :=
  .next (takeInbound 4 (readCellIn port station (readCell kind code body) (s.stampOf began)) s)

/-- SYNC (R3, R171, R172). -/
def execSync (port code station seq : Byte) (originSec : BitVec 48) (originNs : BitVec 32) (s : State)
    (began : Option Stamp := none) : Result :=
  let _ := code
  .next (takeInbound 4 (readCellIn port station (.sync seq originSec originNs) (s.stampOf began)) s)

/-- FILL_DONE (R98 to R102, R171, R172). -/
def execFillDone (port code station head result : Byte) (fillSec : BitVec 48) (fillNs : BitVec 32)
    (s : State) (began : Option Stamp := none) : Result :=
  let _ := code
  .next (takeInbound 4 (readCellIn port station (.fillDone head result fillSec fillNs) (s.stampOf began)) s)

/-- VERDICT (R117 to R122, R171, R172). -/
def execVerdict (port code station verdict detail : Byte) (stampSec : BitVec 48) (stampNs : BitVec 32)
    (s : State) (began : Option Stamp := none) : Result :=
  let _ := code
  .next (takeInbound 4 (readCellIn port station (.verdict verdict detail stampSec stampNs) (s.stampOf began)) s)

/-- BACKOFF (R70, R171, R172). -/
def execBackoff (port code station classes : Byte) (s : State) (began : Option Stamp := none) : Result :=
  .next (takeInbound 4 (readCellIn port station (.backoff code classes) (s.stampOf began)) s)

/-- NEED (R141, R171, R172). -/
def execNeed (port code station output word : Byte) (s : State) (began : Option Stamp := none) : Result :=
  let _ := code
  .next (takeInbound 4 (readCellIn port station (.need output word) (s.stampOf began)) s)

/-- TRAINING_COMPLETE (R164): it takes the link from DOWN to UP. -/
def execTrainingComplete (s : State) : Result := .next (if s.fabric.up then s else linkUp s)

/-- LOSS_OF_ALIGNMENT (R165): the 100 µs begin, where they do not run already (log entry 25). -/
def execLossOfAlignment (s : State) : Result :=
  .next (if s.fabric.up = true ∧ s.fabric.alignTimer = none then
      s.onFabric fun f => { f with alignTimer := some (s.localNow + alignmentLimit) }
    else s)

/-- ALIGNMENT_REGAINED (R165): within the 100 µs, the timer is cancelled and the link is not lost (log entry 25). -/
def execAlignmentRegained (s : State) : Result :=
  .next (match s.fabric.alignTimer with
    | some d => if s.localNow ≤ d then s.onFabric fun f => { f with alignTimer := none } else s
    | none => s)

/-- ALIGNMENT_LOSS_EXPIRY (R165). -/
def execAlignmentLossExpiry (s : State) : Result :=
  .next (if s.fabric.up = true ∧ localReached s.fabric.alignTimer s.localNow = true then linkLost s else s)

/-- RESTART_SIGNAL (R165). -/
def execRestartSignal (s : State) : Result := .next (if s.fabric.up then linkLost s else s)

/-- OUTBOUND_MESSAGE_SENT (R167): in UP the message at the head of the outbound queue leaves it. -/
def execOutboundMessageSent (s : State) : Result :=
  match s.fabric.up, s.fabric.outbound with
  | true, m :: rest => .next (s.onFabric fun f => { f with outbound := rest, laneOut := outBytes m })
  | _, _ => .next s

/-- FABRIC_REPORT. -/
def execFabricReport (l : Link) (tag : Byte) (s : State) : Result :=
  .next (request l tag .fabricReport ownFabricReport s)

end Sys2Proof.Machine
end

