-- ==== Sys2Proof/Machine/Resets.lean ====
section
/-! DEFINITION. The resets of the part (R191, R192), each block under its own rule. -/

namespace Sys2Proof.Machine

/-! ### The warm reset, block by block -/

/-- The Fabric Port: in UP the outbound queue is emptied and RESYNC placed in it (R166). -/
def warmFabric (s : State) : State :=
  s.onFabric fun f => { f with outbound := if f.up then [.resync] else f.outbound }

/-- The Stream Table and the Descriptor Store (R63), and the counters of BACKOFF (R70, R91). -/
def warmStreams (s : State) : State :=
  { s with
    streams := Tbl.fill 128 .powerOn, store := [], storeDiscards := Tbl.fill 13 0, voids := 0
    backoff := { s.backoff with matched := 0, unmatched := 0 } }

/-- The Release Arbiter (R91). -/
def warmPorts (s : State) : State := { s with ports := s.ports.map Port.warm }

/-- The end of the forced-reject window that a warm reset at this MT opens (R116). -/
def State.warmWindow (s : State) : Int := s.now + s.gate.delay + s.gate.halfWindow

/-- The Track Unit (R116) and the Trigger Output Unit (R144), which holds the GATE output from the reset (R131). -/
def warmTrack (s : State) : State :=
  holdBegins
    { s with track := s.track.warm s.warmWindow, outputs := s.outputs.map (·.warm s.now) }

/-- The Grant Table (R163). -/
def warmGrants (s : State) : State :=
  { s with grants := { s.grants with slots := s.grants.slots.map (·.release .reset) } }

/-- OVERRUN and the notice state of a link cleared (R191). -/
def LinkRec.cleared (k : LinkRec) : LinkRec := { k with overrun := false, notices := Tbl.fill 16 none, mask := 0 }

/-- OVERRUN and notice state of every link cleared (R191). -/
def clearLinks (s : State) : State := { s with lc := s.lc.cleared, sm := s.sm.cleared, sc := s.sc.cleared }

/-- Every reply slot IDLE (R191, R192). -/
def idleSlots (s : State) : State :=
  { s with lc := { s.lc with slot := .idle }, sm := { s.sm with slot := .idle }, sc := { s.sc with slot := .idle } }

/-- The warm reset of every block, RESTARTED posted with `n` (R191, R192). The RESYNC stands in the queue before the
ORDERs of the Station Map (R166). -/
def warm (n : Notice) (s : State) : State :=
  postAll n (clearLinks (idleSlots (warmGrants (warmTrack (warmPorts (warmStreams (warmStations
    (warmFabric s))))))))

/-- PART-RESET on link `l` (R191): its reply is placed in the slot within the request. -/
def ownPartReset (l : Link) (s : State) : Answer := done [] (warm (noticeWarm l) s)

/-! ### The meanings of the commands -/

/-- POWER_ON_RESET (R192): every block takes its power-on values; local time runs on (section 4.2; log entry 1), and
the commands that wait stay. -/
def execPowerOnReset (s : State) : Result :=
  .next { State.reset with
    time := { TimeUnit.powerOn with clock25 := s.time.clock25 }, pending := s.pending }

/-- WARM_RESET, the WRST input (R192). -/
def execWarmReset (s : State) : Result := .next (warm noticeWarmPin s)

/-- PART_RESET. -/
def execPartReset (l : Link) (tag : Byte) (s : State) : Result := .next (request l tag .partReset (ownPartReset l) s)

end Sys2Proof.Machine
end

