-- ==== Sys2Proof/Machine/Links.lean ====
section
/-! DEFINITION. The Link Interface and the Notice Unit as owners (chapter 10), and the transactions that carry
requests as bytes. -/

namespace Sys2Proof.Machine

/-! ### Notice requests (R186 to R189) -/

/-- A detail record in a reply (section 11.4). -/
def detailBytes (d : Detail) : List Byte := timeBytes d.mt ++ field 4 d.subject ++ [d.reason] ++ flag d.more

/-- The pending flag of a class cleared and its detail record absent (R186). -/
def LinkRec.take (c : Fin 16) (k : LinkRec) : LinkRec := { k with notices := k.notices.set c none }

/-- The pending set in a reply. -/
def pendingBytes (k : LinkRec) : List Byte := be 2 k.pendingSet

/-- NOTICE-TAKE on link `l` (R186). -/
def ownNoticeTake (l : Link) (s : State) : Answer :=
  let k := s.link l
  match k.firstPending with
  | some c =>
    match k.notices.get c with
    | some d => done (be 1 (c.1 + 1) ++ detailBytes d ++ pendingBytes (k.take c)) (s.onLink l (·.take c))
    | none => done ([0] ++ absent 16 ++ [0, 0]) s
  | none => done ([0] ++ absent 16 ++ [0, 0]) s

/-- NOTICE-CLEAR on link `l` (R187). -/
def ownNoticeClear (l : Link) (s : State) : Answer :=
  done (pendingBytes (s.link l)) (s.onLink l fun k => { k with notices := Tbl.fill 16 none })

/-- NOTICE-MASK on link `l` (R188). -/
def ownNoticeMask (l : Link) (mask : BitVec 16) (s : State) : Answer :=
  done (field 2 (s.link l).mask ++ pendingBytes (s.link l)) (s.onLink l fun k => { k with mask := mask })

/-- LINK-RESET on link `l` (R189); its reply is placed in the slot within the request. -/
def ownLinkReset (l : Link) (s : State) : Answer := done [] (s.onLink l LinkRec.cleared)

/-! ### PART-INFO (R190) -/

/-- The vendor identifier and the part number (section 11.3). -/
def identification : List Byte := be 2 0x0B57 ++ be 2 0x0C30

/-- The nine capacities, in the order of R190. -/
def capacities : List Nat := [32, 128, 512, 8, 24, 256, 4, 8, 4]

/-- PART-INFO on link `l` (R190), laid out as section 11.3 gives it (log entry 24). -/
def ownPartInfo (l : Link) (s : State) : Answer :=
  done (identification ++ [Config.revision, linkCode l] ++ capacities.flatMap (be 2)) s

/-! ### The owners -/

/-- What the owner of a request makes of it, taken on link `l` (section 3.2, R180). -/
def owner (r : Request) (l : Link) (s : State) : Answer :=
  match r with
  | .timeConfig a b c t pd ud kp ki st lk q h g e => ownTimeConfig a b c t pd ud kp ki st lk q h g e s
  | .timePulseSet op x => ownTimePulseSet op x s
  | .timeStepLock v => ownTimeStepLock v s
  | .timeFaultClear v => ownTimeFaultClear v s
  | .timeReport v => ownTimeReport v s
  | .stationSet a b c d => ownStationSet a b c d s
  | .stationRemove a => ownStationRemove a s
  | .stationRun a => ownStationRun a s
  | .stationHold a => ownStationHold a s
  | .stationReport a b => ownStationReport l a b s
  | .streamOpen a b c d e f g st r w => ownStreamOpen l a b c d e f g st r w s
  | .streamClose a b => ownStreamClose l a b s
  | .streamAdjust a b c d e st => ownStreamAdjust l a b c d e st s
  | .streamReport a b => ownStreamReport l a b s
  | .queueSet a b p c => ownQueueSet a b p c s
  | .queueReport a => ownQueueReport a s
  | .backoffMatch a b => ownBackoffMatch a b s
  | .portSet a b => ownPortSet a b s
  | .portReport a => ownPortReport a s
  | .pointSet a b c d e t h v => ownPointSet a b c d e t h v s
  | .gateSet a d h w => ownGateSet a d h w s
  | .trackReport a => ownTrackReport l a s
  | .trackList a => ownTrackList a s
  | .outputSet a b c w p e r => ownOutputSet a b c w p e r s
  | .outputReport a => ownOutputReport a s
  | .grantAsk a b c x => ownGrantAsk a b c x s
  | .grantConcur a n => ownGrantConcur a n s
  | .grantDecline a n => ownGrantDecline a n s
  | .grantExtend a n x => ownGrantExtend a n x s
  | .grantRelease a n => ownGrantRelease a n s
  | .grantRevoke a n => ownGrantRevoke a n s
  | .grantPolicy x => ownGrantPolicy x s
  | .grantReport => ownGrantReport s
  | .fabricReport => ownFabricReport s
  | .noticeTake => ownNoticeTake l s
  | .noticeClear => ownNoticeClear l s
  | .noticeMask m => ownNoticeMask l m s
  | .linkReset => ownLinkReset l s
  | .partInfo => ownPartInfo l s
  | .partReset => ownPartReset l s

/-! ### Transactions (R176 to R179) -/

/-- The slot after a WRITE of `bytes` that is taken on link `l`: the request, checked under R179, waits for its owner
(log entry 9), or the reply of the check that failed waits to be placed. -/
def slotAfter (l : Link) (bytes : List Byte) : Slot :=
  let refused := fun why => Slot.workingAnswered { code := u8 bytes 1, tag := u8 bytes 2, status := why, body := [] }
  match readRequest bytes with
  | .ok r => if allowed l r then .workingHeld r (u8 bytes 2) else refused .refusedRights
  | .error why => refused why

/-- A WRITE of `bytes` after the transaction byte, taken at the release of the chip select (R177). -/
def takeWrite (l : Link) (bytes : List Byte) (s : State) : State :=
  let s1 := beginWrite l bytes.length s
  if (s.link l).slot.working then s1 else s1.setSlot l (slotAfter l bytes)

/-- The request held in WORKING is taken by its owner, where it still waits for it. -/
def takeHeld (l : Link) (s : State) : State :=
  match (s.link l).slot with
  | .workingHeld r tag => ownerTakes l tag r (owner r l) s
  | _ => s

/-! ### The meanings of the commands -/

/-- WRITE (R176, R177, R179). -/
def execWrite (l : Link) (bytes : List Byte) (s : State) : Result := .next (takeWrite l bytes s)

/-- READ (R176, R178): a transaction of no bytes has no effect, and one whose transaction byte is WRITE's is a
WRITE. -/
def execRead (l : Link) (mosi : List Byte) (s : State) : Result :=
  match mosi with
  | [] => .next s
  | b :: rest =>
    .next (if b = 1 then takeWrite l rest s else s.onLink l (readSlot rest.length))

/-- REPLY_PLACED (R177): the owner has taken the request, and the reply is placed in the slot. -/
def execReplyPlaced (l : Link) (s : State) : Result := .next ((takeHeld l s).onLink l placeReply)

/-- NOTICE_TAKE. -/
def execNoticeTake (l : Link) (tag : Byte) (s : State) : Result :=
  .next (request l tag .noticeTake (ownNoticeTake l) s)

/-- NOTICE_CLEAR. -/
def execNoticeClear (l : Link) (tag : Byte) (s : State) : Result :=
  .next (request l tag .noticeClear (ownNoticeClear l) s)

/-- NOTICE_MASK. -/
def execNoticeMask (l : Link) (tag : Byte) (mask : BitVec 16) (s : State) : Result :=
  .next (request l tag (.noticeMask mask) (ownNoticeMask l mask) s)

/-- LINK_RESET. -/
def execLinkReset (l : Link) (tag : Byte) (s : State) : Result :=
  .next (request l tag .linkReset (ownLinkReset l) s)

/-- PART_INFO. -/
def execPartInfo (l : Link) (tag : Byte) (s : State) : Result :=
  .next (request l tag .partInfo (ownPartInfo l) s)

end Sys2Proof.Machine
end

