-- ==== Sys2Proof/Machine/Dispatch.lean ====
section
/-! DEFINITION. The dispatch of the commands: one arm per constructor of Instr, one meaning per arm. -/

namespace Sys2Proof.Machine

/-- The effect of a command on everything but the queue. -/
def exec (i : Instr) (s : State) : Host.Outcome State Fault Refusal :=
  match i with
  | .powerOnReset => Sys2Proof.Machine.execPowerOnReset s
  | .warmReset => Sys2Proof.Machine.execWarmReset s
  | .mtAdvance => Sys2Proof.Machine.execMtAdvance s
  | .pulseEdge edge occurred => Sys2Proof.Machine.execPulseEdge edge s occurred
  | .write l bytes => Sys2Proof.Machine.execWrite l bytes s
  | .read l mosi => Sys2Proof.Machine.execRead l mosi s
  | .replyPlaced l => Sys2Proof.Machine.execReplyPlaced l s
  | .timeConfig l tag prio0 prio1 prio2 syncMs pathDelay pulseDelay kp ki stepUs lockNs q holdoverS gmPort edge => Sys2Proof.Machine.execTimeConfig l tag prio0 prio1 prio2 syncMs pathDelay pulseDelay kp ki stepUs lockNs q holdoverS gmPort edge s
  | .timePulseSet l tag op second => Sys2Proof.Machine.execTimePulseSet l tag op second s
  | .timeStepLock l tag setting => Sys2Proof.Machine.execTimeStepLock l tag setting s
  | .timeFaultClear l tag sources => Sys2Proof.Machine.execTimeFaultClear l tag sources s
  | .timeReport l tag page => Sys2Proof.Machine.execTimeReport l tag page s
  | .stationSet l tag station role port heads => Sys2Proof.Machine.execStationSet l tag station role port heads s
  | .stationRemove l tag station => Sys2Proof.Machine.execStationRemove l tag station s
  | .stationRun l tag station => Sys2Proof.Machine.execStationRun l tag station s
  | .stationHold l tag station => Sys2Proof.Machine.execStationHold l tag station s
  | .stationReport l tag first count => Sys2Proof.Machine.execStationReport l tag first count s
  | .streamOpen l tag stream cls port station queue quota cap staleUs recovery wireHold => Sys2Proof.Machine.execStreamOpen l tag stream cls port station queue quota cap staleUs recovery wireHold s
  | .streamClose l tag stream flush => Sys2Proof.Machine.execStreamClose l tag stream flush s
  | .streamAdjust l tag stream quota cap queue recovery staleUs => Sys2Proof.Machine.execStreamAdjust l tag stream quota cap queue recovery staleUs s
  | .streamReport l tag selector number => Sys2Proof.Machine.execStreamReport l tag selector number s
  | .queueSet l tag queue enabled periodUs pauseAware => Sys2Proof.Machine.execQueueSet l tag queue enabled periodUs pauseAware s
  | .queueReport l tag queue => Sys2Proof.Machine.execQueueReport l tag queue s
  | .backoffMatch l tag mask compare => Sys2Proof.Machine.execBackoffMatch l tag mask compare s
  | .portSet l tag port share => Sys2Proof.Machine.execPortSet l tag port share s
  | .portReport l tag port => Sys2Proof.Machine.execPortReport l tag port s
  | .pointSet l tag point enabled required camera output travelUs halfWindowUs allowanceUs => Sys2Proof.Machine.execPointSet l tag point enabled required camera output travelUs halfWindowUs allowanceUs s
  | .gateSet l tag output delayUs halfWindowUs widthUs => Sys2Proof.Machine.execGateSet l tag output delayUs halfWindowUs widthUs s
  | .trackReport l tag zero => Sys2Proof.Machine.execTrackReport l tag zero s
  | .trackList l tag start => Sys2Proof.Machine.execTrackList l tag start s
  | .outputSet l tag output mode level widthUs period enable runAlways => Sys2Proof.Machine.execOutputSet l tag output mode level widthUs period enable runAlways s
  | .outputReport l tag output => Sys2Proof.Machine.execOutputReport l tag output s
  | .grantAsk l tag level base limit lease => Sys2Proof.Machine.execGrantAsk l tag level base limit lease s
  | .grantConcur l tag slot number => Sys2Proof.Machine.execGrantConcur l tag slot number s
  | .grantDecline l tag slot number => Sys2Proof.Machine.execGrantDecline l tag slot number s
  | .grantExtend l tag slot number added => Sys2Proof.Machine.execGrantExtend l tag slot number added s
  | .grantRelease l tag slot number => Sys2Proof.Machine.execGrantRelease l tag slot number s
  | .grantRevoke l tag slot number => Sys2Proof.Machine.execGrantRevoke l tag slot number s
  | .grantPolicy l tag maxLease => Sys2Proof.Machine.execGrantPolicy l tag maxLease s
  | .grantReport l tag => Sys2Proof.Machine.execGrantReport l tag s
  | .fabricReport l tag => Sys2Proof.Machine.execFabricReport l tag s
  | .noticeTake l tag => Sys2Proof.Machine.execNoticeTake l tag s
  | .noticeClear l tag => Sys2Proof.Machine.execNoticeClear l tag s
  | .noticeMask l tag mask => Sys2Proof.Machine.execNoticeMask l tag mask s
  | .linkReset l tag => Sys2Proof.Machine.execLinkReset l tag s
  | .partInfo l tag => Sys2Proof.Machine.execPartInfo l tag s
  | .partReset l tag => Sys2Proof.Machine.execPartReset l tag s
  | .malformedMessage kind rest began => Sys2Proof.Machine.execMalformedMessage kind rest s began
  | .enqueue stream handle length => Sys2Proof.Machine.execEnqueue stream handle length s
  | .sent handle wireSec wireNs => Sys2Proof.Machine.execSent handle wireSec wireNs s
  | .portState port link pause watermark => Sys2Proof.Machine.execPortState port link pause watermark s
  | .cellIn port kind code station body began => Sys2Proof.Machine.execCellIn port kind code station body s began
  | .sync port code station seq originSec originNs began => Sys2Proof.Machine.execSync port code station seq originSec originNs s began
  | .fillDone port code station head result fillSec fillNs began => Sys2Proof.Machine.execFillDone port code station head result fillSec fillNs s began
  | .verdict port code station verdict detail stampSec stampNs began => Sys2Proof.Machine.execVerdict port code station verdict detail stampSec stampNs s began
  | .backoff port code station classes began => Sys2Proof.Machine.execBackoff port code station classes s began
  | .need port code station output word began => Sys2Proof.Machine.execNeed port code station output word s began
  | .trainingComplete => Sys2Proof.Machine.execTrainingComplete s
  | .alignmentLossExpiry => Sys2Proof.Machine.execAlignmentLossExpiry s
  | .restartSignal => Sys2Proof.Machine.execRestartSignal s
  | .outboundMessageSent => Sys2Proof.Machine.execOutboundMessageSent s
  | .faultDeadlineExpiry src => Sys2Proof.Machine.execFaultDeadlineExpiry src s
  | .holdoverDeadlineExpiry => Sys2Proof.Machine.execHoldoverDeadlineExpiry s
  | .stalenessDeadlineExpiry handle => Sys2Proof.Machine.execStalenessDeadlineExpiry handle s
  | .pacingQueueExpiry queue => Sys2Proof.Machine.execPacingQueueExpiry queue s
  | .release port => Sys2Proof.Machine.execRelease port s
  | .sentOverdueExpiry handle => Sys2Proof.Machine.execSentOverdueExpiry handle s
  | .triggerDeadlineExpiry seq point => Sys2Proof.Machine.execTriggerDeadlineExpiry seq point s
  | .verdictDeadlineExpiry seq point => Sys2Proof.Machine.execVerdictDeadlineExpiry seq point s
  | .gateDeadlineExpiry => Sys2Proof.Machine.execGateDeadlineExpiry s
  | .windowEndExpiry => Sys2Proof.Machine.execWindowEndExpiry s
  | .askTimeoutExpiry slot => Sys2Proof.Machine.execAskTimeoutExpiry slot s
  | .warningTimeExpiry slot => Sys2Proof.Machine.execWarningTimeExpiry slot s
  | .expiryMtExpiry slot => Sys2Proof.Machine.execExpiryMtExpiry slot s
  | .pulseEndExpiry output => Sys2Proof.Machine.execPulseEndExpiry output s
  | .feedInstant output => Sys2Proof.Machine.execFeedInstant output s
  | .lossOfAlignment => Sys2Proof.Machine.execLossOfAlignment s
  | .alignmentRegained => Sys2Proof.Machine.execAlignmentRegained s

end Sys2Proof.Machine
end

