-- ==== Sys2Proof/Layouts.lean ====
section
/-! DEFINITION. The bodies of the report replies as chapter 11 lays them out (R193, R194), field by field and with codes
written as places in the lists of the rules, and the framing of replies and outbound messages (sections 11.3 and 11.5,
R195): what the statements about bytes compare the machine's with. -/

namespace Sys2Proof.Layout

open Sys2Proof.Machine

/-! ### Fields (R193, R194) -/

/-- A number in `w` bytes, most significant byte first. -/
def num (w v : Nat) : List Byte := (List.range w).map fun k => BitVec.ofNat 8 (v / 256 ^ (w - 1 - k))

/-- A signed number in `w` bytes of two's complement. -/
def int (w : Nat) (v : Int) : List Byte := num w (v % (256 ^ w : Nat)).toNat

/-- `w` bytes of H'FF. -/
def blank (w : Nat) : List Byte := List.replicate w 0xFF

/-- A value of `w` bytes, or `w` bytes of H'FF where it is absent. -/
def orBlank {α : Type} (w : Nat) (f : α → List Byte) (x : Option α) : List Byte := (x.map f).getD (blank w)

/-- A value of `w` bytes behind its presence byte. -/
def present {α : Type} (w : Nat) (f : α → List Byte) (x : Option α) : List Byte :=
  match x with
  | some v => 1 :: f v
  | none => 0 :: blank w

/-- Yes, on, up, high, set or open as H'01, the other as H'00. -/
def bit (b : Bool) : List Byte := [if b then 1 else 0]

/-- A time: seconds in 6 bytes and nanoseconds in 4; the bytes of a time that these cannot hold are a free value (log entry
15). -/
def time (t : Int) : List Byte :=
  if 0 ≤ t ∧ t < 2 ^ 48 * 1000000000 then num 6 (t.toNat / 1000000000) ++ num 4 (t.toNat % 1000000000)
  else num 10 (Config.unrepresentableTime t).toNat

/-- A time that may be absent. -/
def timeOr (t : Option Int) : List Byte := orBlank 10 time t

/-- A record number that may be absent, in 1 byte. -/
def numberOr {n : Nat} (x : Option (Fin n)) : List Byte := orBlank 1 (fun i => num 1 i.1) x

/-- A named value: its place, from 0, in the list of values. -/
def place {α : Type} [BEq α] (values : List α) (x : α) : List Byte := num 1 (values.idxOf x)

/-- A list behind the number of its entries. -/
def listed (entries : List (List Byte)) : List Byte := num 1 entries.length ++ entries.flatten

/-- A source code (section 11.2). -/
def source (x : Source) : List Byte := place [.grandmaster, .hallPulse, .localOsc] x

/-- A link code (section 11.3). -/
def link (l : Link) : List Byte := place [.lc, .sm, .sc] l

/-! ### The Time Unit (R20, R25) -/

/-- The CONFIG page, in the order of R20. -/
def configPage (c : TimeConfig) : List Byte :=
  source c.first ++ source c.second ++ source c.third ++ num 2 c.syncMs ++ num 4 c.pathDelay ++ num 4 c.pulseDelay ++
    num 1 c.kp ++ num 1 c.ki ++ num 2 c.stepUs ++ num 4 c.lockNs ++ num 1 c.q ++ num 4 c.holdoverS ++
    num 1 c.gmPort.1 ++ place [.rising, .falling] c.edge

/-- The health fields of a source. -/
def health (h : Health) : List Byte :=
  place [.healthy, .faulted] h.state ++ num 1 h.qual ++ timeOr h.lastMt ++ bit h.sticky

/-- The STATE page, in the order of R25. -/
def statePage (t : TimeUnit) : List Byte :=
  time (t.mt.sec * 1000000000 + t.mt.ns : Nat) ++
    place [.freeRun, .acquiring, .locked, .holdover, .degraded] t.clock ++ source t.selected ++ bit t.everLocked ++
    num 1 t.lockRun ++ int 4 t.iTerm ++ int 4 t.pTerm ++ int 4 t.rate ++ int 2 (t.rate * 65536 / 1000000) ++
    present 21 (fun o : OffsetRecord => int 10 o.offset ++ place [.grandmaster, .hallPulse] o.source ++ time o.mt)
      t.lastOffset ++
    present 20 (fun x : StepRecord => int 10 x.applied ++ time x.mtAfter) t.lastStep ++
    timeOr t.holdoverMt ++ bit t.stepLock ++ present 6 (fun x : BitVec 48 => num 6 x.toNat) t.armed ++
    health t.gm ++ health t.hp ++ present 1 (fun x : Byte => [x]) t.lastSeq

/-! ### Stations and streams (R40, R41, R61) -/

/-- An entry of STATION-REPORT: marked configured or not, then the fields in the order of R40. -/
def station (x : Station) : List Byte :=
  bit x.conf.isSome ++ orBlank 1 (fun c : StationConf => place [.filler, .camera, .other] c.role) x.conf ++
    orBlank 1 (fun c : StationConf => num 1 c.port.1) x.conf ++
    orBlank 1 (fun c : StationConf => if c.role = .filler then num 1 c.heads else blank 1) x.conf ++
    orBlank 1 (fun c : StationConf => place [.absent, .held, .run, .service] c.state) x.conf ++
    [x.orderSeq] ++ timeOr x.lastChange

/-- The discard reasons in the order of R55. -/
def reasons : List DiscardReason :=
  [.length, .duplicate, .noStream, .closing, .shed, .held, .storeFull, .cap, .overtaken, .stale, .linkDown, .flushed,
    .sentLost]

/-- One counter for each discard reason. -/
def discards (t : Tbl Nat 13) : List Byte := reasons.flatMap fun why => num 4 (t.get why.index)

/-- The state of a stream. -/
def streamState (x : Stream) : List Byte := place [.free, .opened, .draining] x.state

/-- STREAM-REPORT, selector STREAM: the fields of R41, the counts and the eight oldest PENDING descriptors. (The WIRE-HELD
count is at most 2, so it has 1 byte: log entry 44.) -/
def stream (s : State) (i : Fin 128) : List Byte :=
  let x := s.streams.get i
  let waiting := s.store.filter fun d => d.stream == i && d.state == .pending
  streamState x ++ orBlank 1 link x.owner ++ orBlank 1 (place [.time, .cyclic, .bulk, .service]) x.cls ++
    numberOr x.egress ++ numberOr x.station ++ num 1 x.queue.1 ++ num 1 x.quota ++ num 1 x.credit ++ num 1 x.cap ++
    num 4 x.staleUs ++ (match x.recovery with | .clean m => num 1 m | .shed => blank 1) ++ num 1 x.level ++
    num 1 x.clean ++ num 1 x.phase ++ num 1 x.quiet ++ bit x.wireHold ++
    orBlank 1 (place [.closed, .forced, .grantEnded]) x.closeReason ++ num 4 x.released ++ discards x.discards ++
    num 1 waiting.length ++ num 1 (s.store.filter fun d => d.stream == i && d.state == .wireHeld).length ++
    listed ((waiting.take 8).map fun d => num 2 d.handle.toNat ++ num 2 d.length ++ time d.arrival ++ timeOr d.staleAt)

/-- STREAM-REPORT, selector STATION. -/
def stationStreams (s : State) (i : Fin 32) : List Byte :=
  let named := (numbers 128).filter fun k => (s.streams.get k).state != .free && (s.streams.get k).station == some i
  listed ((named.take 32).map fun k => num 1 k.1 ++ streamState (s.streams.get k))

/-- STREAM-REPORT, selector STORE. (The WIRE-HELD count is at most 48, so it has 1 byte: log entry 44.) -/
def store (s : State) : List Byte :=
  num 2 s.store.length ++ num 1 (s.store.filter fun d => d.state == .wireHeld).length ++ discards s.storeDiscards ++
    num 4 s.voids

/-! ### Queues and ports (R87, R90) -/

/-- QUEUE-REPORT: the local time that remains in microseconds, 0 where the expiry is due. -/
def queue (s : State) (q : Fin 8) : List Byte :=
  let x := s.queues.get q
  bit x.enabled ++ num 4 x.periodUs ++ bit x.pauseAware ++
    orBlank 4 (fun e : Nat => num 4 ((e - s.time.clock25) / 25)) x.nextExpiry ++ num 4 x.expiries ++
    num 1 (s.streams.xs.filter fun y => y.state != .free && y.queue == q).length ++
    [s.backoff.mask, s.backoff.compare] ++ num 4 s.backoff.matched ++ num 4 s.backoff.unmatched

/-- PORT-REPORT. -/
def port (s : State) (p : Fin 24) : List Byte :=
  let x := s.ports.get p
  bit x.up ++ bit x.paused ++ bit x.high ++ num 1 x.share ++ num 1 x.cyclicRun ++
    numberOr x.ptrTime ++ numberOr x.ptrCyclic ++ numberOr x.ptrBulk ++ timeOr x.lastWire ++
    num 4 x.released ++ num 4 x.sent ++ num 4 x.writeOffs ++
    listed (x.outstanding.map fun e => num 2 e.handle.toNat ++ num 1 e.stream.1 ++ time e.releaseMt ++ time e.overdue) ++
    [.time, .cyclic, .bulk].flatMap fun t : Tier => num 1 (s.eligibleIn p t).length

/-! ### The track (R96, R113, R114) -/

/-- The state of a point entry. -/
def entryState (e : EntryState) : List Byte :=
  match e with
  | .fail _ => num 1 5
  | e => place [.notUsed, .waiting, .expected, .service, .pass, .fail 0, .missing] e

/-- The dispositions in the order of R107. -/
def dispositions : List Disposition :=
  [.pass, .skip, .rejectFill, .rejectStation, .rejectFail, .rejectMissing, .rejectUntracked]

/-- TRACK-REPORT. -/
def track (s : State) : List Byte :=
  let t := s.track
  num 2 t.records.length ++ num 2 t.nextSeq.toNat ++ timeOr (t.records.head?.map (·.gateTime)) ++
    bit t.windowEnd.isSome ++ timeOr t.windowEnd ++ dispositions.flatMap (fun d => num 4 (t.counts.get d.index)) ++
    num 4 t.future ++ num 4 t.escaped ++ num 4 t.full ++ num 4 t.lateFill ++
    present 19 (fun d : Departure => num 2 d.seq.toNat ++ num 1 d.filler.1 ++ num 1 d.head ++ time d.gateTime ++
      place dispositions d.disposition ++ d.entries.xs.flatMap entryState) t.lastDeparture

/-- A record of TRACK-LIST: the fields of R96, its disposition PENDING the last. -/
def trackRecord (r : TrackRecord) : List Byte :=
  num 2 r.seq.toNat ++ num 1 r.filler.1 ++ num 1 r.head ++ place [.ok, .short, .over, .noContainer] r.result ++
    time r.fillMt ++ bit r.running ++
    r.entries.xs.flatMap (fun e => entryState e.state ++ time e.trigger ++ time e.verdictBy ++
      present 1 (fun x : Byte => [x]) (match e.state with | .fail d => some d | _ => none)) ++
    time r.gateTime ++ num 1 0

/-- TRACK-LIST from a start index. -/
def trackList (s : State) (start : Nat) : List Byte :=
  num 2 s.track.records.length ++ listed (((s.track.records.drop start).take 8).map trackRecord)

/-! ### Outputs (R128, R135, R139, R145) -/

/-- The state of an output under clock state `c`, row by row of R135. -/
def outputState (c : ClockState) (x : Output) : OutState :=
  let wanted := x.feedEnable = true ∨ x.needs ≠ []
  let clockMet := c = .locked ∨ c = .holdover ∨ x.runAlways = true
  match x.mode, x.pulseEnd with
  | .off, _ => .idle
  | .trigger, some _ | .feed, some _ => .active
  | .trigger, none => .idle
  | .feed, none => if ¬ wanted then .stopped else if clockMet then .idle else .waitingTime
  | .gate, e => if x.hold = true then .heldActive else if e.isSome then .active else .idle

/-- The pin is high: at its active level HIGH in ACTIVE and HELD-ACTIVE, at LOW in the other states. -/
def outputHigh (c : ClockState) (x : Output) : Bool :=
  decide ((outputState c x = .active ∨ outputState c x = .heldActive) ↔ x.level = .high)

/-- Half the feed period, in microseconds. -/
def halfPeriodUs : FeedPeriod → Nat
  | .s1 => 500000
  | .ms500 => 250000
  | .ms100 => 50000
  | .ms50 => 25000
  | .ms10 => 5000
  | .ms5 => 2500
  | .ms1 => 500

/-- OUTPUT-REPORT. -/
def output (s : State) (o : Fin 8) : List Byte :=
  let x := s.outputs.get o
  let c := s.time.clock
  place [.off, .feed, .trigger, .gate] x.mode ++ place [.high, .low] x.level ++ num 4 x.widthUs ++
    place [.s1, .ms500, .ms100, .ms50, .ms10, .ms5, .ms1] x.period ++ bit x.feedEnable ++ bit x.runAlways ++
    place [.idle, .active, .stopped, .waitingTime, .heldActive] (outputState c x) ++ place [true, false] (outputHigh c x) ++
    timeOr x.pulseEnd ++ num 4 (min x.widthUs (halfPeriodUs x.period)) ++ timeOr x.nextFeed ++
    num 4 ((numbers 32).foldl (fun n i => if x.needs.contains i then n + 2 ^ i.1 else n) 0) ++
    bit x.hold ++ bit s.outWindow ++
    numberOr ((numbers 4).find? fun k => (s.points.get k).enabled && (s.points.get k).output == some o) ++
    bit (s.gate.output == some o) ++ num 4 x.started ++ num 4 x.merged

/-! ### Grants, the Fabric Port and the part (R146, R162, R175, R190) -/

/-- A grant level code (section 11.2). -/
def level (v : GrantLevel) : List Byte :=
  match v with
  | .observe => [1]
  | .configure => [2]
  | .intervene => [3]

/-- A grant slot, in the order of R162. -/
def slot (g : GrantSlot) : List Byte :=
  place [.free, .asked, .active] g.state ++ present 2 (fun a : GrantAsk => num 2 a.number.toNat) g.ask ++
    orBlank 1 (fun a : GrantAsk => level a.level) g.ask ++ orBlank 1 (fun a : GrantAsk => num 1 a.base.1) g.ask ++
    orBlank 1 (fun a : GrantAsk => num 1 a.limit.1) g.ask ++ orBlank 2 (fun a : GrantAsk => num 2 a.lease) g.ask ++
    timeOr (g.ask.map (·.askMt)) ++ timeOr g.askTimeout ++ timeOr g.activation ++ timeOr g.expiry ++ timeOr g.warning ++
    bit g.warned ++ orBlank 1 (place [.declined, .timeout, .expired, .released, .revoked, .reset]) g.endReason

/-- The coverage of port `p` (R148): the highest level of an ACTIVE slot whose window holds it. -/
def coverage (s : State) (p : Fin 24) : Option GrantLevel :=
  [.intervene, .configure, .observe].find? fun v => (numbers 4).any fun k =>
    (s.grants.slots.get k).state == .active &&
      (s.grants.slots.get k).ask.any fun a => a.level == v && decide (a.base ≤ p ∧ p ≤ a.limit)

/-- GRANT-REPORT. -/
def grants (s : State) : List Byte :=
  s.grants.slots.xs.flatMap slot ++ num 2 s.grants.maxLease ++ num 2 s.grants.nextNumber.toNat ++
    (numbers 24).flatMap fun p => orBlank 1 level (coverage s p) ++
      numberOr ((numbers 4).find? fun k => (s.grants.slots.get k).state != .free &&
        (s.grants.slots.get k).ask.any fun a => a.level == .intervene && decide (a.base ≤ p ∧ p ≤ a.limit))

/-- FABRIC-REPORT. -/
def fabric (f : Fabric) : List Byte :=
  bit f.up ++ num 4 f.upCount ++ timeOr f.lastUp ++ timeOr f.lastDown ++ num 4 f.malformed ++ num 4 f.rejectedCells ++
    num 4 f.overflow ++ num 2 f.outbound.length

/-- PART-INFO on link `l`, in the order of section 11.3 (log entry 24), its revision a free value (log entry 14). -/
def part (l : Link) : List Byte :=
  [0x0B, 0x57, 0x0C, 0x30, Config.revision] ++ link l ++ [32, 128, 512, 8, 24, 256, 4, 8, 4].flatMap (num 2)

/-! ### Framing (sections 11.3 and 11.5, R195) -/

/-- A bit of the CRC-16: generator H'1021, the most significant bit first. -/
def crcShift (c : BitVec 16) : BitVec 16 := if c.msb then (c <<< 1) ^^^ 0x1021 else c <<< 1

/-- The CRC-16 of R195: initial value H'FFFF, neither reflected nor inverted. -/
def crc (bs : List Byte) : BitVec 16 :=
  bs.foldl (fun (c : BitVec 16) (b : Byte) => crcShift^[8] (c ^^^ (b ++ (0 : Byte)))) 0xFFFF

/-- A message followed by its check value, high byte first. -/
def framed (bs : List Byte) : List Byte := bs ++ num 2 (crc bs).toNat

/-- A reply status. -/
def status (x : Status) : List Byte :=
  match x with
  | .done => [0x00]
  | .refusedRights => [0x01]
  | .refusedRange => [0x02]
  | .refusedState => [0x03]
  | .refusedFull => [0x04]
  | .refusedConflict => [0x05]
  | .unknownRequest => [0x10]
  | .checkError => [0x11]
  | .lengthError => [0x12]

/-- A reply: body length, code and tag echoed, status, flags with OVERRUN in bit 0, body, check value. -/
def reply (r : Reply) (overrun : Bool) : List Byte :=
  framed (num 2 r.body.length ++ [r.code, r.tag] ++ status r.status ++ bit overrun ++ r.body)

/-- The status byte of a READ: the slot state IDLE 0, WORKING 1 or READY 2 in bits 1 and 0, OVERRUN in bit 7. -/
def slotStatus (k : LinkRec) : Byte :=
  let state := match k.slot with
    | .idle => 0
    | .workingHeld .. | .workingAnswered _ => 1
    | .ready _ => 2
  BitVec.ofNat 8 (state + if k.overrun then 128 else 0)

/-- A discard reason (section 11.6). -/
def discardReason (why : DiscardReason) : Byte :=
  match why with
  | .length => 0x01
  | .duplicate => 0x02
  | .noStream => 0x03
  | .closing => 0x04
  | .shed => 0x05
  | .held => 0x06
  | .storeFull => 0x07
  | .overtaken => 0x08
  | .stale => 0x09
  | .linkDown => 0x0A
  | .flushed => 0x0B
  | .cap => 0x0C
  | .sentLost => 0x0D

/-- An order (section 11.2). -/
def order (o : Order) : Byte :=
  match o with
  | .run => 0x01
  | .hold => 0x02
  | .service => 0x03

/-- A fabric message: kind, field length, fields, check value. -/
def fabricMessage (kind : Byte) (fields : List Byte) : List Byte := framed (kind :: num 1 fields.length ++ fields)

/-- A cell message: kind, code byte, station, body length, body. -/
def cellMessage (kind code : Byte) (station : Fin 32) (body : List Byte) : List Byte :=
  [kind, code] ++ num 1 station.1 ++ num 1 body.length ++ body

/-- An outbound message: RELEASE, DISCARD, CELL-OUT with an ORDER of code byte H'00 (R168), or RESYNC. -/
def outbound (m : OutMsg) : List Byte :=
  match m with
  | .release h p => fabricMessage 0x81 (num 2 h.toNat ++ num 1 p.1)
  | .discard h why => fabricMessage 0x82 (num 2 h.toNat ++ [discardReason why])
  | .cellOut p i o q => fabricMessage 0x83 (num 1 p.1 ++ cellMessage 0x06 0x00 i [order o, q])
  | .resync => fabricMessage 0x84 []

end Sys2Proof.Layout
end

