-- ==== Sys2Proof/WellFormed.lean ====
section
/-! DEFINITION. The well-formed commands: those whose operands the sender of the command can give it. Ill-formed
ones have a meaning all the same: a fabric message outside R169 is a malformed message. -/

namespace Sys2Proof

open Sys2Proof.Machine

/-- A port number (R170). -/
def wfPort (port : Byte) : Bool := decide (port.toNat < 24)

/-- The nanoseconds of a time (R170). -/
def wfNs (ns : BitVec 32) : Bool := decide (ns.toNat ≤ 999999999)

/-- A stamp, where the command carries one, is a value of MT (R1). -/
def wfStamp (began : Option Stamp) : Bool := began.all fun x => decide (0 ≤ x.mt ∧ x.mt < 2 ^ 48 * 1000000000)

/-- A named request has a form: each field has its width, and its code and length are those of section 11.3. -/
def wfRequest (r : Request) : Bool :=
  match requestForm (requestCode r) with
  | some (n, _) => decide ((requestBody r).length = n)
  | none => false

/-- The command as a link request: its link, its tag and the request. -/
def Instr.asRequest : Instr → Option (Link × Byte × Request)
  | .powerOnReset => none
  | .warmReset => none
  | .mtAdvance => none
  | .pulseEdge _ _ => none
  | .write _ _ => none
  | .read _ _ => none
  | .replyPlaced _ => none
  | .timeConfig l tag a b c t pd ud kp ki st lk q h g e =>
    some (l, tag, .timeConfig a b c t pd ud kp ki st lk q h g e)
  | .timePulseSet l tag op x => some (l, tag, .timePulseSet op x)
  | .timeStepLock l tag v => some (l, tag, .timeStepLock v)
  | .timeFaultClear l tag v => some (l, tag, .timeFaultClear v)
  | .timeReport l tag v => some (l, tag, .timeReport v)
  | .stationSet l tag a b c d => some (l, tag, .stationSet a b c d)
  | .stationRemove l tag a => some (l, tag, .stationRemove a)
  | .stationRun l tag a => some (l, tag, .stationRun a)
  | .stationHold l tag a => some (l, tag, .stationHold a)
  | .stationReport l tag a b => some (l, tag, .stationReport a b)
  | .streamOpen l tag a b c d e f g st r w => some (l, tag, .streamOpen a b c d e f g st r w)
  | .streamClose l tag a b => some (l, tag, .streamClose a b)
  | .streamAdjust l tag a b c d e st => some (l, tag, .streamAdjust a b c d e st)
  | .streamReport l tag a b => some (l, tag, .streamReport a b)
  | .queueSet l tag a b p c => some (l, tag, .queueSet a b p c)
  | .queueReport l tag a => some (l, tag, .queueReport a)
  | .backoffMatch l tag a b => some (l, tag, .backoffMatch a b)
  | .portSet l tag a b => some (l, tag, .portSet a b)
  | .portReport l tag a => some (l, tag, .portReport a)
  | .pointSet l tag a b c d e t h v => some (l, tag, .pointSet a b c d e t h v)
  | .gateSet l tag a d h w => some (l, tag, .gateSet a d h w)
  | .trackReport l tag a => some (l, tag, .trackReport a)
  | .trackList l tag a => some (l, tag, .trackList a)
  | .outputSet l tag a b c w p e r => some (l, tag, .outputSet a b c w p e r)
  | .outputReport l tag a => some (l, tag, .outputReport a)
  | .grantAsk l tag a b c x => some (l, tag, .grantAsk a b c x)
  | .grantConcur l tag a n => some (l, tag, .grantConcur a n)
  | .grantDecline l tag a n => some (l, tag, .grantDecline a n)
  | .grantExtend l tag a n x => some (l, tag, .grantExtend a n x)
  | .grantRelease l tag a n => some (l, tag, .grantRelease a n)
  | .grantRevoke l tag a n => some (l, tag, .grantRevoke a n)
  | .grantPolicy l tag x => some (l, tag, .grantPolicy x)
  | .grantReport l tag => some (l, tag, .grantReport)
  | .fabricReport l tag => some (l, tag, .fabricReport)
  | .noticeTake l tag => some (l, tag, .noticeTake)
  | .noticeClear l tag => some (l, tag, .noticeClear)
  | .noticeMask l tag m => some (l, tag, .noticeMask m)
  | .linkReset l tag => some (l, tag, .linkReset)
  | .partInfo l tag => some (l, tag, .partInfo)
  | .partReset l tag => some (l, tag, .partReset)
  | .malformedMessage _ _ _ => none
  | .enqueue _ _ _ => none
  | .sent _ _ _ => none
  | .portState _ _ _ _ => none
  | .cellIn _ _ _ _ _ _ => none
  | .sync _ _ _ _ _ _ _ => none
  | .fillDone _ _ _ _ _ _ _ _ => none
  | .verdict _ _ _ _ _ _ _ _ => none
  | .backoff _ _ _ _ _ => none
  | .need _ _ _ _ _ _ => none
  | .trainingComplete => none
  | .alignmentLossExpiry => none
  | .restartSignal => none
  | .outboundMessageSent => none
  | .faultDeadlineExpiry _ => none
  | .holdoverDeadlineExpiry => none
  | .stalenessDeadlineExpiry _ => none
  | .pacingQueueExpiry _ => none
  | .release _ => none
  | .sentOverdueExpiry _ => none
  | .triggerDeadlineExpiry _ _ => none
  | .verdictDeadlineExpiry _ _ => none
  | .gateDeadlineExpiry => none
  | .windowEndExpiry => none
  | .askTimeoutExpiry _ => none
  | .warningTimeExpiry _ => none
  | .expiryMtExpiry _ => none
  | .pulseEndExpiry _ => none
  | .feedInstant _ => none
  | .lossOfAlignment => none
  | .alignmentRegained => none

/-- A reading of R169 that fails. -/
def fails (m : Except Malformed Inbound) : Bool :=
  match m with
  | .ok _ => false
  | .error _ => true

/-- A command whose operands its sender can give it: a READ is not a WRITE (R176), a malformed message fails R169,
every other fabric message passes it (R170), a cell message fits its field length (section 11.5), and a stamp is a value of
MT (R1). -/
def Instr.wf (i : Instr) : Bool :=
  match i.asRequest with
  | some (_, _, r) => wfRequest r
  | none =>
    match i with
    | .pulseEdge _ occurred => wfStamp occurred
    | .read _ mosi => mosi.head? != some 1
    | .malformedMessage kind rest began => fails (readInbound kind rest ⟨0, 0⟩) && wfStamp began
    | .sent _ _ ns => wfNs ns
    | .portState port link pause watermark => !fails (readPortState port link pause watermark)
    | .cellIn port _ _ _ body began => wfPort port && decide (body.length ≤ 250) && wfStamp began
    | .sync port _ _ _ _ _ began => wfPort port && wfStamp began
    | .fillDone port _ _ _ _ _ _ began => wfPort port && wfStamp began
    | .verdict port _ _ _ _ _ _ began => wfPort port && wfStamp began
    | .backoff port _ _ _ began => wfPort port && wfStamp began
    | .need port _ _ _ _ began => wfPort port && wfStamp began
    | _ => true

end Sys2Proof
end

