-- ==== Sys2Proof/Safety.lean ====
section
/-! DEFINITION. What claims are stated in: the parts of the state a command leaves unchanged, the reply of a request,
and the properties that every step keeps. -/

namespace Sys2Proof.Machine

/-! ### Frames -/

/-- The parts of the state: the blocks' records, the links and the queue of commands. -/
inductive Part where
  | time | stations | streams | store | storeDiscards | voids | backoff | queues | ports | points | gate | track
  | outputs | outWindow | grants | fabric | link (l : Link) | pending
  deriving DecidableEq, Repr

/-- The part is the same in both states. -/
def Part.same (s t : State) : Part → Prop
  | .time => t.time = s.time
  | .stations => t.stations = s.stations
  | .streams => t.streams = s.streams
  | .store => t.store = s.store
  | .storeDiscards => t.storeDiscards = s.storeDiscards
  | .voids => t.voids = s.voids
  | .backoff => t.backoff = s.backoff
  | .queues => t.queues = s.queues
  | .ports => t.ports = s.ports
  | .points => t.points = s.points
  | .gate => t.gate = s.gate
  | .track => t.track = s.track
  | .outputs => t.outputs = s.outputs
  | .outWindow => t.outWindow = s.outWindow
  | .grants => t.grants = s.grants
  | .fabric => t.fabric = s.fabric
  | .link l => t.link l = s.link l
  | .pending => t.pending = s.pending

/-- `t` differs from `s` in none but the parts listed. -/
def SameBut (ps : List Part) (s t : State) : Prop := ∀ p, p ∉ ps → p.same s t

/-- The records of a table but number `i` are the same. -/
def OthersSame {α : Type} {n : Nat} (i : Fin n) (a b : Tbl α n) : Prop := ∀ j, j ≠ i → b.get j = a.get j

/-- The three links. -/
def allLinks : List Part := [.link .lc, .link .sm, .link .sc]

/-! ### Replies and notices -/

/-- The command completes: it answers a next state, of which `P` holds. -/
def Completes (c : Instr) (s : State) (P : State → Prop) : Prop := ∃ t, exec c s = .next t ∧ P t

/-- A request `r` on link `l` is taken: the slot is not in WORKING and the rights table allows the link (R177,
R180). -/
def Taken (l : Link) (r : Request) (s : State) : Prop := (s.link l).slot.working = false ∧ allowed l r = true

/-- A notice as it is heard: on the LC and SM links always, on the SC link where it says so (R183). -/
structure Heard where
  notice : Notice
  toSc : Bool

/-- The record of link `m` after the notices `ns`, posted in order at MT `mt` (R183). -/
def hear (ns : List Heard) (mt : Int) (m : Link) (k : LinkRec) : LinkRec :=
  ns.foldl (fun k n => if m ≠ .sc ∨ n.toSc = true then deliver n.notice mt k else k) k

/-- A notice that every link hears. -/
def toAll (n : Notice) : Heard := ⟨n, true⟩

/-- A notice that the SC link hears where its port is covered at OBSERVE or above (R184). -/
def byPort (s : State) (p : Option (Fin 24)) (n : Notice) : Heard := ⟨n, s.coveredAt .observe p⟩

/-- No link changes but by the notices `ns`, posted at MT `mt`. -/
def Hears (ns : List Heard) (mt : Int) (s t : State) : Prop := ∀ m, t.link m = hear ns mt m (s.link m)

/-- Link record `k` with request `r` answered: the reply waits to be placed, OVERRUN is set where the slot was not
IDLE before, and the part has returned H'00 on every byte of the WRITE (R177, section 11.3; log entries 26
and 43). -/
def answered (r : Request) (tag : Byte) (status : Status) (body : List Byte) (old k : LinkRec) : LinkRec :=
  { k with
    slot := .workingAnswered { code := requestCode r, tag := tag, status := status, body := body }
    overrun := old.overrun || !(old.slot == .idle)
    spiOut := List.replicate ((requestBody r).length + 5) 0 }

/-- Request `r` of link `l` is answered with `status` and `body`, and no link changes else but by the notices `ns`,
posted at the MT of `s`. -/
def Replied (l : Link) (tag : Byte) (r : Request) (status : Status) (body : List Byte) (ns : List Heard)
    (s t : State) : Prop :=
  ∀ m, t.link m =
    if m = l then answered r tag status body (s.link l) (hear ns s.now l (s.link l))
    else hear ns s.now m (s.link m)

/-- The command `c`, request `r` of link `l`, is answered with `status` and `body`, and changes nothing else. -/
def OnlyReplies (c : Instr) (l : Link) (tag : Byte) (r : Request) (status : Status) (body : List Byte)
    (s : State) : Prop :=
  Completes c s fun t => Replied l tag r status body [] s t ∧ SameBut [.link l] s t

/-! ### Properties that every step keeps -/

/-- R15. -/
def RateInv (s : State) : Prop :=
  -200000 ≤ s.time.iTerm ∧ s.time.iTerm ≤ 200000 ∧ -200000 ≤ s.time.rate ∧ s.time.rate ≤ 200000

/-- R1: the fields of MT lie within their ranges. -/
def MtInv (s : State) : Prop :=
  s.time.mt.sec < 2 ^ 48 ∧ s.time.mt.ns ≤ 999999999 ∧ s.time.mt.frac < 65536

/-- R8 to R10 and section 1.2: the selected source is the first HEALTHY one, LOCAL is selected exactly in FREE-RUN,
HOLDOVER and DEGRADED, and a deadline is held exactly in the state that holds it. -/
def ClockInv (s : State) : Prop :=
  s.time.selected = s.time.choice ∧
  (s.time.selected = .localOsc ↔ s.time.clock = .freeRun ∨ s.time.clock = .holdover ∨ s.time.clock = .degraded) ∧
  (s.time.holdoverDeadline.isSome = true ↔ s.time.clock = .holdover) ∧
  (s.time.gm.deadline.isSome = true ↔ s.time.gm.state = .healthy) ∧
  (s.time.hp.deadline.isSome = true ↔ s.time.hp.state = .healthy)

/-- R164, R165, R167: the outbound queue holds at most 1,024 messages; in DOWN it and the store are empty, no
alignment loss is timed, and every port is marked down with no handle outstanding. -/
def LinkInv (s : State) : Prop :=
  s.fabric.outbound.length ≤ 1024 ∧
  (s.fabric.up = false →
    s.fabric.outbound = [] ∧ s.store = [] ∧ s.fabric.alignTimer = none ∧
    ∀ p, (s.ports.get p).up = false ∧ (s.ports.get p).paused = false ∧ (s.ports.get p).high = false ∧
      (s.ports.get p).outstanding = [])

/-- The handles of an outstanding list. -/
def Port.handles (x : Port) : List (BitVec 16) := x.outstanding.map (·.handle)

/-- R43, R53, R60, R75, R78: handles are unique in the store and over the outstanding lists, a descriptor that holds an
outstanding handle is WIRE-HELD and of the stream the entry names, the store holds at most 512 descriptors and an
outstanding list at most 2 handles. -/
def HandleInv (s : State) : Prop :=
  s.store.length ≤ 512 ∧ (s.store.map (·.handle)).Nodup ∧
  (∀ p, (s.ports.get p).outstanding.length ≤ 2) ∧
  (s.ports.xs.flatMap Port.handles).Nodup ∧
  ∀ p, ∀ e ∈ (s.ports.get p).outstanding, ∀ d ∈ s.store, d.handle = e.handle →
    d.state = .wireHeld ∧ d.stream = e.stream

/-- R41, R50, R54: a FREE stream holds no descriptor, a DRAINING one holds one at least, a stream that is not FREE has a
cap of 1 or more, and no pending list is longer than its stream's cap. -/
def StreamInv (s : State) : Prop :=
  ∀ i, ((s.streams.get i).state = .free → s.holdsNone i = true) ∧
    ((s.streams.get i).state = .draining → s.holdsNone i = false) ∧
    ((s.streams.get i).state ≠ .free → 1 ≤ (s.streams.get i).cap) ∧
    (s.pendingList i).length ≤ (s.streams.get i).cap

/-- R41: the numeric fields of a stream lie within their ranges. -/
def Stream.ranged (x : Stream) : Prop :=
  x.credit ≤ x.quota ∧ x.quota ≤ 63 ∧ x.cap ≤ 64 ∧ x.level ≤ 4 ∧ x.phase ≤ 15 ∧ x.quiet ≤ 16 ∧
    (x.recovery = .shed → x.level ≤ 1)

/-- R41, for every stream. -/
def CreditInv (s : State) : Prop := ∀ i, (s.streams.get i).ranged

/-- R94 to R96: at most 256 records, in order of fill MT, each with its gate time, trigger times and verdict deadlines
at the configured distances from its fill MT. -/
def TrackInv (s : State) : Prop :=
  s.track.records.length ≤ 256 ∧
  s.track.records.Pairwise (fun a b => a.fillMt ≤ b.fillMt) ∧
  ∀ r ∈ s.track.records,
    r.gateTime = r.fillMt + usToNs s.gate.delayUs ∧
    ∀ i, (r.entries.get i).trigger = r.fillMt + usToNs (s.points.get i).travelUs ∧
      (r.entries.get i).verdictBy = (r.entries.get i).trigger + usToNs (s.points.get i).allowanceUs

/-- R128, R131 to R133, R136: at most one output is in GATE mode, it is held exactly while the forced-reject window is
open, and no other output is held. -/
def HoldInv (s : State) : Prop :=
  s.outWindow = s.track.windowEnd.isSome ∧
  (∀ o, (s.outputs.get o).hold = ((s.outputs.get o).mode == .gate && s.outWindow)) ∧
  (∀ o o', (s.outputs.get o).mode = .gate → (s.outputs.get o').mode = .gate → o = o')

/-- R31: no two configured stations share a port. -/
def StationInv (s : State) : Prop :=
  ∀ i j p, s.stationPort i = some p → s.stationPort j = some p → i = j

/-- R146, R150: the windows of two slots that are ASKED or ACTIVE at INTERVENE share no port, and a slot holds the
deadlines of its state alone and a window whose base is not above its limit. -/
def GrantInv (s : State) : Prop :=
  (∀ k k' p, (s.grants.slots.get k).reserves p = true → (s.grants.slots.get k').reserves p = true → k = k') ∧
  ∀ k, ((s.grants.slots.get k).askTimeout.isSome = true ↔ (s.grants.slots.get k).state = .asked) ∧
    ((s.grants.slots.get k).state ≠ .active → (s.grants.slots.get k).warning = none) ∧
    ((s.grants.slots.get k).state ≠ .free → (s.grants.slots.get k).ask.isSome = true) ∧
    ∀ a, (s.grants.slots.get k).ask = some a → a.base ≤ a.limit

end Sys2Proof.Machine
end

