-- ==== Sys2Proof/Certificates/Slice0/Obligations.lean ====
section
/-! DEFINITION. The statements for the provers, chapter by chapter. The words they share, beside those of Safety.lean, stand
before their first use. -/

open Sys2Proof Sys2Proof.Machine

/-! ### Words of the statements -/

/-- An outbound queue handed a message (R167): at 1,024 messages the message is lost and counted. -/
def Sys2Proof.Machine.Fabric.queued (m : OutMsg) (f : Fabric) : Fabric :=
  { f with
    outbound := if f.outbound.length < 1024 then f.outbound ++ [m] else f.outbound
    overflow := if f.outbound.length < 1024 then f.overflow else satInc f.overflow }

/-- The Fabric Port after an ORDER of station `i` on port `p`, with the sequence `q`: in UP alone (R30, R168). -/
def Sys2Proof.Machine.Fabric.ordered (p : Fin 24) (i : Fin 32) (o : Order) (q : Byte) (f : Fabric) : Fabric :=
  if f.up then f.queued (.cellOut p i o q) else f

/-- The order sequence after an ORDER (R30). -/
def Sys2Proof.Machine.Fabric.nextSeq (f : Fabric) (q : Byte) : Byte := if f.up then q + 1 else q

/-- The byte of a number, and H'FF for none (R193). -/
def Sys2Proof.Machine.numberByte {n : Nat} (x : Option (Fin n)) : Byte :=
  match x with
  | some k => BitVec.ofNat 8 k.1
  | none => 0xFF

/-- The byte of yes or no (section 11.2). -/
def Sys2Proof.Machine.boolByte (b : Bool) : Byte := if b then 1 else 0

/-- The store without the descriptors `ds` (R55, effect 2). -/
def Sys2Proof.Machine.without (ds : List Descriptor) (store : List Descriptor) : List Descriptor :=
  store.filter fun d => !ds.any (·.handle == d.handle)

/-- `n` discards with `why` counted (R55, effects 3 and 4). -/
def Sys2Proof.Machine.countedTimes (why : DiscardReason) (n : Nat) (t : Tbl Nat 13) : Tbl Nat 13 := (countDiscard why)^[n] t

/-- The Fabric Port handed a DISCARD of each of `ds` (R55, effect 1). -/
def Sys2Proof.Machine.Fabric.discards (why : DiscardReason) (ds : List Descriptor) (f : Fabric) : Fabric :=
  ds.foldl (fun f d => f.queued (.discard d.handle why)) f

/-- The effects of R55 beside its stream's own: `ds` have been discarded with `why`. -/
def Sys2Proof.Machine.Discarded (why : DiscardReason) (ds : List Descriptor) (s t : State) : Prop :=
  t.store = without ds s.store ∧ t.fabric = s.fabric.discards why ds ∧
  t.storeDiscards = countedTimes why ds.length s.storeDiscards

/-- The DISCARDS notices of `n` discards of stream `i` (R55, effect 5). -/
def Sys2Proof.Machine.heardDiscards (why : DiscardReason) (n : Nat) (i : Fin 128) (s : State) : List Heard :=
  List.replicate n (byPort s (s.streamPort i) (noticeDiscards i.1 why))

/-! ### The queue and the commands -/

/-- A command at the front of the queue is run, on the state with the queue's rest; on an empty queue the block idles
(the form of a block's model; log entries 29 and 30). -/
def Obligations.StepRunsTheFrontCommand : Prop :=
  (∀ (c : Instr) (rest : List Instr) (s : State), step (s.withQueue (c :: rest)) = exec c (s.withQueue rest)) ∧
  ∀ s : State, step (s.withQueue []) = .next (s.withQueue [])

/-- No command reads or changes the queue of the commands that wait: what waits after it is what waited before, and with any
other queue in its place the command leaves the same state but for that queue. The resets are no exception: that they keep
the queue is the model's choice (log entry 30). -/
def Obligations.CommandsLeaveTheQueue : Prop :=
  ∀ (c : Instr) (s t : State), exec c s = .next t →
    t.pending = s.pending ∧ ∀ q : List Instr, exec c (s.withQueue q) = .next (t.withQueue q)

/-! ### Requests as such (section 4.6, R176 to R180) -/

/-- R177, R180, section 4.6: a request that reaches a slot in WORKING is ignored and only sets OVERRUN; a request on a link
that the rights table does not allow is answered with REFUSED-RIGHTS and an empty body, whatever its fields hold. The part
returns H'00 on every byte of either WRITE, and nothing else changes. A request that is not answered with DONE has an empty
body and has changed nothing but the slot, OVERRUN and data output of its own link. (The bytes returned
are the model's record: log entries 26 and 43.) -/
def Obligations.RequestsNotPerformedHaveNoEffect : Prop :=
  (∀ (c : Instr) (l : Link) (tag : Byte) (r : Request) (s : State), c.asRequest = some (l, tag, r) →
    ((s.link l).slot.working = true →
      Completes c s fun t => SameBut [.link l] s t ∧ t.link l =
        { s.link l with overrun := true, spiOut := List.replicate ((requestBody r).length + 5) 0 }) ∧
    ((s.link l).slot.working = false → allowed l r = false →
      Completes c s fun t => Replied l tag r .refusedRights [] [] s t ∧ SameBut [.link l] s t)) ∧
  ∀ (c : Instr) (l : Link) (tag : Byte) (r : Request) (s t : State) (reply : Reply),
    c.asRequest = some (l, tag, r) → (s.link l).slot.working = false → exec c s = .next t →
    (t.link l).slot = .workingAnswered reply → reply.status ≠ .done →
    reply.body = [] ∧ SameBut [.link l] s t ∧ (t.link l).notices = (s.link l).notices ∧
      (t.link l).mask = (s.link l).mask

/-! ### Bytes (chapter 11) -/

/-- Section 11.3, R193, R195: the CRC-16 of a message with its own check value after it is 0, and the message passes the
check with its contents; the bytes of a request message read back, under the checks of R179, as that request, with its code
and tag. -/
def Obligations.RequestBytesReadBack : Prop :=
  (∀ bs : List Byte, crc16 (withCrc bs) = 0 ∧ checkCrc (withCrc bs) = (bs, true)) ∧
  ∀ (tag : Byte) (r : Request), readRequest (requestBytes tag r) = .ok r ∧
    u8 (requestBytes tag r) 1 = requestCode r ∧ u8 (requestBytes tag r) 2 = tag

/-- R177, R179: a WRITE of the bytes of a request, and the placing of its reply, leave the part as the named command and
the placing of its reply leave it. (That the owner takes a raw request at REPLY_PLACED, and a named one at once, is log
entries 8 and 9's choice.) -/
def Obligations.RawRequestActsAsNamed : Prop :=
  ∀ (c : Instr) (l : Link) (tag : Byte) (r : Request) (s : State), c.asRequest = some (l, tag, r) →
    ∃ u v t, exec (.write l (requestBytes tag r)) s = .next u ∧ exec c s = .next v ∧
      exec (.replyPlaced l) u = .next t ∧ exec (.replyPlaced l) v = .next t

/-- Section 11.5: the bytes of an ENQUEUE, a SENT, a PORT-STATE and a CELL-IN within the values of R170 read as that
message, a CELL-IN with its stamp (R171), and a message of another kind that carries its check value fails with FORMAT. -/
def Obligations.FabricMessageBytesReadBack : Prop :=
  ∀ x : Stamp,
  (∀ (stream : Byte) (handle length : BitVec 16),
    readInbound 1 ((withCrc ([1, 5, stream] ++ field 2 handle ++ field 2 length)).drop 1) x =
      .ok (.enqueue stream handle length)) ∧
  (∀ (handle : BitVec 16) (sec : BitVec 48) (ns : BitVec 32), ns.toNat ≤ 999999999 →
    readInbound 2 ((withCrc ([2, 12] ++ field 2 handle ++ field 6 sec ++ field 4 ns)).drop 1) x =
      .ok (.sent handle (timeOf sec ns))) ∧
  (∀ (p : Fin 24) (up paused high : Bool),
    readInbound 3 ((withCrc ([3, 4, BitVec.ofNat 8 p.1] ++ flag up ++ flag paused ++ flag high)).drop 1) x =
      .ok (.portState p up paused high)) ∧
  (∀ (p : Fin 24) (kind code station : Byte) (body : List Byte), body.length ≤ 250 →
    readInbound 4 ((withCrc ([4, BitVec.ofNat 8 (5 + body.length), BitVec.ofNat 8 p.1, kind, code, station,
      BitVec.ofNat 8 body.length] ++ body)).drop 1) x = .ok (.cellIn p station (readCell kind code body) x)) ∧
  ∀ (kind : Byte) (rest : List Byte), kind ≠ 1 → kind ≠ 2 → kind ≠ 3 → kind ≠ 4 →
    readInbound kind ((withCrc (kind :: rest)).drop 1) x = .error .format

/-! ### Reports -/

/-- R25, R40, R61, R87, R90, R113, R114, R145, R162, R175, R190: a report is answered with DONE and the fields its rule
names, laid out byte by byte as Layouts.lean writes them, and changes nothing; on the SC link a STATION-REPORT or
STREAM-REPORT of what a port hides from it is answered with REFUSED-RIGHTS. The layouts follow R193, R194 and section 11.3,
and are the model's choices where those leave one: the revision (log entry 14), a time beyond the field (15), presence
bytes and absent codes (21), codes by the order of a text (22), the order of a record's results (23), the place of the link
in PART-INFO (24), a stream never opened (41), the coverage of a port (42) and the width of the WIRE-HELD counts (44). -/
def Obligations.ReportsAnswerAndChangeNothing : Prop :=
  ∀ (l : Link) (tag : Byte) (s : State), (s.link l).slot.working = false →
    OnlyReplies (.timeReport l tag 0) l tag (.timeReport 0) .done (Layout.statePage s.time) s ∧
    OnlyReplies (.timeReport l tag 1) l tag (.timeReport 1) .done (Layout.configPage s.time.config) s ∧
    (∀ first count : Byte, 1 ≤ count.toNat → count.toNat ≤ 8 → first.toNat + count.toNat ≤ 32 →
      let range := stationRange first.toNat count.toNat
      ((∀ i ∈ range, s.hidden l (s.stationPort i) = false) →
        OnlyReplies (.stationReport l tag first count) l tag (.stationReport first count) .done
          (range.flatMap fun i => Layout.station (s.stations.get i)) s) ∧
      ((∃ i ∈ range, s.hidden l (s.stationPort i) = true) →
        OnlyReplies (.stationReport l tag first count) l tag (.stationReport first count) .refusedRights [] s)) ∧
    (∀ i : Fin 128, OnlyReplies (.streamReport l tag 0 (BitVec.ofNat 8 i.1)) l tag
      (.streamReport 0 (BitVec.ofNat 8 i.1))
      (if s.hidden l (s.streams.get i).egress then .refusedRights else .done)
      (if s.hidden l (s.streams.get i).egress then [] else Layout.stream s i) s) ∧
    (∀ i : Fin 32, OnlyReplies (.streamReport l tag 1 (BitVec.ofNat 8 i.1)) l tag
      (.streamReport 1 (BitVec.ofNat 8 i.1))
      (if s.hidden l (s.stationPort i) then .refusedRights else .done)
      (if s.hidden l (s.stationPort i) then [] else Layout.stationStreams s i) s) ∧
    (∀ num : Byte, OnlyReplies (.streamReport l tag 2 num) l tag (.streamReport 2 num)
      (if l = .sc then .refusedRights else .done) (if l = .sc then [] else Layout.store s) s) ∧
    (∀ q : Fin 8, OnlyReplies (.queueReport l tag (BitVec.ofNat 8 q.1)) l tag (.queueReport (BitVec.ofNat 8 q.1))
      .done (Layout.queue s q) s) ∧
    (∀ p : Fin 24, OnlyReplies (.portReport l tag (BitVec.ofNat 8 p.1)) l tag (.portReport (BitVec.ofNat 8 p.1))
      .done (Layout.port s p) s) ∧
    OnlyReplies (.trackReport l tag 0) l tag (.trackReport 0) .done (Layout.track s) s ∧
    (∀ start : Byte, l ≠ .sc → OnlyReplies (.trackList l tag start) l tag (.trackList start) .done
      (Layout.trackList s start.toNat) s) ∧
    (∀ o : Fin 8, OnlyReplies (.outputReport l tag (BitVec.ofNat 8 o.1)) l tag
      (.outputReport (BitVec.ofNat 8 o.1)) .done (Layout.output s o) s) ∧
    OnlyReplies (.grantReport l tag) l tag .grantReport .done (Layout.grants s) s ∧
    OnlyReplies (.fabricReport l tag) l tag .fabricReport .done (Layout.fabric s.fabric) s ∧
    OnlyReplies (.partInfo l tag) l tag .partInfo .done (Layout.part l) s

/-- R25, R40, R61, R87, R90, R145: a report whose page, selector, number or range names no record is refused with
REFUSED-RANGE. -/
def Obligations.ReportsOfNoRecordAreRefused : Prop :=
  ∀ (l : Link) (tag a b : Byte) (s : State), (s.link l).slot.working = false →
    (2 ≤ a.toNat → OnlyReplies (.timeReport l tag a) l tag (.timeReport a) .refusedRange [] s) ∧
    (¬ (1 ≤ b.toNat ∧ b.toNat ≤ 8 ∧ a.toNat + b.toNat ≤ 32) →
      OnlyReplies (.stationReport l tag a b) l tag (.stationReport a b) .refusedRange [] s) ∧
    (a = 0 ∧ 128 ≤ b.toNat ∨ a = 1 ∧ 32 ≤ b.toNat ∨ 3 ≤ a.toNat →
      OnlyReplies (.streamReport l tag a b) l tag (.streamReport a b) .refusedRange [] s) ∧
    (8 ≤ a.toNat → OnlyReplies (.queueReport l tag a) l tag (.queueReport a) .refusedRange [] s ∧
      OnlyReplies (.outputReport l tag a) l tag (.outputReport a) .refusedRange [] s) ∧
    (24 ≤ a.toNat → OnlyReplies (.portReport l tag a) l tag (.portReport a) .refusedRange [] s)

/-! ### Machine time (chapter 1) -/

/-- The greatest value of MT, in 1/65,536 ns (R1). -/
def Sys2Proof.Machine.topUnits : Int := 2 ^ 48 * 1000000000 * 65536 - 1

/-- R2: a microsecond of local time, 25 periods of the reference, moves MT by 1000 ns plus F/65,536 ns, with F the floor of
r × 65,536 / 1,000,000, up to the greatest value of R1. (That MT_ADVANCE is that microsecond, and that no other command passes
any time, is log entry 2's reading.) -/
def Obligations.MtAdvanceAddsTheCorrectedMicrosecond : Prop :=
  ∀ s : State, MtInv s → RateInv s →
    ∃ f : Int, f * 1000000 ≤ s.time.rate * 65536 ∧ s.time.rate * 65536 < (f + 1) * 1000000 ∧
      -13108 ≤ f ∧ f ≤ 13107 ∧
      Completes .mtAdvance s fun t =>
        SameBut [.time] s t ∧ MtInv t ∧
        t.time = { s.time with mt := t.time.mt, clock25 := s.time.clock25 + 25 } ∧
        t.time.mt.units = min (s.time.mt.units + 1000 * 65536 + f) topUnits

/-- The gap from the last accepted edge is at least `n` periods of the reference, where there is one. -/
def Sys2Proof.Machine.gapAtLeast (n : Nat) (last : Option Nat) (here : Nat) : Prop := ∀ x, last = some x → x + n ≤ here

/-- A value held within ± 200,000 ppb (R15). -/
def Sys2Proof.Machine.withinPpb (v : Int) : Int := max (-200000) (min 200000 v)

/-- The servo of R14 and R16 on an offset `o` within the step threshold, at sample interval `ms`, of an arrival at MT `mt`:
what the Time Unit is after it, `u` being the Time Unit after the health update. -/
def Sys2Proof.Machine.Disciplined (o : Int) (ms : Nat) (src : TimedSource) (mt : Int) (u t : TimeUnit) : Prop :=
  let f := (o * 1000).tdiv ms
  t.iTerm = withinPpb (u.iTerm + f.tdiv (2 ^ u.config.ki)) ∧
  t.pTerm = f.tdiv (2 ^ u.config.kp) ∧
  t.rate = withinPpb (t.iTerm + t.pTerm) ∧
  t.lastOffset = some { offset := o, source := src, mt := mt } ∧
  (let counts := if u.clock = .acquiring then o.natAbs ≤ u.config.lockNs else u.config.lockNs < o.natAbs
   (¬ counts → t.clock = u.clock ∧ t.lockRun = 0) ∧
   (counts → u.lockRun + 1 < u.config.q → t.clock = u.clock ∧ t.lockRun = u.lockRun + 1) ∧
   (counts → u.config.q ≤ u.lockRun + 1 →
    t.clock = (if u.clock = .acquiring then .locked else .acquiring) ∧ t.lockRun = 0)) ∧
  t.everLocked = (u.everLocked || decide (t.clock = .locked)) ∧
  t = { u with
    iTerm := t.iTerm, pTerm := t.pTerm, rate := t.rate, lastOffset := t.lastOffset, clock := t.clock
    lockRun := t.lockRun, everLocked := t.everLocked
    holdoverDeadline := if t.clock = u.clock then u.holdoverDeadline else none }

/-- Everything outside the Time Unit after a step of MT by `d` (R18): the deadlines of the other blocks move by `d`. -/
def Sys2Proof.Machine.DeadlinesMoved (d : Int) (s t : State) : Prop :=
  SameBut ([.time, .store, .track, .ports, .grants, .outputs] ++ allLinks) s t ∧
  t.track = { s.track with
    records := s.track.records.map fun r => { r with
      fillMt := r.fillMt + d, gateTime := r.gateTime + d
      entries := r.entries.map fun e => { e with trigger := e.trigger + d, verdictBy := e.verdictBy + d } }
    windowEnd := s.track.windowEnd.map (· + d) } ∧
  t.store = s.store.map (fun x =>
    if x.state = .pending ∧ (s.streams.get x.stream).cls = some .cyclic then
      { x with staleAt := x.staleAt.map (· + d) }
    else x) ∧
  (∀ p, t.ports.get p = { s.ports.get p with
    outstanding := (s.ports.get p).outstanding.map fun e => { e with overdue := e.overdue + d } }) ∧
  (∀ k, t.grants.slots.get k =
    let g := s.grants.slots.get k
    if g.state = .asked then { g with askTimeout := g.askTimeout.map (· + d) }
    else if g.state = .active then
      { g with
        activation := g.activation.map (· + d), warning := g.warning.map (· + d), expiry := g.expiry.map (· + d) }
    else g) ∧
  t.grants.nextNumber = s.grants.nextNumber ∧ t.grants.maxLease = s.grants.maxLease ∧
  (∀ x, t.outputs.get x =
    let y := s.outputs.get x
    { y with
      pulseEnd := y.pulseEnd.map (· + d)
      nextFeed := if y.mode = .feed then some (nextInstant y.period t.now) else y.nextFeed })

/-- MT has stepped by the offset `o` of an arrival at MT `mt`, within the range of MT, from the Time Unit `u` at MT `now`
(R17, R19). -/
def Sys2Proof.Machine.Stepped (o : Int) (src : TimedSource) (mt now : Int) (u t : TimeUnit) : Prop :=
  t.mt.toTime = max 0 (min (2 ^ 48 * 1000000000 - 1) (now + o)) ∧
  t.mt.frac = (if now + o < 0 then 0 else if 2 ^ 48 * 1000000000 - 1 < now + o then 65535 else u.mt.frac) ∧
  t = { u with
    mt := t.mt, pTerm := 0, lastOffset := some { offset := o, source := src, mt := mt }
    lastStep := some { applied := t.mt.toTime - now, mtAfter := t.mt.toTime } }

/-- The clock state after a change of selection to `src` (the table of R9). -/
def Sys2Proof.Machine.TimeUnit.clockAt (src : Source) (u : TimeUnit) : ClockState :=
  if src ≠ .localOsc then .acquiring
  else if u.clock = .locked ∨ u.everLocked = true then .holdover
  else .freeRun

/-- The Time Unit `u` after selection is re-evaluated at MT `now` and local time `here` (R8 to R10): where the first HEALTHY
source is not the selected one it is selected, I is kept, P is 0, r takes I where the source is LOCAL, the clock state is
that of the table of R9, and HOLDOVER records its entry and its deadline. -/
def Sys2Proof.Machine.TimeUnit.reevaluated (now : Int) (here : Nat) (u : TimeUnit) : TimeUnit :=
  let src := u.choice
  let held := u.clockAt src = .holdover
  if src = u.selected then u
  else
    { u with
      selected := src, pTerm := 0, rate := if src = .localOsc then u.iTerm else u.rate
      clock := u.clockAt src, lockRun := 0
      holdoverDeadline := if held then some (here + u.config.holdoverS * 25000000) else none
      holdoverMt := if held then some now else u.holdoverMt
      holdoverLocal := if held then some here else u.holdoverLocal }

/-- What every link hears of that re-evaluation: TIME-SOURCE with SELECTED (reason 1), and TIME-SOURCE with the clock state
where it changes, the first of the two a free value (R8, R9; log entry 17). -/
def Sys2Proof.Machine.TimeUnit.selectionHeard (u : TimeUnit) : List Heard :=
  let src := u.choice
  let selected := toAll (noticeTimeSource src 1)
  let state := toAll (noticeTimeSource src (u.clockAt src).reason)
  if src = u.selected then []
  else if u.clockAt src = u.clock then [selected]
  else if Config.selectionPostFirst then [selected, state]
  else [state, selected]

/-- A sample of `src` with the measured offset `o`, of an arrival at MT `mt` (log entry 46), taken from the Time Unit `u`
after the notices `ns` (R12 to R18). Above
the step threshold with step lock OFF, MT steps, the deadlines of the other blocks move by the applied step, and
TIME-STEPPED is posted; the sign of an applied step of 0 is a free value (log entry 16). Otherwise the offset, clamped to
the threshold, disciplines MT at the interval of the source, and a change of clock state is posted as TIME-SOURCE. A sample
of HALL-PULSE consumes the armed second. -/
def Sys2Proof.Machine.Sampled (src : TimedSource) (o mt : Int) (ns : List Heard) (u : TimeUnit) (s t : State) : Prop :=
  let v := if src = .hallPulse then { u with armed := none } else u
  let limit : Int := u.config.stepUs * 1000
  let d := t.now - s.now
  if limit.natAbs < o.natAbs ∧ u.stepLock = false then
    Stepped o src mt s.now v t.time ∧ DeadlinesMoved d s t ∧
    ∀ m, t.link m =
      hear [toAll (noticeTimeStepped src (if d = 0 then Config.zeroStepIsForward else decide (0 < d)))] t.now m
        (hear ns s.now m (s.link m))
  else
    SameBut ([.time] ++ allLinks) s t ∧
    Disciplined (max (-limit) (min limit o)) (if src = .hallPulse then 1000 else u.config.syncMs) src mt v t.time ∧
    Hears (ns ++ if t.time.clock = u.clock then [] else
      [toAll (noticeTimeSource (sourceOfTimed src) t.time.clock.reason)]) s.now s t

/-- A FAULTED source `src` has recovered by an arrival of offset `o` at MT `mt`, its record HEALTHY in the Time Unit `u` (R3, R5, R8):
SOURCE-FAULT is posted with RECOVERED, selection is re-evaluated, and where it selects the source the arrival is a sample. -/
def Sys2Proof.Machine.Recovered (src : TimedSource) (o mt : Int) (u : TimeUnit) (s t : State) : Prop :=
  let v := u.reevaluated s.now s.time.clock25
  let ns := [toAll (noticeSourceFault src true)] ++ u.selectionHeard
  if u.choice = sourceOfTimed src then Sampled src o mt ns v s t
  else SameBut ([.time] ++ allLinks) s t ∧ t.time = v ∧ Hears ns s.now s t

/-- The offset of an edge of the PULSE input at MT `mt`: to the armed second, or to the second nearest to that MT (R12). -/
def Sys2Proof.Machine.State.edgeOffset (s : State) (mt : Int) : Int :=
  let second : Int :=
    match s.time.armed with
    | some x => x.toNat
    | none => if 500000000 ≤ mt % 1000000000 then mt / 1000000000 + 1 else mt / 1000000000
  second * 1000000000 + s.time.config.pulseDelay - mt

/-- The offset of a SYNC with its origin that arrived at MT `mt` (R11). -/
def Sys2Proof.Machine.State.syncOffset (s : State) (sec : BitVec 48) (ns : BitVec 32) (mt : Int) : Int :=
  (sec.toNat * 1000000000 + ns.toNat : Nat) + s.time.config.pathDelay - mt

/-- The stamp of an edge or a message: the one its command carries, or the MT and local time of the event (R5, R171; log
entry 7). -/
def Sys2Proof.Machine.State.stampedAt (s : State) (x : Option Stamp) : Stamp :=
  match x with
  | some y => y
  | none => { mt := s.now, localTime := s.time.clock25 }

/-- R5: edges of the other polarity have no effect; a glitch, less than 0.5 s after the last accepted edge, only sets the
qualification count of a FAULTED HALL-PULSE to 0; an accepted edge is stamped, moves the fault deadline of a HEALTHY
source to 3 s later, and counts for a FAULTED one when it is on time. A count that reaches Q makes it HEALTHY: SOURCE-FAULT is
posted with RECOVERED, selection is re-evaluated, and the edge is a sample where HALL-PULSE is then selected. (The counts
are those of log entry 19: a HEALTHY source keeps its own, and a count above a lowered Q has reached it; when the edge
occurred is log entry 7's operand, and the MT of a sample log entry 46's reading.) -/
def Obligations.PulseEdgeUpdatesItsHealthRecord : Prop :=
  ∀ (edge : PulseEdge) (occurred : Option Stamp) (s : State),
    let h := s.time.hp
    let mt := (s.stampedAt occurred).mt
    let here := (s.stampedAt occurred).localTime
    let stamped : Health := { h with lastMt := some mt, lastLocal := some here }
    (edge ≠ s.time.config.edge → Completes (.pulseEdge edge occurred) s fun t => t = s) ∧
    (edge = s.time.config.edge → (∃ x, h.lastLocal = some x ∧ here < x + 12500000) →
      Completes (.pulseEdge edge occurred) s fun t => SameBut [.time] s t ∧
        t.time = { s.time with hp := { h with qual := if h.state = .faulted then 0 else h.qual } }) ∧
    (edge = s.time.config.edge → gapAtLeast 12500000 h.lastLocal here →
      s.time.selected ≠ .hallPulse → s.time.selected = s.time.choice →
      (h.state = .healthy → Completes (.pulseEdge edge occurred) s fun t => SameBut [.time] s t ∧
        t.time = { s.time with hp := { stamped with deadline := some (here + 75000000) } }) ∧
      (h.state = .faulted → (∀ x, h.lastLocal = some x → x + 37500000 < here) →
        Completes (.pulseEdge edge occurred) s fun t => SameBut [.time] s t ∧
          t.time = { s.time with hp := { stamped with qual := 0 } }) ∧
      (h.state = .faulted → (∃ x, h.lastLocal = some x ∧ here ≤ x + 37500000) → h.qual + 1 < s.time.config.q →
        Completes (.pulseEdge edge occurred) s fun t => SameBut [.time] s t ∧
          t.time = { s.time with hp := { stamped with qual := h.qual + 1 } }) ∧
      (h.state = .faulted → (∃ x, h.lastLocal = some x ∧ here ≤ x + 37500000) → s.time.config.q ≤ h.qual + 1 →
        let risen : Health := { stamped with state := .healthy, qual := h.qual + 1, deadline := some (here + 75000000) }
        Completes (.pulseEdge edge occurred) s fun t => t.time.hp = risen ∧
          (ClockInv s → Recovered .hallPulse (s.edgeOffset mt) mt { s.time with hp := risen } s t)))

/-- R5, R12 to R18: an accepted edge of a HEALTHY, selected HALL-PULSE in ACQUIRING or LOCKED is a sample at the interval of
1000 ms that consumes the armed second. Within the step threshold its offset disciplines MT; above it, with step lock ON, the
clamped offset does; above it, with step lock OFF, MT steps, every deadline of the other blocks moves by the applied step, and
TIME-STEPPED is posted (the sign of an applied step of 0 is a free value: log entry 16; when the edge occurred is log
entry 7's operand, and the MT of the sample log entry 46's reading). -/
def Obligations.SelectedPulseEdgeDisciplinesTime : Prop :=
  ∀ (occurred : Option Stamp) (s : State),
    let mt := (s.stampedAt occurred).mt
    let here := (s.stampedAt occurred).localTime
    let h := s.time.hp
    h.state = .healthy → gapAtLeast 12500000 h.lastLocal here →
    s.time.selected = .hallPulse → s.time.selected = s.time.choice →
    s.time.clock = .acquiring ∨ s.time.clock = .locked → (s.time.clock = .locked → s.time.everLocked = true) →
    Completes (.pulseEdge s.time.config.edge occurred) s
      (Sampled .hallPulse (s.edgeOffset mt) mt []
        { s.time with
          hp := { h with lastMt := some mt, lastLocal := some here, deadline := some (here + 75000000) } } s)

/-- R3, R171, R172: a SYNC from the grandmaster port whose origin nanoseconds exceed 999,999,999, or whose sequence byte repeats
the last, is only posted as MESSAGE-ERROR; an accepted one of a source that is not selected is stamped, moves the
fault deadline of a HEALTHY source to 3 × T later, and counts for a FAULTED one when it is on time. A count that reaches Q
makes it HEALTHY: SOURCE-FAULT is posted with RECOVERED, selection is re-evaluated, and the SYNC is a sample where
GRANDMASTER is then selected. (The counts are those of log entry 19: a HEALTHY source keeps its own, and a count above a
lowered Q has reached it; when the SYNC began to arrive is log entry 7's operand, and the MT of a sample log entry 46's
reading.) -/
def Obligations.SyncUpdatesItsHealthRecord : Prop :=
  ∀ (port code station seq : Byte) (sec : BitVec 48) (ns : BitVec 32) (began : Option Stamp) (s : State),
    let c : Instr := .sync port code station seq sec ns began
    let h := s.time.gm
    let mt := (s.stampedAt began).mt
    let here := (s.stampedAt began).localTime
    let stamped : Health := { h with lastMt := some mt, lastLocal := some here }
    let t3 := 3 * (s.time.config.syncMs * 25000)
    s.fabric.up = true → port.toNat = s.time.config.gmPort.1 →
    (999999999 < ns.toNat → Completes c s fun t => SameBut allLinks s t ∧
      Hears [toAll (noticeMessageError port.toNat .range)] s.now s t) ∧
    (ns.toNat ≤ 999999999 → s.time.lastSeq = some seq → Completes c s fun t => SameBut allLinks s t ∧
      Hears [toAll (noticeMessageError port.toNat .repeated)] s.now s t) ∧
    (ns.toNat ≤ 999999999 → s.time.lastSeq ≠ some seq → s.time.selected ≠ .grandmaster →
      s.time.selected = s.time.choice →
      let onTime := ∃ x q, h.lastLocal = some x ∧ 2 * (here - x) ≤ t3 ∧ s.time.lastSeq = some q ∧ seq = q + 1
      (h.state = .healthy → Completes c s fun t => SameBut [.time] s t ∧
        t.time = { s.time with gm := { stamped with deadline := some (here + t3) }, lastSeq := some seq }) ∧
      (h.state = .faulted → ¬ onTime → Completes c s fun t => SameBut [.time] s t ∧
        t.time = { s.time with gm := { stamped with qual := 0 }, lastSeq := some seq }) ∧
      (h.state = .faulted → onTime → h.qual + 1 < s.time.config.q → Completes c s fun t => SameBut [.time] s t ∧
        t.time = { s.time with gm := { stamped with qual := h.qual + 1 }, lastSeq := some seq }) ∧
      (h.state = .faulted → onTime → s.time.config.q ≤ h.qual + 1 →
        let risen : Health := { stamped with state := .healthy, qual := h.qual + 1, deadline := some (here + t3) }
        Completes c s fun t => t.time.lastSeq = some seq ∧ t.time.gm = risen ∧
          (ClockInv s →
            Recovered .grandmaster (s.syncOffset sec ns mt) mt { s.time with gm := risen, lastSeq := some seq } s t)))

/-- The Time Unit after the health update of an accepted SYNC of a HEALTHY source with sequence byte `seq`, stamped `x` (R3,
R171). -/
def Sys2Proof.Machine.syncTaken (seq : Byte) (x : Stamp) (u : TimeUnit) : TimeUnit :=
  { u with
    gm := { u.gm with
      lastMt := some x.mt, lastLocal := some x.localTime, deadline := some (x.localTime + 3 * (u.config.syncMs * 25000)) }
    lastSeq := some seq }

/-- R3, R11, R13 to R18, R171: an accepted SYNC of a HEALTHY, selected GRANDMASTER in ACQUIRING or LOCKED is a sample. Within the
step threshold its offset disciplines MT at the sync interval; above it, with step lock ON, the clamped offset does; above
it, with step lock OFF, MT steps, every deadline of the other blocks moves by the applied step, and TIME-STEPPED is posted
(the sign of an applied step of 0 is a free value: log entry 16; when the SYNC began to arrive is log entry 7's operand, and
the MT of the sample log entry 46's reading). -/
def Obligations.SelectedSyncDisciplinesOrSteps : Prop :=
  ∀ (port code station seq : Byte) (sec : BitVec 48) (ns : BitVec 32) (began : Option Stamp) (s : State),
    let x := s.stampedAt began
    s.fabric.up = true → port.toNat = s.time.config.gmPort.1 → ns.toNat ≤ 999999999 →
    s.time.lastSeq ≠ some seq → s.time.gm.state = .healthy → s.time.selected = .grandmaster →
    s.time.selected = s.time.choice → s.time.clock = .acquiring ∨ s.time.clock = .locked →
    (s.time.clock = .locked → s.time.everLocked = true) →
    Completes (.sync port code station seq sec ns began) s
      (Sampled .grandmaster (s.syncOffset sec ns x.mt) x.mt [] (syncTaken seq x s.time) s)

/-- R4, R6, R8 to R10: the expiry of a fault deadline makes its HEALTHY source FAULTED, and selection is re-evaluated, with
the posts SOURCE-FAULT and TIME-SOURCE (the order of two TIME-SOURCE posts is a free value: log entry 17); the expiry of the
holdover deadline takes HOLDOVER to DEGRADED. Neither acts before its time. -/
def Obligations.TimeDeadlinesExpire : Prop :=
  ∀ s : State, ClockInv s →
    (∀ src : TimedSource,
      let c : Instr := .faultDeadlineExpiry src
      let h := s.time.health src
      let u := s.time.onHealth src fun h => { h with state := .faulted, qual := 0, sticky := true, deadline := none }
      (∀ d, h.deadline = some d → d ≤ s.time.clock25 →
        Completes c s fun t => SameBut ([.time] ++ allLinks) s t ∧
          t.time = u.reevaluated s.now s.time.clock25 ∧
          Hears ([toAll (noticeSourceFault src false)] ++ u.selectionHeard) s.now s t) ∧
      ((∀ d, h.deadline = some d → s.time.clock25 < d) → Completes c s fun t => t = s)) ∧
    (∀ d, s.time.holdoverDeadline = some d → d ≤ s.time.clock25 →
      Completes .holdoverDeadlineExpiry s fun t => SameBut ([.time] ++ allLinks) s t ∧
        t.time = { s.time with clock := .degraded, lockRun := 0, holdoverDeadline := none } ∧
        Hears [toAll (noticeTimeSource .localOsc 6)] s.now s t) ∧
    ((∀ d, s.time.holdoverDeadline = some d → s.time.clock25 < d) →
      Completes .holdoverDeadlineExpiry s fun t => t = s)

/-- A configuration within the ranges of R20. -/
def Sys2Proof.Machine.TimeConfigInRange (c : TimeConfig) : Prop :=
  c.first ≠ c.second ∧ c.first ≠ c.third ∧ c.second ≠ c.third ∧
  (c.syncMs = 125 ∨ c.syncMs = 250 ∨ c.syncMs = 500 ∨ c.syncMs = 1000) ∧
  c.pathDelay ≤ 10000000 ∧ c.pulseDelay ≤ 1000000 ∧ c.kp ≤ 7 ∧ c.ki ≤ 7 ∧
  10 ≤ c.stepUs ∧ c.stepUs ≤ 10000 ∧ 50 ≤ c.lockNs ∧ c.lockNs ≤ 100000 ∧ 1 ≤ c.q ∧ c.q ≤ 15 ∧
  10 ≤ c.holdoverS ∧ c.holdoverS ≤ 86400

/-- The Time Unit with GRANDMASTER FAULTED (R4). -/
def Sys2Proof.Machine.TimeUnit.gmFaults (u : TimeUnit) : TimeUnit :=
  { u with gm := { u.gm with state := .faulted, qual := 0, sticky := true, deadline := none } }

/-- SOURCE-FAULT of GRANDMASTER with FAULTED. -/
def Sys2Proof.Machine.gmFaultHeard : List Heard := [toAll (noticeSourceFault .grandmaster false)]

/-- R21, item 1: the grandmaster port of `u` is new, with what is heard of it. -/
def Sys2Proof.Machine.TimeUnit.portItem (u : TimeUnit) : TimeUnit × List Heard :=
  let v := { u with gm := { u.gm with lastMt := none, lastLocal := none, qual := 0 }, lastSeq := none }
  if u.gm.state = .healthy then (v.gmFaults, gmFaultHeard) else (v, [])

/-- R21, item 2: T of `u` is new, at local time `here`. -/
def Sys2Proof.Machine.TimeUnit.intervalItem (here : Nat) (u : TimeUnit) : TimeUnit × List Heard :=
  match u.gm.state, u.gm.lastLocal with
  | .healthy, some x =>
    let d := x + 3 * (u.config.syncMs * 25000)
    if d < here then (u.gmFaults, gmFaultHeard) else ({ u with gm := { u.gm with deadline := some d } }, [])
  | _, _ => (u, [])

/-- R21, item 3: the pulse edge of `u` is new. -/
def Sys2Proof.Machine.TimeUnit.edgeItem (u : TimeUnit) : TimeUnit × List Heard :=
  ({ u with hp := { u.hp with lastLocal := none, qual := if u.hp.state = .faulted then 0 else u.hp.qual } }, [])

/-- R21, item 4: the holdover limit of `u` is new, at local time `here`. -/
def Sys2Proof.Machine.TimeUnit.holdoverItem (here : Nat) (u : TimeUnit) : TimeUnit × List Heard :=
  match u.clock, u.holdoverLocal with
  | .holdover, some x =>
    let d := x + u.config.holdoverS * 25000000
    if d < here then
      ({ u with clock := .degraded, lockRun := 0, holdoverDeadline := none }, [toAll (noticeTimeSource .localOsc 6)])
    else ({ u with holdoverDeadline := some d }, [])
  | _, _ => (u, [])

/-- An item of R21 done after what came before it, where its field has changed. -/
def Sys2Proof.Machine.thenItem (changed : Prop) [Decidable changed] (item : TimeUnit → TimeUnit × List Heard)
    (x : TimeUnit × List Heard) : TimeUnit × List Heard :=
  if changed then ((item x.1).1, x.2 ++ (item x.1).2) else x

/-- Items 1 to 4 of R21, in that order, on the Time Unit `u` whose configuration becomes `c`, at local time `here`, with what
is heard of them. -/
def Sys2Proof.Machine.TimeUnit.reconfigured (c : TimeConfig) (here : Nat) (u : TimeUnit) : TimeUnit × List Heard :=
  thenItem (c.holdoverS ≠ u.config.holdoverS) (·.holdoverItem here) <|
    thenItem (c.edge ≠ u.config.edge) (·.edgeItem) <|
      thenItem (c.syncMs ≠ u.config.syncMs) (·.intervalItem here) <|
        thenItem (c.gmPort ≠ u.config.gmPort) (·.portItem) ({ u with config := c }, [])

/-- R20, R21: a TIME-CONFIG whose fields lie in their ranges replaces the configuration. Items 1 to 4 of R21 act in order on a
changed grandmaster port, T, pulse edge and holdover limit, then selection is re-evaluated, and the notices go in that order
(a deadline that item 2 or 4 sets has passed where it lies before the request: log entry 18; the order of two TIME-SOURCE
posts is a free value: log entry 17). Where none of these fields and no place of the priority list changes, nothing else
changes. A TIME-CONFIG whose bytes are not those of a configuration in range is answered with REFUSED-RANGE. -/
def Obligations.TimeConfigReplacesTheConfiguration : Prop :=
  ∀ (l : Link) (tag : Byte) (s : State),
    (∀ c : TimeConfig, TimeConfigInRange c →
      let r : Request := .timeConfig c.first.code c.second.code c.third.code (BitVec.ofNat 16 c.syncMs)
        (BitVec.ofNat 32 c.pathDelay) (BitVec.ofNat 32 c.pulseDelay) (BitVec.ofNat 8 c.kp) (BitVec.ofNat 8 c.ki)
        (BitVec.ofNat 16 c.stepUs) (BitVec.ofNat 32 c.lockNs) (BitVec.ofNat 8 c.q) (BitVec.ofNat 32 c.holdoverS)
        (BitVec.ofNat 8 c.gmPort.1) (edgeCode c.edge)
      let i : Instr := .timeConfig l tag c.first.code c.second.code c.third.code (BitVec.ofNat 16 c.syncMs)
        (BitVec.ofNat 32 c.pathDelay) (BitVec.ofNat 32 c.pulseDelay) (BitVec.ofNat 8 c.kp) (BitVec.ofNat 8 c.ki)
        (BitVec.ofNat 16 c.stepUs) (BitVec.ofNat 32 c.lockNs) (BitVec.ofNat 8 c.q) (BitVec.ofNat 32 c.holdoverS)
        (BitVec.ofNat 8 c.gmPort.1) (edgeCode c.edge)
      Taken l r s →
      Completes i s (fun t => SameBut ([.time] ++ allLinks) s t ∧ t.time.config = c ∧
        (t.link l).slot = .workingAnswered { code := 0x10, tag := tag, status := .done, body := [] }) ∧
      (ClockInv s → Completes i s fun t =>
        let x := s.time.reconfigured c s.time.clock25
        t.time = x.1.reevaluated s.now s.time.clock25 ∧
          Replied l tag r .done [] (x.2 ++ x.1.selectionHeard) s t) ∧
      (c.first = s.time.config.first → c.second = s.time.config.second → c.third = s.time.config.third →
        c.syncMs = s.time.config.syncMs → c.gmPort = s.time.config.gmPort → c.edge = s.time.config.edge →
        c.holdoverS = s.time.config.holdoverS → s.time.selected = s.time.choice →
        Completes i s fun t => t.time = { s.time with config := c } ∧ Replied l tag r .done [] [] s t)) ∧
    (∀ (a b z : Byte) (ms : BitVec 16) (pd ud : BitVec 32) (kp ki : Byte) (st : BitVec 16) (lk : BitVec 32) (q : Byte)
      (h : BitVec 32) (g e : Byte),
      Taken l (.timeConfig a b z ms pd ud kp ki st lk q h g e) s →
      (¬ ∃ c : TimeConfig, TimeConfigInRange c ∧ a = c.first.code ∧ b = c.second.code ∧ z = c.third.code ∧
        ms.toNat = c.syncMs ∧ pd.toNat = c.pathDelay ∧ ud.toNat = c.pulseDelay ∧ kp.toNat = c.kp ∧ ki.toNat = c.ki ∧
        st.toNat = c.stepUs ∧ lk.toNat = c.lockNs ∧ q.toNat = c.q ∧ h.toNat = c.holdoverS ∧
        g.toNat = c.gmPort.1 ∧ e = edgeCode c.edge) →
      OnlyReplies (.timeConfig l tag a b z ms pd ud kp ki st lk q h g e) l tag
        (.timeConfig a b z ms pd ud kp ki st lk q h g e) .refusedRange [] s)

/-- R22, R23: TIME-PULSE-SET arms or disarms the second, which the next HALL-PULSE sample consumes; TIME-STEP-LOCK sets step
lock, which a warm reset keeps and a power-on reset sets OFF; any other value is refused with REFUSED-RANGE. -/
def Obligations.PulseSetAndStepLockSetTheirFields : Prop :=
  (∀ (l : Link) (tag : Byte) (s : State), (s.link l).slot.working = false → l = .lc →
    (∀ (op : Byte) (x : BitVec 48), op = 0 ∨ op = 1 → Completes (.timePulseSet l tag op x) s fun t =>
      Replied l tag (.timePulseSet op x) .done [] [] s t ∧ SameBut [.time, .link l] s t ∧
      t.time = { s.time with armed := if op = 1 then some x else none }) ∧
    (∀ (op : Byte) (x : BitVec 48), op ≠ 0 → op ≠ 1 →
      OnlyReplies (.timePulseSet l tag op x) l tag (.timePulseSet op x) .refusedRange [] s) ∧
    (∀ v : Byte, v = 0 ∨ v = 1 → Completes (.timeStepLock l tag v) s fun t =>
      Replied l tag (.timeStepLock v) .done [] [] s t ∧ SameBut [.time, .link l] s t ∧
      t.time = { s.time with stepLock := decide (v = 1) }) ∧
    (∀ v : Byte, v ≠ 0 → v ≠ 1 → OnlyReplies (.timeStepLock l tag v) l tag (.timeStepLock v) .refusedRange [] s)) ∧
  ∀ s : State, (∀ mt, (samplePulse mt s).time.armed = none) ∧
    (Completes .warmReset s fun t => t.time.stepLock = s.time.stepLock) ∧
    Completes .powerOnReset s fun t => t.time.stepLock = false

/-- R24: TIME-FAULT-CLEAR clears the sticky flag of each named source that is HEALTHY, leaves that of a FAULTED one set as it
was, and answers with the flags of the three sources after it, one byte each (their form and order are log entry 38's). A set
that names no source, or holds a bit that stands for none, is refused with REFUSED-RANGE (the latter is log entry 34's
reading of R193). -/
def Obligations.FaultClearClearsHealthySources : Prop :=
  ∀ (l : Link) (tag v : Byte) (s : State), Taken l (.timeFaultClear v) s →
    (1 ≤ v.toNat → v.toNat ≤ 7 → Completes (.timeFaultClear l tag v) s fun t =>
      let gm := s.time.gm.sticky && !(v.getLsbD 0 && s.time.gm.state == .healthy)
      let hp := s.time.hp.sticky && !(v.getLsbD 1 && s.time.hp.state == .healthy)
      Replied l tag (.timeFaultClear v) .done [if gm then 1 else 0, if hp then 1 else 0, 0] [] s t ∧
      SameBut [.time, .link l] s t ∧
      t.time = { s.time with
        gm := { s.time.gm with sticky := gm }, hp := { s.time.hp with sticky := hp } }) ∧
    (v.toNat = 0 ∨ 7 < v.toNat →
      OnlyReplies (.timeFaultClear l tag v) l tag (.timeFaultClear v) .refusedRange [] s)

/-! ### Stations (chapter 2) -/

/-- R31, R32: the checks of STATION-SET in their order. One that passes configures the record: its state is HELD where the
port's link is up and ABSENT where it is down; a record that keeps its port keeps its state and sequence; a record that
is new or moved to an up port is sent an ORDER HOLD in UP. STATION-CHANGED is posted with CONFIGURED. A number, role or
port outside its range is refused first. (The state-change MT of a new or moved record: log entry 27. The station field of a
FREE stream that a move clears: log entry 40.) -/
def Obligations.StationSetConfigures : Prop :=
  ∀ (l : Link) (tag : Byte) (i : Fin 32) (r : Role) (p : Fin 24) (heads : Byte) (s : State),
    let q : Request := .stationSet (BitVec.ofNat 8 i.1) r.code (BitVec.ofNat 8 p.1) heads
    let c : Instr := .stationSet l tag (BitVec.ofNat 8 i.1) r.code (BitVec.ofNat 8 p.1) heads
    let old := s.stations.get i
    let up := (s.ports.get p).up
    let answer : Status :=
      if r = .filler ∧ ¬ (1 ≤ heads.toNat ∧ heads.toNat ≤ 16) ∨ r ≠ .filler ∧ heads ≠ 0 then .refusedRange
      else if s.stationState i = some .run ∨ s.stationState i = some .service then .refusedState
      else if r ≠ .camera ∧ old.conf.map (·.role) = some .camera ∧
        ∃ k, (s.points.get k).enabled = true ∧ (s.points.get k).camera = i then .refusedConflict
      else if ∃ j, j ≠ i ∧ s.stationPort j = some p then .refusedRange
      else if ∃ k, (s.grants.slots.get k).reserves p = true then .refusedConflict
      else .done
    Taken l q s →
    (∀ a b d : Byte, 32 ≤ a.toNat ∨ 3 ≤ b.toNat ∨ 24 ≤ d.toNat →
      OnlyReplies (.stationSet l tag a b d heads) l tag (.stationSet a b d heads) .refusedRange [] s) ∧
    (answer ≠ .done → OnlyReplies c l tag q answer [] s) ∧
    (answer = .done → Completes c s fun t =>
      Replied l tag q .done [] [byPort s (some p) (noticeConfigured i)] s t ∧ OthersSame i s.stations t.stations ∧
      (old.conf = none → SameBut ([.stations, .fabric] ++ allLinks) s t ∧
        t.stations.get i =
          { conf := some { role := r, port := p, heads := heads.toNat, state := if up then .held else .absent }
            orderSeq := if up then s.fabric.nextSeq 0 else 0
            lastChange := some s.now } ∧
        t.fabric = if up then s.fabric.ordered p i .hold 1 else s.fabric) ∧
      (∀ x, old.conf = some x → x.port = p → SameBut ([.stations] ++ allLinks) s t ∧
        t.stations.get i = { old with conf := some { x with role := r, heads := heads.toNat } }) ∧
      (∀ x, old.conf = some x → x.port ≠ p → SameBut ([.stations, .streams, .outputs, .fabric] ++ allLinks) s t ∧
        t.stations.get i =
          { conf := some { role := r, port := p, heads := heads.toNat, state := if up then .held else .absent }
            orderSeq := if up then s.fabric.nextSeq old.orderSeq else old.orderSeq
            lastChange := some s.now } ∧
        t.fabric = (if up then s.fabric.ordered p i .hold (old.orderSeq + 1) else s.fabric) ∧
        (∀ k, t.streams.get k = { s.streams.get k with
          station := if (s.streams.get k).station = some i ∧ (s.streams.get k).egress ≠ some p then none
            else (s.streams.get k).station }) ∧
        (∀ o, t.outputs.get o = { s.outputs.get o with
          needs := if x.state = .held ∧ up = false ∧ (s.outputs.get o).mode = .feed then
            (s.outputs.get o).needs.filter (· != i) else (s.outputs.get o).needs })))

/-- R33, R59, R142: STATION-REMOVE of an ABSENT or HELD station that no enabled point names as camera clears the record, the
station field of every stream that names it, FREE ones among them (log entry 40), and its need of every FEED output, and
posts STATION-CHANGED with REMOVED by the port it held; the others are refused. -/
def Obligations.StationRemoveClears : Prop :=
  ∀ (l : Link) (tag b : Byte) (s : State), Taken l (.stationRemove b) s →
    (32 ≤ b.toNat → OnlyReplies (.stationRemove l tag b) l tag (.stationRemove b) .refusedRange [] s) ∧
    ∀ i : Fin 32, b.toNat = i.1 →
      (s.stationState i ≠ some .absent → s.stationState i ≠ some .held →
        OnlyReplies (.stationRemove l tag b) l tag (.stationRemove b) .refusedState [] s) ∧
      (s.stationState i = some .absent ∨ s.stationState i = some .held →
        ((∃ k, (s.points.get k).enabled = true ∧ (s.points.get k).camera = i) →
          OnlyReplies (.stationRemove l tag b) l tag (.stationRemove b) .refusedConflict [] s) ∧
        ((∀ k, (s.points.get k).enabled = true → (s.points.get k).camera ≠ i) →
          Completes (.stationRemove l tag b) s fun t =>
            Replied l tag (.stationRemove b) .done [] [byPort s (s.stationPort i) (noticeRemoved i)] s t ∧
            SameBut ([.stations, .streams, .outputs] ++ allLinks) s t ∧ OthersSame i s.stations t.stations ∧
            t.stations.get i = { conf := none, orderSeq := 0, lastChange := some s.now } ∧
            (∀ k, t.streams.get k = { s.streams.get k with
              station := if (s.streams.get k).station = some i then none else (s.streams.get k).station }) ∧
            (∀ o, t.outputs.get o = { s.outputs.get o with
              needs := if (s.outputs.get o).mode = .feed then (s.outputs.get o).needs.filter (· != i)
                else (s.outputs.get o).needs })))

/-- R29, R30, R34, R35: STATION-RUN takes a HELD station to RUN, and STATION-HOLD a RUN station to HELD; the change is
posted by the station's port and, in UP, an ORDER goes to it with the next sequence. STATION-HOLD of a HELD or ABSENT
station is DONE without effect, and every other request is refused. -/
def Obligations.RunAndHoldOrderTheStation : Prop :=
  ∀ (l : Link) (tag b : Byte) (s : State), Taken l (.stationRun b) s →
    let moved := fun (c : Instr) (r : Request) (i : Fin 32) (x : StationConf) (st : StationState) (o : Order) =>
      Completes c s fun t =>
        Replied l tag r .done [] [byPort s (some x.port) (noticeStation i st)] s t ∧
        SameBut ([.stations, .fabric] ++ allLinks) s t ∧ OthersSame i s.stations t.stations ∧
        t.stations.get i =
          { conf := some { x with state := st }
            orderSeq := s.fabric.nextSeq (s.stations.get i).orderSeq
            lastChange := some s.now } ∧
        t.fabric = s.fabric.ordered x.port i o ((s.stations.get i).orderSeq + 1)
    (32 ≤ b.toNat →
      OnlyReplies (.stationRun l tag b) l tag (.stationRun b) .refusedRange [] s ∧
      OnlyReplies (.stationHold l tag b) l tag (.stationHold b) .refusedRange [] s) ∧
    ∀ i : Fin 32, b.toNat = i.1 →
      (∀ x, (s.stations.get i).conf = some x →
        (x.state = .held → moved (.stationRun l tag b) (.stationRun b) i x .run .run) ∧
        (x.state ≠ .held → OnlyReplies (.stationRun l tag b) l tag (.stationRun b) .refusedState [] s) ∧
        (x.state = .run → moved (.stationHold l tag b) (.stationHold b) i x .held .hold) ∧
        (x.state = .held ∨ x.state = .absent →
          OnlyReplies (.stationHold l tag b) l tag (.stationHold b) .done [] s) ∧
        (x.state = .service → OnlyReplies (.stationHold l tag b) l tag (.stationHold b) .refusedState [] s)) ∧
      ((s.stations.get i).conf = none →
        OnlyReplies (.stationRun l tag b) l tag (.stationRun b) .refusedState [] s ∧
        OnlyReplies (.stationHold l tag b) l tag (.stationHold b) .refusedState [] s)

/-! ### Streams (chapter 3) -/

/-- The fields that STREAM-OPEN and STREAM-ADJUST share lie in the ranges of R41. -/
def Sys2Proof.Machine.streamRanges (quota cap staleUs : Nat) (r : Recovery) : Prop :=
  1 ≤ quota ∧ quota ≤ 63 ∧ 1 ≤ cap ∧ cap ≤ 64 ∧ (staleUs = 0 ∨ 100 ≤ staleUs ∧ staleUs ≤ 100000) ∧
  (r = .shed ∨ ∃ m ∈ [1, 2, 4, 8, 16], r = .clean m)

/-- R46: the checks of STREAM-OPEN in their order, and the record it opens: the settings of the request, the link as owner,
credit 1, and every count and counter 0. -/
def Obligations.StreamOpenOpensTheRecord : Prop :=
  ∀ (l : Link) (tag : Byte) (s : State), (s.link l).slot.working = false →
    (∀ (i : Fin 128) (x : StreamSettings), streamRanges x.quota x.cap x.staleUs x.recovery →
      let q : Request := .streamOpen (BitVec.ofNat 8 i.1) x.cls.code (BitVec.ofNat 8 x.egress.1) (numberByte x.station)
        (BitVec.ofNat 8 x.queue.1) (BitVec.ofNat 8 x.quota) (BitVec.ofNat 8 x.cap) (BitVec.ofNat 32 x.staleUs)
        x.recovery.code (boolByte x.wireHold)
      let c : Instr := .streamOpen l tag (BitVec.ofNat 8 i.1) x.cls.code (BitVec.ofNat 8 x.egress.1)
        (numberByte x.station) (BitVec.ofNat 8 x.queue.1) (BitVec.ofNat 8 x.quota) (BitVec.ofNat 8 x.cap)
        (BitVec.ofNat 32 x.staleUs) x.recovery.code (boolByte x.wireHold)
      let answer : Status :=
        if x.staleUs ≠ 0 ∧ x.cls ≠ .cyclic then .refusedRange
        else if l = .sc ∧ (x.cls ≠ .service ∨ s.covered .configure x.egress = false) then .refusedRights
        else if ∃ k, x.station = some k ∧ s.stationPort k ≠ some x.egress then .refusedRange
        else if (s.streams.get i).state ≠ .free then .refusedState
        else .done
      (answer ≠ .done → OnlyReplies c l tag q answer [] s) ∧
      (answer = .done → Completes c s fun t =>
        Replied l tag q .done [] [] s t ∧ SameBut [.streams, .link l] s t ∧ OthersSame i s.streams t.streams ∧
        t.streams.get i =
          { state := .opened, owner := some l, cls := some x.cls, egress := some x.egress, station := x.station
            queue := x.queue, quota := x.quota, credit := 1, cap := x.cap, staleUs := x.staleUs
            recovery := x.recovery, level := 0, clean := 0, phase := 0, quiet := 0, wireHold := x.wireHold
            closeReason := none, released := 0, discards := Tbl.fill 13 0 })) ∧
    ∀ (a cls port station queue quota cap : Byte) (st : BitVec 32) (r w : Byte),
      128 ≤ a.toNat ∨ (¬ ∃ x : StreamSettings, streamRanges x.quota x.cap x.staleUs x.recovery ∧ cls = x.cls.code ∧
        port.toNat = x.egress.1 ∧ station = numberByte x.station ∧ queue.toNat = x.queue.1 ∧ quota.toNat = x.quota ∧
        cap.toNat = x.cap ∧ st.toNat = x.staleUs ∧ r = x.recovery.code ∧ w = boolByte x.wireHold) →
      OnlyReplies (.streamOpen l tag a cls port station queue quota cap st r w) l tag
        (.streamOpen a cls port station queue quota cap st r w) .refusedRange [] s

/-- R47 to R50, R55: the checks of STREAM-CLOSE, and the close. With flush, or on the SM link for another link's stream, every
PENDING descriptor is discarded with FLUSHED; the stream is FREE, and STREAM-DRAINED is posted, where it then holds no
descriptor, and DRAINING where it does. Without flush an OPEN stream drains, and a DRAINING one stays as it is. -/
def Obligations.StreamCloseFlushesOrDrains : Prop :=
  ∀ (l : Link) (tag a f : Byte) (s : State), (s.link l).slot.working = false →
    let q : Request := .streamClose a f
    let c : Instr := .streamClose l tag a f
    (128 ≤ a.toNat ∨ 2 ≤ f.toNat → OnlyReplies c l tag q .refusedRange [] s) ∧
    ∀ i : Fin 128, a.toNat = i.1 → f.toNat < 2 →
      let x := s.streams.get i
      let answer : Status :=
        if x.state = .free then .refusedState
        else if l = .lc ∧ x.owner ≠ some .lc then .refusedRights
        else if l = .sc ∧ (x.owner ≠ some .sc ∨ s.coveredAt .configure x.egress = false) then .refusedRights
        else .done
      let forced := x.owner ≠ some l
      let why := if x.state = .opened then some (if forced then CloseReason.forced else .closed) else x.closeReason
      (answer ≠ .done → OnlyReplies c l tag q answer [] s) ∧
      (answer = .done → forced ∨ f = 1 →
        let ds := s.pendingList i
        let left := without ds s.store
        Completes c s fun t =>
          Replied l tag q .done []
            (heardDiscards .flushed ds.length i s ++
              if left.all (·.stream != i) then [byPort s x.egress (noticeDrained i why)] else []) s t ∧
          SameBut ([.streams, .store, .storeDiscards, .fabric] ++ allLinks) s t ∧ Discarded .flushed ds s t ∧
          OthersSame i s.streams t.streams ∧
          t.streams.get i = { x with
            state := if left.all (·.stream != i) then .free else .draining
            closeReason := why
            discards := countedTimes .flushed ds.length x.discards }) ∧
      (answer = .done → ¬ forced → f = 0 → x.state = .opened → Completes c s fun t =>
        Replied l tag q .done []
          (if s.store.all (·.stream != i) then [byPort s x.egress (noticeDrained i why)] else []) s t ∧
        SameBut ([.streams] ++ allLinks) s t ∧ OthersSame i s.streams t.streams ∧
        t.streams.get i = { x with
          state := if s.store.all (·.stream != i) then .free else .draining
          closeReason := why }) ∧
      (answer = .done → ¬ forced → f = 0 → x.state = .draining → OnlyReplies c l tag q .done [] s)

/-- R52: the checks of STREAM-ADJUST, the values it gives the record, and the discard with CAP of the oldest PENDING
descriptors beyond a lowered cap. (The class a FREE record holds is read in check 1: log entry 28.) -/
def Obligations.StreamAdjustReplacesTheSettings : Prop :=
  ∀ (l : Link) (tag : Byte) (s : State), (s.link l).slot.working = false →
    (∀ (i : Fin 128) (y : StreamAdjustment), streamRanges y.quota y.cap y.staleUs y.recovery →
      let q : Request := .streamAdjust (BitVec.ofNat 8 i.1) (BitVec.ofNat 8 y.quota) (BitVec.ofNat 8 y.cap)
        (BitVec.ofNat 8 y.queue.1) y.recovery.code (BitVec.ofNat 32 y.staleUs)
      let c : Instr := .streamAdjust l tag (BitVec.ofNat 8 i.1) (BitVec.ofNat 8 y.quota) (BitVec.ofNat 8 y.cap)
        (BitVec.ofNat 8 y.queue.1) y.recovery.code (BitVec.ofNat 32 y.staleUs)
      let x := s.streams.get i
      let answer : Status :=
        if y.staleUs ≠ 0 ∧ x.cls ≠ some .cyclic then .refusedRange
        else if x.state ≠ .opened then .refusedState
        else if x.owner ≠ some l then .refusedRights
        else if l = .sc ∧ s.coveredAt .configure x.egress = false then .refusedRights
        else .done
      let ds := (s.pendingList i).take ((s.pendingList i).length - y.cap)
      let toShed := x.recovery ≠ .shed ∧ y.recovery = .shed
      (answer ≠ .done → OnlyReplies c l tag q answer [] s) ∧
      (answer = .done → Completes c s fun t =>
        Replied l tag q .done [] (heardDiscards .cap ds.length i s) s t ∧
        SameBut ([.streams, .store, .storeDiscards, .fabric] ++ allLinks) s t ∧ Discarded .cap ds s t ∧
        OthersSame i s.streams t.streams ∧
        t.streams.get i = { x with
          quota := y.quota, credit := min x.credit y.quota, cap := y.cap, queue := y.queue, staleUs := y.staleUs
          recovery := y.recovery
          level := if toShed then min x.level 1 else x.level
          quiet := if toShed then 0 else x.quiet
          clean := if y.recovery ≠ .shed ∧ y.recovery ≠ x.recovery then 0 else x.clean
          discards := countedTimes .cap ds.length x.discards })) ∧
    ∀ (a quota cap queue r : Byte) (st : BitVec 32),
      128 ≤ a.toNat ∨ (¬ ∃ y : StreamAdjustment, streamRanges y.quota y.cap y.staleUs y.recovery ∧
        quota.toNat = y.quota ∧ cap.toNat = y.cap ∧ queue.toNat = y.queue.1 ∧ st.toNat = y.staleUs ∧
        r = y.recovery.code) →
      OnlyReplies (.streamAdjust l tag a quota cap queue r st) l tag (.streamAdjust a quota cap queue r st)
        .refusedRange [] s

/-- R53 to R55: an ENQUEUE in UP is discarded with the reason of the first check of R53 that fails, taking no slot; one that
passes them all joins the store as PENDING with its staleness deadline, after the oldest PENDING descriptor of a CYCLIC
stream at its cap has been discarded with OVERTAKEN. -/
def Obligations.EnqueueIsCheckedThenStored : Prop :=
  ∀ (stream : Byte) (h n : BitVec 16) (s : State), s.fabric.up = true →
    let c : Instr := .enqueue stream h n
    let badLength := n.toNat < 64 ∨ 9216 < n.toNat
    let known := (∃ d ∈ s.store, d.handle = h) ∨ ∃ p, ∃ e ∈ (s.ports.get p).outstanding, e.handle = h
    (128 ≤ stream.toNat →
      let why : DiscardReason := if badLength then .length else if known then .duplicate else .noStream
      Completes c s fun t => SameBut ([.storeDiscards, .fabric] ++ allLinks) s t ∧
        t.fabric = s.fabric.queued (.discard h why) ∧ t.storeDiscards = countDiscard why s.storeDiscards ∧
        Hears [⟨noticeDiscards stream.toNat why, false⟩] s.now s t) ∧
    ∀ i : Fin 128, stream.toNat = i.1 →
      let x := s.streams.get i
      let reason : Option DiscardReason :=
        if badLength then some .length
        else if known then some .duplicate
        else if x.state = .free then some .noStream
        else if x.state = .draining then some .closing
        else if x.recovery = .shed ∧ x.level = 1 then some .shed
        else if x.cls = some .cyclic ∧ x.owner ≠ some .sc ∧ ∃ p, x.egress = some p ∧ s.inService p = true then
          some .held
        else if 512 ≤ s.store.length then some .storeFull
        else if x.cap ≤ (s.pendingList i).length ∧ x.cls ≠ some .cyclic then some .cap
        else none
      (∀ why, reason = some why → Completes c s fun t =>
        SameBut ([.streams, .storeDiscards, .fabric] ++ allLinks) s t ∧
        t.fabric = s.fabric.queued (.discard h why) ∧ t.storeDiscards = countDiscard why s.storeDiscards ∧
        OthersSame i s.streams t.streams ∧
        t.streams.get i = { x with discards := if x.state = .free then x.discards else countDiscard why x.discards } ∧
        Hears [byPort s (s.streamPort i) (noticeDiscards i.1 why)] s.now s t) ∧
      (reason = none →
        let ds := if x.cls = some .cyclic ∧ x.cap ≤ (s.pendingList i).length then (s.pendingList i).take 1 else []
        Completes c s fun t =>
          SameBut ([.streams, .store, .storeDiscards, .fabric] ++ allLinks) s t ∧
          t.store = without ds s.store ++
            [{ handle := h, stream := i, length := n.toNat, arrival := s.now
               staleAt := if x.cls = some .cyclic ∧ x.staleUs ≠ 0 then some (s.now + x.staleUs * 1000) else none
               state := .pending }] ∧
          t.fabric = s.fabric.discards .overtaken ds ∧
          t.storeDiscards = countedTimes .overtaken ds.length s.storeDiscards ∧
          OthersSame i s.streams t.streams ∧
          t.streams.get i = { x with discards := countedTimes .overtaken ds.length x.discards } ∧
          Hears (heardDiscards .overtaken ds.length i s) s.now s t)

/-- R56, R50: the expiry of a PENDING descriptor's staleness deadline discards it with STALE, and a DRAINING stream left with
no descriptor becomes FREE; nothing expires before its time, nor for a handle that no PENDING descriptor holds. -/
def Obligations.StalenessExpiryDiscards : Prop :=
  ∀ (h : BitVec 16) (s : State), HandleInv s →
    (∀ d ∈ s.store, d.handle = h → d.state = .pending → ∀ x, d.staleAt = some x → x ≤ s.now →
      let y := s.streams.get d.stream
      let freed := y.state = .draining ∧ (without [d] s.store).all (·.stream != d.stream) = true
      Completes (.stalenessDeadlineExpiry h) s fun t =>
        SameBut ([.streams, .store, .storeDiscards, .fabric] ++ allLinks) s t ∧ Discarded .stale [d] s t ∧
        OthersSame d.stream s.streams t.streams ∧
        t.streams.get d.stream = { y with
          state := if freed then .free else y.state
          discards := countDiscard .stale y.discards } ∧
        Hears (byPort s (s.streamPort d.stream) (noticeDiscards d.stream.1 .stale) ::
          if freed then [byPort s y.egress (noticeDrained d.stream y.closeReason)] else []) s.now s t) ∧
    ((∀ d ∈ s.store, d.handle = h → d.state = .pending → ∀ x, d.staleAt = some x → s.now < x) →
      Completes (.stalenessDeadlineExpiry h) s fun t => t = s)

/-! ### Pacing, congestion and release (chapter 4) -/

/-- R86, R88, R89: what QUEUE-SET, BACKOFF-MATCH and PORT-SET set, the next expiry of a queue by its enabled state, and the
values that each refuses with REFUSED-RANGE. -/
def Obligations.PacingRequestsSetTheirRecords : Prop :=
  ∀ (l : Link) (tag : Byte) (s : State), (s.link l).slot.working = false → l = .sm →
    (∀ (a e pa : Byte) (us : BitVec 32),
      (8 ≤ a.toNat ∨ 2 ≤ e.toNat ∨ 2 ≤ pa.toNat ∨ us.toNat < 20 ∨ 1000000 < us.toNat →
        OnlyReplies (.queueSet l tag a e us pa) l tag (.queueSet a e us pa) .refusedRange [] s) ∧
      (e.toNat < 2 → pa.toNat < 2 → 20 ≤ us.toNat → us.toNat ≤ 1000000 → ∀ q : Fin 8, a.toNat = q.1 →
        let x := s.queues.get q
        Completes (.queueSet l tag a e us pa) s fun t =>
          Replied l tag (.queueSet a e us pa) .done [] [] s t ∧ SameBut [.queues, .link l] s t ∧
          OthersSame q s.queues t.queues ∧
          t.queues.get q = { x with
            enabled := decide (e = 1), periodUs := us.toNat, pauseAware := decide (pa = 1)
            nextExpiry := if e = 0 then none
              else if x.enabled = true then x.nextExpiry else some (s.time.clock25 + us.toNat * 25) })) ∧
    (∀ mask compare : Byte,
      (compare &&& ~~~ mask ≠ 0 →
        OnlyReplies (.backoffMatch l tag mask compare) l tag (.backoffMatch mask compare) .refusedRange [] s) ∧
      (compare &&& ~~~ mask = 0 → Completes (.backoffMatch l tag mask compare) s fun t =>
        Replied l tag (.backoffMatch mask compare) .done (be 4 s.backoff.matched ++ be 4 s.backoff.unmatched) [] s t ∧
        SameBut [.backoff, .link l] s t ∧ t.backoff = { s.backoff with mask := mask, compare := compare })) ∧
    ∀ a n : Byte,
      (24 ≤ a.toNat ∨ 16 ≤ n.toNat → OnlyReplies (.portSet l tag a n) l tag (.portSet a n) .refusedRange [] s) ∧
      (n.toNat < 16 → ∀ p : Fin 24, a.toNat = p.1 → Completes (.portSet l tag a n) s fun t =>
        Replied l tag (.portSet a n) .done [] [] s t ∧ SameBut [.ports, .link l] s t ∧
        OthersSame p s.ports t.ports ∧
        t.ports.get p = { s.ports.get p with share := n.toNat, cyclicRun := 0 })

/-- R66, R67, R74: an enabled queue whose next expiry local time has reached expires: its counter counts, wrapping, its next
expiry keeps the grid, and every linked stream takes its accrual, by the level it held, and then its quiet count (the
accrual before a recovery of the same expiry is log entry 32's reading). Otherwise nothing changes. -/
def Obligations.QueueExpiryAccrues : Prop :=
  ∀ (q : Fin 8) (s : State),
    let x := s.queues.get q
    (∀ e, x.enabled = true → x.nextExpiry = some e → e ≤ s.time.clock25 →
      Completes (.pacingQueueExpiry q) s fun t =>
        SameBut [.queues, .streams] s t ∧ OthersSame q s.queues t.queues ∧
        t.queues.get q = { x with
          expiries := (x.expiries + 1) % 2 ^ 32, nextExpiry := some (e + x.periodUs * 25) } ∧
        ∀ i,
          let y := s.streams.get i
          let frozen := x.pauseAware = true ∧ ∃ p, y.egress = some p ∧ (s.ports.get p).paused = true
          let phase := (y.phase + 1) % 16
          let sheds := y.recovery = .shed ∧ y.level = 1
          t.streams.get i =
            if y.state ≠ .free ∧ y.queue = q then { y with
              phase := if frozen then y.phase else phase
              credit := if ¬ frozen ∧ 2 ^ y.level ∣ phase then min (y.credit + 1) y.quota else y.credit
              quiet := if sheds then min (y.quiet + 1) 16 else y.quiet
              level := if sheds ∧ 16 ≤ y.quiet + 1 then 0 else y.level }
            else y) ∧
    ((∀ e, x.enabled = true → x.nextExpiry = some e → s.time.clock25 < e) →
      Completes (.pacingQueueExpiry q) s fun t => t = s)

/-- Stream `i` is eligible at port `p` (R77, R42). -/
def Sys2Proof.Machine.eligibleAt (s : State) (p : Fin 24) (i : Fin 128) : Prop :=
  let x := s.streams.get i
  x.state ≠ .free ∧ x.egress = some p ∧ 1 ≤ x.credit ∧ s.pendingList i ≠ [] ∧
    ¬ (x.cls ≠ some .time ∧ x.owner ≠ some .sc ∧ s.inService p = true)

/-- Stream `i` is eligible at port `p` in tier `t` (R79). -/
def Sys2Proof.Machine.eligibleInTier (s : State) (p : Fin 24) (t : Tier) (i : Fin 128) : Prop :=
  eligibleAt s p i ∧
  match t with
  | .time => (s.streams.get i).cls = some .time
  | .cyclic => (s.streams.get i).cls = some .cyclic
  | .bulk => (s.streams.get i).cls = some .bulk ∨ (s.streams.get i).cls = some .service

/-- Row by row, the table of R79: tier `t` is chosen and the count after the release is `n`. -/
def Sys2Proof.Machine.chosenTier (s : State) (p : Fin 24) (t : Tier) (n : Nat) : Prop :=
  let x := s.ports.get p
  let some' := fun t => ∃ i, eligibleInTier s p t i
  let row1 := 0 < x.share ∧ x.cyclicRun = x.share ∧ some' .bulk
  (row1 → t = .bulk ∧ n = 0) ∧
  (¬ row1 → some' .time → t = .time ∧ n = x.cyclicRun) ∧
  (¬ row1 → ¬ some' .time → some' .cyclic → t = .cyclic ∧
    (some' .bulk ∧ 0 < x.share → n = x.cyclicRun + 1) ∧ (¬ (some' .bulk ∧ 0 < x.share) → n = x.cyclicRun)) ∧
  (¬ row1 → ¬ some' .time → ¬ some' .cyclic → t = .bulk ∧ n = 0)

/-- Stream `i` is the one that the round robin of R80 serves in tier `t`. -/
def Sys2Proof.Machine.servedNext (s : State) (p : Fin 24) (t : Tier) (i : Fin 128) : Prop :=
  let above := fun j => ∃ k, (s.ports.get p).pointer t = some k ∧ k < j
  eligibleInTier s p t i ∧
  ((∃ j, eligibleInTier s p t j ∧ above j) → above i ∧ ∀ j, eligibleInTier s p t j → above j → i ≤ j) ∧
  ((∀ j, eligibleInTier s p t j → ¬ above j) → ∀ j, eligibleInTier s p t j → i ≤ j)

/-- R77 to R81, R60, R73: where the release conditions hold, the stream that R79 and R80 choose releases its oldest PENDING
descriptor: credit, counters, clean count and level, the store, the outstanding list with its deadline 20 ms on, the
pointer and the RELEASE message are as R81 gives; where they do not hold, nothing changes. (log entry 6) -/
def Obligations.ReleaseServesTheChosenStream : Prop :=
  ∀ (p : Fin 24) (s : State),
    let x := s.ports.get p
    (x.up = true → x.paused = false → x.outstanding.length < 2 → (∃ i, eligibleAt s p i ∧ (s.streams.get i).cls ≠ none) →
      ∃ (tier : Tier) (n : Nat) (i : Fin 128) (d : Descriptor) (rest : List Descriptor),
        chosenTier s p tier n ∧ servedNext s p tier i ∧ s.pendingList i = d :: rest ∧
        (let y := s.streams.get i
         let store := if y.wireHold = true then
             s.store.map fun c => if c.handle = d.handle then { c with state := .wireHeld, staleAt := none } else c
           else s.store.filter (·.handle != d.handle)
         let freed := y.state = .draining ∧ store.all (·.stream != i) = true
         let numbered := y.recovery ≠ .shed ∧ y.level ≠ 0
         let full := y.recovery = .clean (y.clean + 1)
         Completes (.release p) s fun t =>
           SameBut ([.ports, .streams, .store, .fabric] ++ allLinks) s t ∧ t.store = store ∧
           OthersSame p s.ports t.ports ∧ OthersSame i s.streams t.streams ∧
           t.streams.get i = { y with
             state := if freed then .free else y.state
             credit := y.credit - 1
             released := satInc y.released
             level := if numbered ∧ full then y.level - 1 else y.level
             clean := if numbered then (if full then 0 else y.clean + 1) else y.clean } ∧
           t.fabric = s.fabric.queued (.release d.handle p) ∧
           t.ports.get p = { x with
             outstanding := x.outstanding ++
               [{ handle := d.handle, stream := i, releaseMt := s.now, overdue := s.now + 20000000 }]
             cyclicRun := n
             released := satInc x.released
             ptrTime := if tier = .time then some i else x.ptrTime
             ptrCyclic := if tier = .cyclic then some i else x.ptrCyclic
             ptrBulk := if tier = .bulk then some i else x.ptrBulk } ∧
           Hears (if freed then [byPort s y.egress (noticeDrained i y.closeReason)] else []) s.now s t)) ∧
    (x.up = false ∨ x.paused = true ∨ 2 ≤ x.outstanding.length ∨ (∀ i, ¬ eligibleAt s p i) →
      Completes (.release p) s fun t => t = s)

/-- What the Stream Table does when handle `h` of stream `i` leaves the outstanding lists (R60): a WIRE-HELD descriptor that
holds it frees its slot, and a DRAINING stream left with no descriptor is FREE. -/
def Sys2Proof.Machine.settledStore (h : BitVec 16) (store : List Descriptor) : List Descriptor :=
  store.filter fun d => !(d.handle == h && d.state == .wireHeld)

/-- Stream `i` becomes FREE as handle `h` is settled (R50, R60). -/
def Sys2Proof.Machine.freedBySettling (s : State) (h : BitVec 16) (i : Fin 128) : Prop :=
  (s.streams.get i).state = .draining ∧ (∃ d ∈ s.store, d.handle = h ∧ d.state = .wireHeld) ∧
    (settledStore h s.store).all (·.stream != i) = true

/-- R83 to R85, R60, R55: a SENT in UP takes its handle from the outstanding list it stands in, counts, records the wire MT and
tells the Stream Table; one whose handle is not outstanding is only posted as MESSAGE-ERROR with HANDLE. An outstanding
handle whose SENT-overdue deadline MT has reached is written off: it leaves its list, the Stream Table is told, and
SENT-LOST is counted and posted without a DISCARD; before its time nothing changes. (The Stream Table is told before the
loss is charged: log entry 32.) -/
def Obligations.OutstandingHandlesAreSettled : Prop :=
  (∀ (h : BitVec 16) (sec : BitVec 48) (ns : BitVec 32) (s : State), HandleInv s → s.fabric.up = true →
    ns.toNat ≤ 999999999 →
    ((∀ p, ∀ e ∈ (s.ports.get p).outstanding, e.handle ≠ h) → Completes (.sent h sec ns) s fun t =>
      SameBut allLinks s t ∧ Hears [toAll (noticeMessageError h.toNat .handle)] s.now s t) ∧
    ∀ p, ∀ e ∈ (s.ports.get p).outstanding, e.handle = h → Completes (.sent h sec ns) s fun t =>
      let x := s.ports.get p
      let y := s.streams.get e.stream
      let freed := freedBySettling s h e.stream
      SameBut ([.ports, .streams, .store] ++ allLinks) s t ∧ OthersSame p s.ports t.ports ∧
      t.ports.get p = { x with
        outstanding := x.outstanding.filter (·.handle != h), sent := satInc x.sent
        lastWire := some (sec.toNat * 1000000000 + ns.toNat : Nat) } ∧
      t.store = settledStore h s.store ∧ OthersSame e.stream s.streams t.streams ∧
      (freed → t.streams.get e.stream = { y with state := .free } ∧
        Hears [byPort s y.egress (noticeDrained e.stream y.closeReason)] s.now s t) ∧
      (¬ freed → t.streams.get e.stream = y ∧ Hears [] s.now s t)) ∧
  ∀ (h : BitVec 16) (s : State), HandleInv s →
    (∀ p, ∀ e ∈ (s.ports.get p).outstanding, e.handle = h → e.overdue ≤ s.now →
      Completes (.sentOverdueExpiry h) s fun t =>
        let x := s.ports.get p
        let y := s.streams.get e.stream
        let freed := freedBySettling s h e.stream
        SameBut ([.ports, .streams, .store, .storeDiscards] ++ allLinks) s t ∧ OthersSame p s.ports t.ports ∧
        t.ports.get p = { x with
          outstanding := x.outstanding.filter (·.handle != h), writeOffs := satInc x.writeOffs } ∧
        t.store = settledStore h s.store ∧ t.storeDiscards = countDiscard .sentLost s.storeDiscards ∧
        OthersSame e.stream s.streams t.streams ∧
        (freed → t.streams.get e.stream = { y with state := .free } ∧
          Hears [byPort s y.egress (noticeDrained e.stream y.closeReason),
            ⟨noticeDiscards e.stream.1 .sentLost, false⟩] s.now s t) ∧
        (¬ freed → t.streams.get e.stream = { y with
            discards := if y.state = .free then y.discards else countDiscard .sentLost y.discards } ∧
          Hears [byPort s (s.streamPort e.stream) (noticeDiscards e.stream.1 .sentLost)] s.now s t)) ∧
    ((∀ p, ∀ e ∈ (s.ports.get p).outstanding, e.handle = h → s.now < e.overdue) →
      Completes (.sentOverdueExpiry h) s fun t => t = s)

/-! ### Several streams at once (R57, R58, R69 to R72) -/

/-- The store after every PENDING descriptor of the streams of `sel` has been discarded. -/
def Sys2Proof.Machine.emptiedStore (sel : Fin 128 → Bool) (s : State) : List Descriptor :=
  s.store.filter fun d => !(sel d.stream && d.state == .pending)

/-- The Fabric Port `f` handed a DISCARD for each, streams in ascending number and each list oldest first (R44). -/
def Sys2Proof.Machine.emptiedFrom (why : DiscardReason) (sel : Fin 128 → Bool) (s : State) (f : Fabric) : Fabric :=
  (numbers 128).foldl (fun f i => if sel i then f.discards why (s.pendingList i) else f) f

/-- The Fabric Port after them. -/
def Sys2Proof.Machine.emptiedFabric (why : DiscardReason) (sel : Fin 128 → Bool) (s : State) : Fabric :=
  emptiedFrom why sel s s.fabric

/-- The store-wide counters after them. -/
def Sys2Proof.Machine.emptiedCounts (why : DiscardReason) (sel : Fin 128 → Bool) (s : State) : Tbl Nat 13 :=
  countedTimes why (s.store.filter fun d => sel d.stream && d.state == .pending).length s.storeDiscards

/-- The stream, DRAINING, is left with no descriptor (R50). -/
def Sys2Proof.Machine.freedByEmptying (sel : Fin 128 → Bool) (s : State) (i : Fin 128) : Bool :=
  sel i && (s.streams.get i).state == .draining && (emptiedStore sel s).all (·.stream != i)

/-- The record of stream `i` after its list has been emptied. -/
def Sys2Proof.Machine.emptiedStream (why : DiscardReason) (sel : Fin 128 → Bool) (s : State) (i : Fin 128) : Stream :=
  let x := s.streams.get i
  if sel i then { x with
    state := if freedByEmptying sel s i then .free else x.state
    discards := countedTimes why (s.pendingList i).length x.discards }
  else x

/-- The notices of the emptied streams, with `more i` posted between the discards of stream `i` and its STREAM-DRAINED. -/
def Sys2Proof.Machine.heardEmptying (why : DiscardReason) (sel : Fin 128 → Bool) (more : Fin 128 → List Heard) (s : State) :
    List Heard :=
  (numbers 128).flatMap fun i =>
    (if sel i then heardDiscards why (s.pendingList i).length i s else []) ++ more i ++
      (if freedByEmptying sel s i then
        [byPort s (s.streams.get i).egress (noticeDrained i (s.streams.get i).closeReason)]
      else [])

/-- The streams of `sel` have taken a congestion notice (R71, R72). -/
def Sys2Proof.Machine.Congested (fromBackoff : Bool) (sel : Fin 128 → Bool) (s t : State) : Prop :=
  let sheds := fun i => sel i && (s.streams.get i).recovery == .shed
  let told := fun i => if sel i && (s.streams.get i).level == 0 then
    [byPort s (s.streamPort i) (noticeCongested i fromBackoff)] else []
  t.store = emptiedStore sheds s ∧ t.fabric = emptiedFabric .shed sheds s ∧
  t.storeDiscards = emptiedCounts .shed sheds s ∧
  (∀ i, t.streams.get i =
    let x := emptiedStream .shed sheds s i
    if sheds i then { x with level := 1, quiet := 0 }
    else if sel i then { x with level := min (x.level + 1) 4, clean := 0 }
    else x) ∧
  Hears (heardEmptying .shed sheds told s) s.now s t

/-- R70 to R72: a BACKOFF in UP from the station of its port matches by its code byte under mask and compare value. A match
counts, and every OPEN or DRAINING stream on the port whose class is in the class set takes a congestion notice; a
mismatch only counts. -/
def Obligations.BackoffCongestsMatchedStreams : Prop :=
  ∀ (b code classes : Byte) (began : Option Stamp) (p : Fin 24) (k : Fin 32) (station : Byte) (s : State), HandleInv s →
    s.fabric.up = true → b.toNat = p.1 → s.stationOn p = some k → station.toNat = k.1 →
    let inSet := fun c : StreamClass => match c with
      | .time => classes.getLsbD 0
      | .cyclic => classes.getLsbD 1
      | .bulk => classes.getLsbD 2
      | .service => classes.getLsbD 3
    let sel := fun i =>
      let x := s.streams.get i
      x.state != .free && x.egress == some p && x.cls.any inSet
    (code &&& s.backoff.mask = s.backoff.compare → Completes (.backoff b code station classes began) s fun t =>
      SameBut ([.backoff, .streams, .store, .storeDiscards, .fabric] ++ allLinks) s t ∧
      t.backoff = { s.backoff with matched := satInc s.backoff.matched } ∧ Congested true sel s t) ∧
    (code &&& s.backoff.mask ≠ s.backoff.compare → Completes (.backoff b code station classes began) s fun t =>
      SameBut [.backoff] s t ∧ t.backoff = { s.backoff with unmatched := satInc s.backoff.unmatched })

/-- R76, R69: a PORT-STATE in UP acts on each field that differs, the link first and the watermark last: it leaves the part
as three PORT-STATEs that change one field each. One that changes nothing has no effect; a change of pause, or of the
watermark to low, only records it; a rise of the watermark is a congestion notice to every BULK stream of the port. -/
def Obligations.PortStateActsFieldByField : Prop :=
  ∀ (p : Fin 24) (up paused high : Bool) (s : State), s.fabric.up = true →
    let msg := fun (u z w : Bool) => Instr.portState (BitVec.ofNat 8 p.1) (boolByte u) (boolByte z) (boolByte w)
    let x := s.ports.get p
    (∃ u v t, exec (msg up x.paused x.high) s = .next u ∧ exec (msg up paused x.high) u = .next v ∧
      exec (msg up paused high) v = .next t ∧ exec (msg up paused high) s = .next t) ∧
    (Completes (msg x.up x.paused x.high) s fun t => t = s) ∧
    (Completes (msg x.up paused x.high) s fun t => SameBut [.ports] s t ∧ OthersSame p s.ports t.ports ∧
      t.ports.get p = { x with paused := paused }) ∧
    (Completes (msg x.up x.paused false) s fun t => SameBut [.ports] s t ∧ OthersSame p s.ports t.ports ∧
      t.ports.get p = { x with high := false }) ∧
    (x.high = false → HandleInv s → Completes (msg x.up x.paused true) s fun t =>
      SameBut ([.ports, .streams, .store, .storeDiscards, .fabric] ++ allLinks) s t ∧
      OthersSame p s.ports t.ports ∧ t.ports.get p = { x with high := true } ∧
      Congested false (fun i => (s.streams.get i).state != .free && (s.streams.get i).cls == some .bulk &&
        (s.streams.get i).egress == some p) s t)

/-- R76, R36, R57, R29, R142: a PORT-STATE in UP that takes the port's link down posts PORT-LINK, takes the port's station
to ABSENT and out of every need set, and discards with LINK-DOWN every PENDING descriptor of every stream on the port.
The outstanding list is kept. -/
def Obligations.PortLinkDownEmptiesItsStreams : Prop :=
  ∀ (p : Fin 24) (s : State), HandleInv s → s.fabric.up = true → (s.ports.get p).up = true →
    let x := s.ports.get p
    let sel := fun i => (s.streams.get i).egress == some p
    let leaves := fun i => s.stationOn p = some i ∧ s.stationState i ≠ some .absent
    Completes (.portState (BitVec.ofNat 8 p.1) 0 (boolByte x.paused) (boolByte x.high)) s fun t =>
      SameBut ([.ports, .stations, .outputs, .streams, .store, .storeDiscards, .fabric] ++ allLinks) s t ∧
      OthersSame p s.ports t.ports ∧ t.ports.get p = { x with up := false } ∧
      t.store = emptiedStore sel s ∧ t.fabric = emptiedFabric .linkDown sel s ∧
      t.storeDiscards = emptiedCounts .linkDown sel s ∧
      (∀ i, t.streams.get i = emptiedStream .linkDown sel s i) ∧
      (∀ i, t.stations.get i = { s.stations.get i with
        conf := if leaves i then (s.stations.get i).conf.map ({ · with state := .absent }) else (s.stations.get i).conf
        lastChange := if leaves i then some s.now else (s.stations.get i).lastChange }) ∧
      (∀ o, t.outputs.get o = { s.outputs.get o with
        needs := if (s.outputs.get o).mode = .feed then
            (s.outputs.get o).needs.filter fun i => decide (¬ leaves i)
          else (s.outputs.get o).needs }) ∧
      Hears (byPort s (some p) (noticePortLink p false) ::
        ((numbers 32).filter (fun i => decide (leaves i))).map (fun i => byPort s (some p) (noticeStation i .absent)) ++
        heardEmptying .linkDown sel (fun _ => []) s) s.now s t

/-- R76, R36, R58, R30: a PORT-STATE in UP that brings the port's link up posts PORT-LINK and takes its ABSENT station to
SERVICE where the port is covered at INTERVENE, and to HELD where it is not, with an ORDER; an entry into SERVICE discards
with HELD every PENDING descriptor of the CYCLIC streams on the port that the SC link does not own. -/
def Obligations.PortLinkUpBringsItsStation : Prop :=
  ∀ (p : Fin 24) (s : State), HandleInv s → s.fabric.up = true → (s.ports.get p).up = false →
    let x := s.ports.get p
    let c : Instr := .portState (BitVec.ofNat 8 p.1) 1 (boolByte x.paused) (boolByte x.high)
    let st : StationState := if s.covered .intervene p = true then .service else .held
    let o : Order := if s.covered .intervene p = true then .service else .hold
    let sel := fun i => s.covered .intervene p && (s.streams.get i).egress == some p &&
      (s.streams.get i).cls == some .cyclic && (s.streams.get i).owner != some .sc
    (∀ i y, s.stationOn p = some i → (s.stations.get i).conf = some y → y.state = .absent → Completes c s fun t =>
      let u := { s with fabric := s.fabric.queued (.cellOut p i o ((s.stations.get i).orderSeq + 1)) }
      SameBut ([.ports, .stations, .streams, .store, .storeDiscards, .fabric] ++ allLinks) s t ∧
      OthersSame p s.ports t.ports ∧ t.ports.get p = { x with up := true } ∧
      OthersSame i s.stations t.stations ∧
      t.stations.get i =
        { conf := some { y with state := st }, orderSeq := (s.stations.get i).orderSeq + 1, lastChange := some s.now } ∧
      t.store = emptiedStore sel s ∧ t.fabric = emptiedFabric .held sel u ∧
      t.storeDiscards = emptiedCounts .held sel s ∧ (∀ k, t.streams.get k = emptiedStream .held sel s k) ∧
      Hears ([byPort s (some p) (noticePortLink p true), byPort s (some p) (noticeStation i st)] ++
        heardEmptying .held sel (fun _ => []) s) s.now s t) ∧
    ((∀ i, s.stationOn p = some i → s.stationState i ≠ some .absent) → Completes c s fun t =>
      SameBut ([.ports] ++ allLinks) s t ∧ OthersSame p s.ports t.ports ∧ t.ports.get p = { x with up := true } ∧
      Hears [byPort s (some p) (noticePortLink p true)] s.now s t)

/-! ### The bottle track and the verdicts (chapters 5 and 6) -/

/-- R111, R112, R113: the checks of POINT-SET and GATE-SET in their order, with the record replaced whole where they pass; and
the counters that a TRACK-REPORT with zero YES reports and then zeroes, on the LC link alone. -/
def Obligations.TrackRequestsSetTheirRecords : Prop :=
  ∀ (l : Link) (tag : Byte) (s : State), (s.link l).slot.working = false →
    (∀ (k : Fin 4) (y : Point), l = .lc → 1 ≤ y.travelUs → y.travelUs ≤ 60000000 → 10 ≤ y.halfWindowUs →
      y.halfWindowUs ≤ 100000 → 1000 ≤ y.allowanceUs → y.allowanceUs ≤ 10000000 →
      let q : Request := .pointSet (BitVec.ofNat 8 k.1) (boolByte y.enabled) (boolByte y.required)
        (BitVec.ofNat 8 y.camera.1) (numberByte y.output) (BitVec.ofNat 32 y.travelUs) (BitVec.ofNat 32 y.halfWindowUs)
        (BitVec.ofNat 32 y.allowanceUs)
      let c : Instr := .pointSet l tag (BitVec.ofNat 8 k.1) (boolByte y.enabled) (boolByte y.required)
        (BitVec.ofNat 8 y.camera.1) (numberByte y.output) (BitVec.ofNat 32 y.travelUs) (BitVec.ofNat 32 y.halfWindowUs)
        (BitVec.ofNat 32 y.allowanceUs)
      let answer : Status :=
        if s.track.records ≠ [] then .refusedState
        else if y.enabled = false then .done
        else if (s.stations.get y.camera).conf.map (·.role) ≠ some .camera then .refusedRange
        else if ∃ j, j ≠ k ∧ (s.points.get j).enabled = true ∧ ((s.points.get j).camera = y.camera ∨
          y.output ≠ none ∧ (s.points.get j).output = y.output) then .refusedConflict
        else if ∃ o, y.output = some o ∧ (s.outputs.get o).mode ≠ .trigger then .refusedConflict
        else if s.gate.delayUs ≤ y.travelUs + y.allowanceUs then .refusedRange
        else .done
      (answer ≠ .done → OnlyReplies c l tag q answer [] s) ∧
      (answer = .done → Completes c s fun t => Replied l tag q .done [] [] s t ∧ SameBut [.points, .link l] s t ∧
        OthersSame k s.points t.points ∧ t.points.get k = y)) ∧
    (∀ (a e r m o : Byte) (tr h v : BitVec 32), l = .lc →
      4 ≤ a.toNat ∨ 2 ≤ e.toNat ∨ 2 ≤ r.toNat ∨ 32 ≤ m.toNat ∨ 8 ≤ o.toNat ∧ o ≠ 0xFF ∨ tr = 0 ∨ 60000000 < tr.toNat ∨
        h.toNat < 10 ∨ 100000 < h.toNat ∨ v.toNat < 1000 ∨ 10000000 < v.toNat →
      OnlyReplies (.pointSet l tag a e r m o tr h v) l tag (.pointSet a e r m o tr h v) .refusedRange [] s) ∧
    (∀ y : Gate, l = .lc → 1 ≤ y.delayUs → y.delayUs ≤ 60000000 → 100 ≤ y.halfWindowUs → y.halfWindowUs ≤ 1000000 →
      1 ≤ y.widthUs → y.widthUs ≤ 100000 →
      let q : Request := .gateSet (numberByte y.output) (BitVec.ofNat 32 y.delayUs) (BitVec.ofNat 32 y.halfWindowUs)
        (BitVec.ofNat 32 y.widthUs)
      let c : Instr := .gateSet l tag (numberByte y.output) (BitVec.ofNat 32 y.delayUs) (BitVec.ofNat 32 y.halfWindowUs)
        (BitVec.ofNat 32 y.widthUs)
      let answer : Status :=
        if s.track.records ≠ [] ∨ s.track.windowEnd ≠ none then .refusedState
        else if ∃ o, y.output = some o ∧ (s.outputs.get o).mode ≠ .gate then .refusedConflict
        else if ∃ j, (s.points.get j).enabled = true ∧
          y.delayUs ≤ (s.points.get j).travelUs + (s.points.get j).allowanceUs then .refusedRange
        else .done
      (answer ≠ .done → OnlyReplies c l tag q answer [] s) ∧
      (answer = .done → Completes c s fun t => Replied l tag q .done [] [] s t ∧ SameBut [.gate, .link l] s t ∧
        t.gate = y)) ∧
    (∀ (o : Byte) (d h w : BitVec 32), l = .lc →
      8 ≤ o.toNat ∧ o ≠ 0xFF ∨ d = 0 ∨ 60000000 < d.toNat ∨ h.toNat < 100 ∨ 1000000 < h.toNat ∨ w = 0 ∨
        100000 < w.toNat →
      OnlyReplies (.gateSet l tag o d h w) l tag (.gateSet o d h w) .refusedRange [] s) ∧
    (l = .lc → Completes (.trackReport l tag 1) s fun t =>
      Replied l tag (.trackReport 1) .done (trackReport s) [] s t ∧ SameBut [.track, .link l] s t ∧
      t.track = { s.track with counts := Tbl.fill 7 0, future := 0, escaped := 0, full := 0, lateFill := 0 }) ∧
    (l ≠ .lc → OnlyReplies (.trackReport l tag 1) l tag (.trackReport 1) .refusedRights [] s) ∧
    ∀ z : Byte, 2 ≤ z.toNat → OnlyReplies (.trackReport l tag z) l tag (.trackReport z) .refusedRange [] s

/-- The counters of the track with one of disposition `d` counted (R107). -/
def Sys2Proof.Machine.disposed (d : Disposition) (t : Track) : Track := { t with counts := t.counts.upd d.index satInc }

/-- R98 to R102, R109, R131, R171: a FILL-DONE in UP from the station of its port is validated; its fill MT is clamped to the
MT stamped at its arrival (log entry 7) and counted; a container past the gate is ESCAPED or SKIP; one that finds 256 records
opens or extends the forced-reject window and is counted FULL, or is SKIP; any other makes a record in its place by fill MT. -/
def Obligations.FillDoneMakesARecord : Prop :=
  ∀ (b code station head result : Byte) (sec : BitVec 48) (ns : BitVec 32) (began : Option Stamp) (p : Fin 24) (i : Fin 32)
    (x : StationConf) (s : State), TrackInv s → s.fabric.up = true → b.toNat = p.1 → s.stationOn p = some i → station.toNat = i.1 →
    (s.stations.get i).conf = some x →
    let c : Instr := .fillDone b code station head result sec ns began
    let arrival := (s.stampedAt began).mt
    let posted := fun why => Completes c s fun t => SameBut allLinks s t ∧
      Hears [toAll (noticeMessageError i.1 why)] s.now s t
    let badHead := head = 0 ∨ x.heads < head.toNat
    let badField := 4 ≤ result.toNat ∨ 999999999 < ns.toNat
    (x.role ≠ .filler → posted .role) ∧
    (x.role = .filler → badHead → posted .head) ∧
    (x.role = .filler → ¬ badHead → badField → posted .range) ∧
    (x.role = .filler → ¬ badHead → ¬ badField →
      ∃ r : FillResult, r.code = result ∧
      let stamp : Int := (sec.toNat * 1000000000 + ns.toNat : Nat)
      let fill := min stamp arrival
      let u : Track := { s.track with future := if arrival < stamp then satInc s.track.future else s.track.future }
      let gate := fill + s.gate.delayUs * 1000
      let gone := gate ≤ arrival
      let full := 256 ≤ s.track.records.length
      (gone ∨ full → r = .noContainer → Completes c s fun t => SameBut [.track] s t ∧ t.track = disposed .skip u) ∧
      (gone → r ≠ .noContainer → Completes c s fun t => SameBut ([.track] ++ allLinks) s t ∧
        t.track = { u with escaped := satInc u.escaped } ∧ Hears [byPort s (some p) (noticeEscaped i)] s.now s t) ∧
      (¬ gone → full → r ≠ .noContainer → Completes c s fun t =>
        let e := gate + s.gate.halfWindowUs * 1000
        SameBut ([.track, .outputs, .outWindow] ++ allLinks) s t ∧
        t.track = { u with
          windowEnd := some (match s.track.windowEnd with | some w => max w e | none => e)
          full := satInc u.full } ∧
        (s.track.windowEnd ≠ none → t.outputs = s.outputs ∧ t.outWindow = s.outWindow) ∧
        (s.track.windowEnd = none → t.outWindow = true ∧ ∀ o, t.outputs.get o =
          { s.outputs.get o with hold := (s.outputs.get o).hold || (s.outputs.get o).mode == .gate }) ∧
        Hears ((if s.track.windowEnd = none then [toAll (noticeGateForced s.track.records.length true)] else []) ++
          [byPort s (some p) (noticeFull i)]) s.now s t) ∧
      (¬ gone → ¬ full → Completes c s fun t =>
        let entry := fun k =>
          let pt := s.points.get k
          let trigger := fill + pt.travelUs * 1000
          ({ state :=
              if pt.enabled = false ∨ r = .noContainer then .notUsed
              else if trigger ≤ arrival then .missing
              else .waiting
             trigger := trigger
             verdictBy := trigger + pt.allowanceUs * 1000 } : PointEntry)
        let late := ∃ k, (entry k).state = .missing
        SameBut ([.track] ++ allLinks) s t ∧
        (∃ (before after : List TrackRecord) (y : TrackRecord),
          s.track.records = before ++ after ∧ (∀ z ∈ before, z.fillMt ≤ fill) ∧ (∀ z ∈ after, fill < z.fillMt) ∧
          t.track = { u with
            records := before ++ y :: after
            nextSeq := s.track.nextSeq + 1
            lateFill := if late then satInc s.track.lateFill else s.track.lateFill } ∧
          y.seq = s.track.nextSeq ∧ y.filler = i ∧ y.head = head.toNat ∧ y.result = r ∧ y.fillMt = fill ∧
          y.running = decide (x.state = .run) ∧ y.gateTime = gate ∧ ∀ k, y.entries.get k = entry k) ∧
        Hears (if late then [byPort s (some p) (noticeLateFill i)] else []) s.now s t))

/-- A pulse to end at `fin` asked of an output (R135, R138): it starts, or merges with the one in progress. -/
def Sys2Proof.Machine.asked (fin : Int) (x : Output) : Output :=
  { x with
    pulseEnd := some (match x.pulseEnd with | some e => max e fin | none => fin)
    started := if x.pulseEnd = none then satInc x.started else x.started
    merged := if x.pulseEnd = none then x.merged else satInc x.merged }

/-- Sequence numbers of the records are unique: less than 65,536 records ago (R95; log entry 37). -/
def Sys2Proof.Machine.seqsUnique (s : State) : Prop := (s.track.records.map (·.seq)).Nodup

/-- `t` is `s` with entry `k` of the record numbered `seq` in state `st`. -/
def Sys2Proof.Machine.entrySet (seq : BitVec 16) (k : Fin 4) (st : EntryState) (s t : State) : Prop :=
  t.track = { s.track with
    records := s.track.records.map fun r =>
      if r.seq = seq then { r with entries := r.entries.set k { r.entries.get k with state := st } } else r }

/-- R104, R124, R138: at its trigger time a WAITING entry becomes EXPECTED where the point's camera is in RUN and SERVICE where
it is not, and a TRIGGER pulse is asked of the output an enabled point names, where it is in TRIGGER mode; at its verdict
deadline an EXPECTED entry becomes MISSING. Neither happens before its time, nor to an entry in another state. -/
def Obligations.EntryDeadlinesExpire : Prop :=
  ∀ (seq : BitVec 16) (k : Fin 4) (s : State), seqsUnique s →
    let pt := s.points.get k
    let st : EntryState := if s.stationState pt.camera = some .run then .expected else .service
    (∀ r ∈ s.track.records, r.seq = seq → (r.entries.get k).state = .waiting → (r.entries.get k).trigger ≤ s.now →
      Completes (.triggerDeadlineExpiry seq k) s fun t => SameBut [.track, .outputs] s t ∧ entrySet seq k st s t ∧
        ∀ o, t.outputs.get o =
          if pt.enabled = true ∧ pt.output = some o ∧ (s.outputs.get o).mode = .trigger then
            asked (s.now + (s.outputs.get o).widthUs * 1000) (s.outputs.get o)
          else s.outputs.get o) ∧
    ((∀ r ∈ s.track.records, r.seq = seq → (r.entries.get k).state = .waiting → s.now < (r.entries.get k).trigger) →
      Completes (.triggerDeadlineExpiry seq k) s fun t => t = s) ∧
    (∀ r ∈ s.track.records, r.seq = seq → (r.entries.get k).state = .expected → (r.entries.get k).verdictBy ≤ s.now →
      Completes (.verdictDeadlineExpiry seq k) s fun t => SameBut [.track] s t ∧ entrySet seq k .missing s t) ∧
    ((∀ r ∈ s.track.records, r.seq = seq → (r.entries.get k).state = .expected →
        s.now < (r.entries.get k).verdictBy) →
      Completes (.verdictDeadlineExpiry seq k) s fun t => t = s)

/-- R106, R107, R129, R110, R132: at its gate time the head record, its entries settled, leaves with the first disposition
that applies; it is counted and reported as the last departure, and a REJECT asks a pulse of the gate pulse width of the
gate output, where it is in GATE mode. (It waits while an entry is WAITING or EXPECTED: log entry 5.) At its end the
forced-reject window closes: the output in GATE mode sets its hold off and keeps its pulse end, and GATE-FORCED is posted
with CLOSED and the occupancy. Neither happens before its time. -/
def Obligations.GateExpiryAndWindowEnd : Prop :=
  (∀ s : State,
    (∀ r rest, s.track.records = r :: rest → r.gateTime ≤ s.now →
      (∀ k, (r.entries.get k).state ≠ .waiting ∧ (r.entries.get k).state ≠ .expected) →
      let required := fun k => (s.points.get k).required = true
      let d : Disposition :=
        if r.result = .noContainer then .skip
        else if r.result ≠ .ok then .rejectFill
        else if r.running = false ∨ ∃ k, (r.entries.get k).state = .service then .rejectStation
        else if ∃ k, required k ∧ (r.entries.get k).state.isFail = true then .rejectFail
        else if ∃ k, required k ∧ (r.entries.get k).state = .missing then .rejectMissing
        else if s.track.windowEnd ≠ none then .rejectUntracked
        else .pass
      Completes .gateDeadlineExpiry s fun t => SameBut [.track, .outputs] s t ∧
        t.track = { disposed d s.track with
          records := rest
          lastDeparture := some { seq := r.seq, filler := r.filler, head := r.head, gateTime := r.gateTime
                                  disposition := d, entries := r.entries.map (·.state) } } ∧
        ∀ o, t.outputs.get o =
          if d ≠ .pass ∧ d ≠ .skip ∧ s.gate.output = some o ∧ (s.outputs.get o).mode = .gate then
            asked (s.now + s.gate.widthUs * 1000) (s.outputs.get o)
          else s.outputs.get o) ∧
    ((∀ r rest, s.track.records = r :: rest → s.now < r.gateTime ∨
        ∃ k, (r.entries.get k).state = .waiting ∨ (r.entries.get k).state = .expected) →
      Completes .gateDeadlineExpiry s fun t => t = s)) ∧
  ∀ s : State,
    (∀ e, s.track.windowEnd = some e → e ≤ s.now → Completes .windowEndExpiry s fun t =>
      SameBut ([.track, .outputs, .outWindow] ++ allLinks) s t ∧ t.track = { s.track with windowEnd := none } ∧
      t.outWindow = false ∧
      (∀ o, t.outputs.get o =
        { s.outputs.get o with hold := (s.outputs.get o).hold && (s.outputs.get o).mode != .gate }) ∧
      Hears [toAll (noticeGateForced s.track.records.length false)] s.now s t) ∧
    ((∀ e, s.track.windowEnd = some e → s.now < e) → Completes .windowEndExpiry s fun t => t = s)

/-- R117 to R122: a VERDICT in UP from the station of its port is matched to the EXPECTED entry of its point whose trigger
time lies closest to the image stamp within the match half-window, the older record at equal distance; with none it is
late on a MISSING entry, a repeat on the closest PASS or FAIL entry, and stray otherwise. -/
def Obligations.VerdictIsMatchedToItsEntry : Prop :=
  ∀ (b code station verdict detail : Byte) (sec : BitVec 48) (ns : BitVec 32) (began : Option Stamp) (p : Fin 24)
    (i : Fin 32) (s : State),
    s.fabric.up = true → b.toNat = p.1 → s.stationOn p = some i → station.toNat = i.1 → seqsUnique s →
    let c : Instr := .verdict b code station verdict detail sec ns began
    let names := fun k => (s.points.get k).enabled = true ∧ (s.points.get k).camera = i
    let posts := fun n => Completes c s fun t => SameBut allLinks s t ∧ Hears [n] s.now s t
    ((∀ k, ¬ names k) → posts (toAll (noticeMessageError i.1 .point))) ∧
    ∀ k, names k → (∀ j, names j → j = k) →
      (2 ≤ verdict.toNat ∨ 999999999 < ns.toNat → posts (toAll (noticeMessageError i.1 .range))) ∧
      (verdict.toNat < 2 → ns.toNat ≤ 999999999 →
        let stamp : Int := (sec.toNat * 1000000000 + ns.toNat : Nat)
        let dist := fun r : TrackRecord => ((r.entries.get k).trigger - stamp).natAbs
        let found := fun (f : EntryState → Prop) (r : TrackRecord) =>
          dist r ≤ (s.points.get k).halfWindowUs * 1000 ∧ f (r.entries.get k).state
        let some' := fun f => ∃ r ∈ s.track.records, found f r
        let chosen := fun f r => found f r ∧ ∃ older younger, s.track.records = older ++ r :: younger ∧
          (∀ z ∈ older, found f z → dist r < dist z) ∧ ∀ z ∈ younger, found f z → dist r ≤ dist z
        let judged := fun st : EntryState => st = .pass ∨ st.isFail = true
        (some' (· = .expected) → ∃ r, chosen (· = .expected) r ∧ Completes c s fun t => SameBut [.track] s t ∧
          entrySet r.seq k (if verdict = 0 then .pass else .fail detail) s t) ∧
        (¬ some' (· = .expected) → some' (· = .missing) →
          posts (byPort s (some p) (noticeVerdictLate i (decide (verdict = 0))))) ∧
        (¬ some' (· = .expected) → ¬ some' (· = .missing) → some' judged → ∃ r, chosen judged r ∧
          (((r.entries.get k).state = .pass ↔ verdict = 0) → Completes c s fun t => t = s) ∧
          ((r.entries.get k).state = .pass → verdict = 1 → Completes c s fun t =>
            SameBut ([.track] ++ allLinks) s t ∧ entrySet r.seq k (.fail detail) s t ∧
            Hears [byPort s (some p) (noticeStrayConflict i)] s.now s t) ∧
          ((r.entries.get k).state ≠ .pass → verdict = 0 →
            posts (byPort s (some p) (noticeStrayConflict i)))) ∧
        (¬ some' (· = .expected) → ¬ some' (· = .missing) → ¬ some' judged → some' (· = .service) →
          posts (byPort s (some p) (noticeStrayService i))) ∧
        (¬ some' (· = .expected) → ¬ some' (· = .missing) → ¬ some' judged → ¬ some' (· = .service) →
          posts (byPort s (some p) (noticeStrayNoRecord i))))

/-! ### Trigger outputs (chapter 7) -/

/-- R136, R137, R139, R133: the checks of OUTPUT-SET in their order, and the record it leaves: the settings of the request; on
a change of mode no pulse end and no need, the next feed instant set in FEED mode alone, and the hold taken in GATE mode
while the window is open; on a change of period in FEED mode a fresh next feed instant. -/
def Obligations.OutputSetConfiguresTheOutput : Prop :=
  ∀ (l : Link) (tag : Byte) (s : State), (s.link l).slot.working = false → l = .lc →
    (∀ (o : Fin 8) (y : OutputSettings), 1 ≤ y.widthUs → y.widthUs ≤ 100000 →
      let q : Request := .outputSet (BitVec.ofNat 8 o.1) y.mode.code y.level.code (BitVec.ofNat 32 y.widthUs)
        y.period.code (boolByte y.feedEnable) (boolByte y.runAlways)
      let c : Instr := .outputSet l tag (BitVec.ofNat 8 o.1) y.mode.code y.level.code (BitVec.ofNat 32 y.widthUs)
        y.period.code (boolByte y.feedEnable) (boolByte y.runAlways)
      let x := s.outputs.get o
      let named := s.gate.output = some o ∨ ∃ k, (s.points.get k).enabled = true ∧ (s.points.get k).output = some o
      let answer : Status :=
        if x.mode ≠ y.mode ∧ named ∧ s.track.records ≠ [] then .refusedState
        else if y.mode = .gate ∧ ∃ j, j ≠ o ∧ (s.outputs.get j).mode = .gate then .refusedConflict
        else .done
      (answer ≠ .done → OnlyReplies c l tag q answer [] s) ∧
      (answer = .done → ∃ n : Int, s.now < n ∧ n ≤ s.now + y.period.ns ∧ (y.period.ns : Int) ∣ n ∧
        Completes c s fun t => Replied l tag q .done [] [] s t ∧ SameBut [.outputs, .link l] s t ∧
          OthersSame o s.outputs t.outputs ∧
          (let z : Output := { x with
             level := y.level, widthUs := y.widthUs, period := y.period, feedEnable := y.feedEnable
             runAlways := y.runAlways }
           t.outputs.get o =
            if x.mode = y.mode then
              { z with nextFeed := if y.mode = .feed ∧ x.period ≠ y.period then some n else x.nextFeed }
            else { z with
              mode := y.mode, pulseEnd := none, needs := []
              nextFeed := if y.mode = .feed then some n else none
              hold := decide (y.mode = .gate) && s.outWindow }))) ∧
    ∀ (a m v p e r : Byte) (w : BitVec 32),
      8 ≤ a.toNat ∨ 4 ≤ m.toNat ∨ 2 ≤ v.toNat ∨ 7 ≤ p.toNat ∨ 2 ≤ e.toNat ∨ 2 ≤ r.toNat ∨ w = 0 ∨ 100000 < w.toNat →
      OnlyReplies (.outputSet l tag a m v w p e r) l tag (.outputSet a m v w p e r) .refusedRange [] s

/-- R138 to R141, R130: a NEED in UP from the station of its port joins or leaves the need set of a FEED output; a pulse end
that MT has reached becomes absent; at its feed instant a running FEED output is asked a pulse of the effective width,
below half its period, and its next instant is one period on. None acts before its time or in another mode. (A need set is
held in ascending order: log entry 36.) -/
def Obligations.NeedsAndFeedInstantsDriveTheFeed : Prop :=
  (∀ (b code station output word : Byte) (began : Option Stamp) (p : Fin 24) (i : Fin 32) (s : State), s.fabric.up = true →
    b.toNat = p.1 → s.stationOn p = some i → station.toNat = i.1 →
    let c : Instr := .need b code station output word began
    let posts := fun why => Completes c s fun t => SameBut allLinks s t ∧
      Hears [toAll (noticeMessageError i.1 why)] s.now s t
    (8 ≤ output.toNat ∨ 2 ≤ word.toNat → posts .range) ∧
    ∀ o : Fin 8, output.toNat = o.1 → word.toNat < 2 →
      ((s.outputs.get o).mode ≠ .feed → posts .mode) ∧
      ((s.outputs.get o).mode = .feed → Completes c s fun t => SameBut [.outputs] s t ∧
        OthersSame o s.outputs t.outputs ∧
        t.outputs.get o = { s.outputs.get o with needs := (t.outputs.get o).needs } ∧
        ∀ j, j ∈ (t.outputs.get o).needs ↔
          if word = 1 then j = i ∨ j ∈ (s.outputs.get o).needs else j ≠ i ∧ j ∈ (s.outputs.get o).needs)) ∧
  ∀ (o : Fin 8) (s : State),
    let x := s.outputs.get o
    (∀ e, x.pulseEnd = some e → e ≤ s.now → Completes (.pulseEndExpiry o) s fun t => SameBut [.outputs] s t ∧
      OthersSame o s.outputs t.outputs ∧ t.outputs.get o = { x with pulseEnd := none }) ∧
    ((∀ e, x.pulseEnd = some e → s.now < e) → Completes (.pulseEndExpiry o) s fun t => t = s) ∧
    (∀ n, x.mode = .feed → x.nextFeed = some n → n ≤ s.now →
      let running := (x.feedEnable = true ∨ x.needs ≠ []) ∧
        (s.time.clock = .locked ∨ s.time.clock = .holdover ∨ x.runAlways = true)
      let width := if 2 * (x.widthUs * 1000) < x.period.ns then x.widthUs * 1000 else x.period.ns / 2
      Completes (.feedInstant o) s fun t => SameBut [.outputs] s t ∧ OthersSame o s.outputs t.outputs ∧
        t.outputs.get o =
          { (if running then asked (n + width) x else x) with nextFeed := some (n + x.period.ns) }) ∧
    ((∀ n, x.mode = .feed → x.nextFeed = some n → s.now < n) → Completes (.feedInstant o) s fun t => t = s)

/-! ### Service grants (chapter 8) -/

/-- R147: the five requests that name a grant refuse a slot number above 3 with REFUSED-RANGE, and a grant number that is not
the slot's own, or a slot that has taken no ask, with REFUSED-STATE. (That GRANT-EXTEND judges this before its added time is
log entry 45's reading.) -/
def Obligations.GrantsAreNamedByTheirNumber : Prop :=
  ∀ (l : Link) (tag a : Byte) (n added : BitVec 16) (s : State),
    let answer : Option Status :=
      if 4 ≤ a.toNat then some .refusedRange
      else if ∃ k : Fin 4, a.toNat = k.1 ∧ (s.grants.slots.get k).ask.map (·.number) = some n then none
      else some .refusedState
    ∀ why, answer = some why →
      (Taken l (.grantConcur a n) s → OnlyReplies (.grantConcur l tag a n) l tag (.grantConcur a n) why [] s) ∧
      (Taken l (.grantDecline a n) s → OnlyReplies (.grantDecline l tag a n) l tag (.grantDecline a n) why [] s) ∧
      (Taken l (.grantExtend a n added) s →
        OnlyReplies (.grantExtend l tag a n added) l tag (.grantExtend a n added) why [] s) ∧
      (Taken l (.grantRelease a n) s → OnlyReplies (.grantRelease l tag a n) l tag (.grantRelease a n) why [] s) ∧
      (Taken l (.grantRevoke a n) s → OnlyReplies (.grantRevoke l tag a n) l tag (.grantRevoke a n) why [] s)

/-- The slot with its lease deadlines set at an activation at MT `now` (R154). -/
def Sys2Proof.Machine.activated (a : GrantAsk) (now : Int) (g : GrantSlot) : GrantSlot :=
  { g with
    state := .active, ask := some a, askTimeout := none, activation := some now
    expiry := some (now + a.lease * 1000000000)
    warning := if 60 < a.lease then some (now + a.lease * 1000000000 - 60 * 1000000000) else none
    warned := false }

/-- R150, R147, R154: the checks of GRANT-ASK in their order; one that passes takes the FREE slot with the lowest number and
the next grant number, is ACTIVE at once at OBSERVE and ASKED for 120 s at the other levels, and is posted. (That an ASKED
slot holds no activation and no expiry MT is log entry 36's reading, and the layout of the reply log entry 23's choice.) -/
def Obligations.GrantAskTakesASlot : Prop :=
  ∀ (tag : Byte) (s : State), (s.link .sc).slot.working = false → GrantInv s →
    (∀ (v : GrantLevel) (b m : Fin 24) (lease : BitVec 16), b ≤ m → 1 ≤ lease.toNat → lease.toNat ≤ 3600 →
      let q : Request := .grantAsk v.code (BitVec.ofNat 8 b.1) (BitVec.ofNat 8 m.1) lease
      let c : Instr := .grantAsk .sc tag v.code (BitVec.ofNat 8 b.1) (BitVec.ofNat 8 m.1) lease
      let clash := v = .intervene ∧ ∃ k p, b ≤ p ∧ p ≤ m ∧ (s.grants.slots.get k).reserves p = true
      let a : GrantAsk := { number := s.grants.nextNumber, level := v, base := b, limit := m, lease := lease.toNat
                            askMt := s.now }
      (clash → OnlyReplies c .sc tag q .refusedConflict [] s) ∧
      (¬ clash → (∀ k, (s.grants.slots.get k).state ≠ .free) → OnlyReplies c .sc tag q .refusedFull [] s) ∧
      (¬ clash → ∀ k, (s.grants.slots.get k).state = .free → (∀ j, j < k → (s.grants.slots.get j).state ≠ .free) →
        let g := s.grants.slots.get k
        Completes c s fun t =>
          SameBut ([.grants] ++ allLinks) s t ∧ OthersSame k s.grants.slots t.grants.slots ∧
          t.grants.nextNumber = s.grants.nextNumber + 1 ∧ t.grants.maxLease = s.grants.maxLease ∧
          (v = .observe → t.grants.slots.get k = { activated a s.now g with endReason := none } ∧
            Replied .sc tag q .done
              (be 1 k.1 ++ field 2 s.grants.nextNumber ++ [2] ++ timeBytes (s.now + lease.toNat * 1000000000))
              [toAll (noticeGrant k .active)] s t) ∧
          (v ≠ .observe → t.grants.slots.get k =
              { g with
                state := .asked, ask := some a, endReason := none, askTimeout := some (s.now + 120 * 1000000000)
                activation := none, expiry := none } ∧
            Replied .sc tag q .done (be 1 k.1 ++ field 2 s.grants.nextNumber ++ [1])
              [toAll (noticeGrant k .asked)] s t))) ∧
    ∀ (v b m : Byte) (lease : BitVec 16),
      v.toNat = 0 ∨ 4 ≤ v.toNat ∨ 24 ≤ b.toNat ∨ 24 ≤ m.toNat ∨ m.toNat < b.toNat ∨ lease = 0 ∨ 3600 < lease.toNat →
      OnlyReplies (.grantAsk .sc tag v b m lease) .sc tag (.grantAsk v b m lease) .refusedRange [] s

/-- The port of station `i`, where the station stands in state `st` on a port of the window of `a`. -/
def Sys2Proof.Machine.standsIn (s : State) (a : GrantAsk) (st : StationState) (i : Fin 32) : Option (Fin 24) :=
  match (s.stations.get i).conf with
  | some x => if x.state = st ∧ a.base ≤ x.port ∧ x.port ≤ a.limit then some x.port else none
  | none => none

/-- Station `i` after the stations of the window of `a` in state `before` have gone to `after` (R37, R29, R30). -/
def Sys2Proof.Machine.stationMoved (a : GrantAsk) (before after : StationState) (s : State) (i : Fin 32) : Station :=
  let x := s.stations.get i
  if (standsIn s a before i).isSome then
    { conf := x.conf.map ({ · with state := after }), orderSeq := s.fabric.nextSeq x.orderSeq, lastChange := some s.now }
  else x

/-- The streams that hold CYCLIC traffic held at port `p` (R58). -/
def Sys2Proof.Machine.heldCyclic (s : State) (p : Fin 24) (i : Fin 128) : Bool :=
  let x := s.streams.get i
  x.egress == some p && x.cls == some .cyclic && x.owner != some .sc

/-- R151, R37, R44, R58, R154: GRANT-CONCUR of an ASKED grant activates its slot and answers with the expiry MT. At INTERVENE
it is refused with REFUSED-STATE while a station of the window is in RUN, and otherwise takes each HELD station of the
window, in ascending number, to SERVICE with an ORDER, its post heard on every link; then, as one event, in ascending stream
number, it discards with HELD what waits on the CYCLIC streams of those stations' ports that the SC link does not own (that
all moves come before the discards, as step 3 of R151 and R44 have it, is log entry 39's reading). A slot that is not ASKED
is refused with REFUSED-STATE. (The bytes of an expiry MT beyond the 48-bit seconds are a free value: log entry 15.) -/
def Obligations.GrantConcurActivates : Prop :=
  ∀ (tag b : Byte) (n : BitVec 16) (k : Fin 4) (a : GrantAsk) (s : State), (s.link .lc).slot.working = false →
    HandleInv s → StationInv s → b.toNat = k.1 → (s.grants.slots.get k).ask = some a → a.number = n →
    let q : Request := .grantConcur b n
    let c : Instr := .grantConcur .lc tag b n
    let g := s.grants.slots.get k
    let runs := a.level = .intervene ∧ ∃ i, standsIn s a .run i ≠ none
    (g.state ≠ .asked ∨ runs → OnlyReplies c .lc tag q .refusedState [] s) ∧
    (g.state = .asked → ¬ runs → Completes c s fun t =>
      OthersSame k s.grants.slots t.grants.slots ∧ t.grants.slots.get k = activated a s.now g ∧
      t.grants.nextNumber = s.grants.nextNumber ∧ t.grants.maxLease = s.grants.maxLease ∧
      (a.level ≠ .intervene → SameBut ([.grants] ++ allLinks) s t ∧
        Replied .lc tag q .done (timeBytes (s.now + a.lease * 1000000000)) [toAll (noticeGrant k .active)] s t) ∧
      (a.level = .intervene →
        let sel := fun i => (numbers 32).any fun j => (standsIn s a .held j).any (heldCyclic s · i)
        let u := { s with grants := t.grants }
        SameBut ([.grants, .stations, .streams, .store, .storeDiscards, .fabric] ++ allLinks) s t ∧
        (∀ i, t.stations.get i = stationMoved a .held .service s i) ∧
        t.store = emptiedStore sel s ∧ t.storeDiscards = emptiedCounts .held sel s ∧
        (∀ i, t.streams.get i = emptiedStream .held sel s i) ∧
        t.fabric = emptiedFrom .held sel s ((numbers 32).foldl (fun f i =>
          match standsIn s a .held i with
          | some p => f.ordered p i .service ((s.stations.get i).orderSeq + 1)
          | none => f) s.fabric) ∧
        Replied .lc tag q .done (timeBytes (s.now + a.lease * 1000000000))
          (((numbers 32).filter fun i => (standsIn s a .held i).isSome).map (fun i => ⟨noticeStation i .service, true⟩) ++
            heardEmptying .held sel (fun _ => []) u ++ [toAll (noticeGrant k .active)]) s t))

/-- Stream `i` is closed at the end of the grant `a` of slot `k` (R51): SC-owned, not FREE, its egress port in the window and
not covered at CONFIGURE or above by another ACTIVE slot. -/
def Sys2Proof.Machine.closedByEnd (s : State) (k : Fin 4) (a : GrantAsk) (i : Fin 128) : Bool :=
  let x := s.streams.get i
  x.state != .free && x.owner == some .sc &&
    x.egress.any fun p => decide (a.base ≤ p ∧ p ≤ a.limit) &&
      (numbers 4).all fun j => j == k || !(s.grants.slots.get j).covers .configure p

/-- The grant of slot `k` has ended with `why` (R159): the slot is FREE, and for a grant that was ACTIVE the SERVICE stations
of an INTERVENE window have gone to HELD with an ORDER and the streams of R51 are closed with flush. -/
def Sys2Proof.Machine.GrantEnded (k : Fin 4) (why : EndReason) (a : GrantAsk) (s t : State) : Prop :=
  let g := s.grants.slots.get k
  let moves := g.state = .active ∧ a.level = .intervene
  let ends := fun i => decide (g.state = .active ∧ a.level ≠ .observe) && closedByEnd s k a i
  let left := fun i => (emptiedStore ends s).any (·.stream == i)
  SameBut ([.grants, .stations, .streams, .store, .storeDiscards, .fabric] ++ allLinks) s t ∧
  OthersSame k s.grants.slots t.grants.slots ∧ t.grants.nextNumber = s.grants.nextNumber ∧
  t.grants.maxLease = s.grants.maxLease ∧
  t.grants.slots.get k = { g with
    state := .free, askTimeout := none, warning := none, warned := false, endReason := some why } ∧
  (∀ i, t.stations.get i = if moves then stationMoved a .service .held s i else s.stations.get i) ∧
  t.store = emptiedStore ends s ∧ t.storeDiscards = emptiedCounts .flushed ends s ∧
  (∀ i, t.streams.get i =
    let x := s.streams.get i
    if ends i then { x with
      state := if left i then .draining else .free
      closeReason := if x.state = .opened then some .grantEnded else x.closeReason
      discards := countedTimes .flushed (s.pendingList i).length x.discards }
    else x) ∧
  t.fabric = emptiedFrom .flushed ends s (if moves then
      (numbers 32).foldl (fun f i =>
        match standsIn s a .service i with
        | some p => f.ordered p i .hold ((s.stations.get i).orderSeq + 1)
        | none => f) s.fabric
    else s.fabric)

/-- The notices of an end (R159, R160), with the coverage `u` has after the slot is FREE. -/
def Sys2Proof.Machine.heardEnd (k : Fin 4) (why : EndReason) (a : GrantAsk) (s u : State) : List Heard :=
  let g := s.grants.slots.get k
  let ends := fun i => decide (g.state = .active ∧ a.level ≠ .observe) && closedByEnd s k a i
  (if g.state = .active ∧ a.level = .intervene then
    (numbers 32).filterMap fun i =>
      (standsIn s a .service i).map fun _ => (⟨noticeStation i .held, true⟩ : Heard)
  else []) ++
  ((numbers 128).flatMap fun i =>
    let x := s.streams.get i
    if ends i then
      heardDiscards .flushed (s.pendingList i).length i u ++
        if (emptiedStore ends s).any (·.stream == i) then []
        else [byPort u x.egress (noticeDrained i (if x.state = .opened then some .grantEnded else x.closeReason))]
    else []) ++
  [toAll (noticeGrant k (.ended why))]

/-- R152, R153, R156 to R159, R51, R37: decline and ask timeout end an ASKED grant, lease expiry an ACTIVE one, and release and
revoke either, each with its reason and the effects of R159; a decline of a grant that is not ASKED and a release or
revoke of a FREE slot are refused with REFUSED-STATE, and no deadline acts before its time. -/
def Obligations.GrantsEndByTheirCauses : Prop :=
  ∀ (k : Fin 4) (a : GrantAsk) (s : State), HandleInv s → (s.grants.slots.get k).ask = some a →
    let g := s.grants.slots.get k
    let after := fun t : State => { s with grants := t.grants }
    let ended := fun (c : Instr) (l : Link) (tag : Byte) (q : Request) (why : EndReason) => Completes c s fun t =>
      GrantEnded k why a s t ∧ Replied l tag q .done [] (heardEnd k why a s (after t)) s t
    let expired := fun (c : Instr) (why : EndReason) => Completes c s fun t =>
      GrantEnded k why a s t ∧ Hears (heardEnd k why a s (after t)) s.now s t
    (∀ (l : Link) (tag b : Byte), b.toNat = k.1 →
      (Taken l (.grantDecline b a.number) s →
        (g.state = .asked → ended (.grantDecline l tag b a.number) l tag (.grantDecline b a.number) .declined) ∧
        (g.state ≠ .asked →
          OnlyReplies (.grantDecline l tag b a.number) l tag (.grantDecline b a.number) .refusedState [] s)) ∧
      (Taken l (.grantRelease b a.number) s →
        (g.state ≠ .free → ended (.grantRelease l tag b a.number) l tag (.grantRelease b a.number) .released) ∧
        (g.state = .free →
          OnlyReplies (.grantRelease l tag b a.number) l tag (.grantRelease b a.number) .refusedState [] s)) ∧
      (Taken l (.grantRevoke b a.number) s →
        (g.state ≠ .free → ended (.grantRevoke l tag b a.number) l tag (.grantRevoke b a.number) .revoked) ∧
        (g.state = .free →
          OnlyReplies (.grantRevoke l tag b a.number) l tag (.grantRevoke b a.number) .refusedState [] s))) ∧
    (∀ x, g.state = .asked → g.askTimeout = some x → x ≤ s.now → expired (.askTimeoutExpiry k) .timeout) ∧
    ((∀ x, g.state = .asked → g.askTimeout = some x → s.now < x) →
      Completes (.askTimeoutExpiry k) s fun t => t = s) ∧
    (∀ x, g.state = .active → g.expiry = some x → x ≤ s.now → expired (.expiryMtExpiry k) .expired) ∧
    ((∀ x, g.state = .active → g.expiry = some x → s.now < x) →
      Completes (.expiryMtExpiry k) s fun t => t = s)

/-- R149, R154, R155: GRANT-POLICY sets the max total lease within 60 to 14,400 s; GRANT-EXTEND of an ACTIVE grant moves its
expiry within the bound and never earlier, brings its warning up to date where more than 60 s remain, and is posted where
the expiry moved; at the warning time the grant is warned and posted. (The bytes of an expiry MT beyond the 48-bit seconds are
a free value: log entry 15. That an added time out of range is refused with REFUSED-RANGE whatever the state of the slot is
log entry 45's reading.) -/
def Obligations.LeasesAreExtendedAndWarned : Prop :=
  (∀ (tag : Byte) (v : BitVec 16) (s : State), (s.link .lc).slot.working = false →
    (v.toNat < 60 ∨ 14400 < v.toNat →
      OnlyReplies (.grantPolicy .lc tag v) .lc tag (.grantPolicy v) .refusedRange [] s) ∧
    (60 ≤ v.toNat → v.toNat ≤ 14400 → Completes (.grantPolicy .lc tag v) s fun t =>
      Replied .lc tag (.grantPolicy v) .done [] [] s t ∧ SameBut [.grants, .link .lc] s t ∧
      t.grants = { s.grants with maxLease := v.toNat })) ∧
  (∀ (tag b : Byte) (k : Fin 4) (a : GrantAsk) (v : BitVec 16) (s : State), (s.link .sc).slot.working = false →
    b.toNat = k.1 → (s.grants.slots.get k).ask = some a →
    let g := s.grants.slots.get k
    let q : Request := .grantExtend b a.number v
    let c : Instr := .grantExtend .sc tag b a.number v
    (v = 0 ∨ 3600 < v.toNat → OnlyReplies c .sc tag q .refusedRange [] s) ∧
    (1 ≤ v.toNat → v.toNat ≤ 3600 → g.state ≠ .active → OnlyReplies c .sc tag q .refusedState [] s) ∧
    (∀ e m, 1 ≤ v.toNat → v.toNat ≤ 3600 → g.state = .active → g.activation = some m → g.expiry = some e →
      let bound := m + s.grants.maxLease * 1000000000
      let later := min (e + v.toNat * 1000000000) bound
      let e' := if later ≤ e then e else later
      Completes c s fun t =>
        Replied .sc tag q .done (timeBytes e') (if e' = e then [] else [toAll (noticeGrant k .extended)]) s t ∧
        SameBut ([.grants] ++ allLinks) s t ∧ OthersSame k s.grants.slots t.grants.slots ∧
        t.grants.nextNumber = s.grants.nextNumber ∧ t.grants.maxLease = s.grants.maxLease ∧
        t.grants.slots.get k = { g with
          expiry := some e'
          warned := g.warned && decide (e' - s.now ≤ 60000000000)
          warning := if 60000000000 < e' - s.now then some (e' - 60000000000) else g.warning })) ∧
  ∀ (k : Fin 4) (s : State),
    let g := s.grants.slots.get k
    (∀ w, g.state = .active → g.warning = some w → w ≤ s.now → Completes (.warningTimeExpiry k) s fun t =>
      SameBut ([.grants] ++ allLinks) s t ∧ OthersSame k s.grants.slots t.grants.slots ∧
      t.grants.nextNumber = s.grants.nextNumber ∧ t.grants.maxLease = s.grants.maxLease ∧
      t.grants.slots.get k = { g with warned := true, warning := none } ∧
      Hears [toAll (noticeGrant k .warning)] s.now s t) ∧
    ((∀ w, g.state = .active → g.warning = some w → s.now < w) →
      Completes (.warningTimeExpiry k) s fun t => t = s)

/-! ### The fabric link and its messages (chapter 9) -/

/-- R164, R165, R167: completion of training takes the link from DOWN to UP, RESYNC first in the queue, and posts
FABRIC-RESYNC; a loss of alignment in UP starts 100 µs of local time, and alignment regained within them stops it; the
message at the head of the queue leaves it as it is sent, laid out by section 11.5 with its check value (R195). (Log entries 12, 25 and 26 say what else leaves the part as it
is, and what the lane last sent.) -/
def Obligations.LinkComesUpAndSends : Prop :=
  ∀ s : State,
    let f := s.fabric
    (f.up = false → Completes .trainingComplete s fun t => SameBut ([.fabric] ++ allLinks) s t ∧
      t.fabric = { f with
        up := true, upCount := satInc f.upCount, lastUp := some s.now, outbound := .resync :: f.outbound } ∧
      Hears [toAll (noticeResync (satInc f.upCount) true)] s.now s t) ∧
    (f.up = true → Completes .trainingComplete s fun t => t = s) ∧
    (f.up = true → f.alignTimer = none → Completes .lossOfAlignment s fun t => SameBut [.fabric] s t ∧
      t.fabric = { f with alignTimer := some (s.time.clock25 + 2500) }) ∧
    (f.up = false ∨ f.alignTimer ≠ none → Completes .lossOfAlignment s fun t => t = s) ∧
    (∀ d, f.alignTimer = some d → s.time.clock25 ≤ d → Completes .alignmentRegained s fun t =>
      SameBut [.fabric] s t ∧ t.fabric = { f with alignTimer := none }) ∧
    ((∀ d, f.alignTimer = some d → d < s.time.clock25) → Completes .alignmentRegained s fun t => t = s) ∧
    (∀ m rest, f.up = true → f.outbound = m :: rest → Completes .outboundMessageSent s fun t =>
      SameBut [.fabric] s t ∧ t.fabric = { f with outbound := rest, laneOut := Layout.outbound m }) ∧
    (f.up = false ∨ f.outbound = [] → Completes .outboundMessageSent s fun t => t = s)

/-- Station `i` is configured and not ABSENT. -/
def Sys2Proof.Machine.present (s : State) (i : Fin 32) : Bool := s.stationState i != none && s.stationState i != some .absent

/-- The link has been lost (R165, R64, R92, R39, R142). -/
def Sys2Proof.Machine.LinkLost (s t : State) : Prop :=
  let drained := fun i => (s.streams.get i).state == .draining
  SameBut ([.fabric, .store, .voids, .streams, .ports, .stations, .outputs] ++ allLinks) s t ∧
  t.fabric = { s.fabric with up := false, lastDown := some s.now, outbound := [], alignTimer := none } ∧
  t.store = [] ∧ t.voids = satInc^[s.store.length] s.voids ∧
  (∀ i, t.streams.get i = { s.streams.get i with state := if drained i then .free else (s.streams.get i).state }) ∧
  (∀ p, t.ports.get p =
    { s.ports.get p with up := false, paused := false, high := false, outstanding := [] }) ∧
  (∀ i, t.stations.get i = { s.stations.get i with
    conf := (s.stations.get i).conf.map ({ · with state := .absent })
    lastChange := if present s i then some s.now else (s.stations.get i).lastChange }) ∧
  (∀ o, t.outputs.get o = { s.outputs.get o with
    needs := if (s.outputs.get o).mode = .feed then (s.outputs.get o).needs.filter (fun i => !present s i)
      else (s.outputs.get o).needs }) ∧
  Hears (((numbers 128).filter drained).map (fun i =>
      byPort s (s.streams.get i).egress (noticeDrained i (s.streams.get i).closeReason)) ++
    ((numbers 24).filter fun p => (s.ports.get p).up).map (fun p => byPort s (some p) (noticePortLink p false)) ++
    ((numbers 32).filter (present s)).map (fun i => byPort s (s.stationPort i) (noticeStation i .absent)) ++
    [toAll (noticeResync s.fabric.upCount false)]) s.now s t

/-- R165, R64, R92, R39, R142: in UP, an alignment loss that has lasted 100 µs, or the restart signal, loses the link: the
outbound queue and the store are emptied, every descriptor void, DRAINING streams are FREE, ports are marked down, stations
go to ABSENT and out of every need set, and the notices go in that order. In DOWN, or before the 100 µs are over, nothing
changes. (A restart signal in DOWN is log entry 12's reading, the alignment timer that the loss clears log entry 25's
choice.) -/
def Obligations.LinkLossVoidsWhatTheFabricHolds : Prop :=
  ∀ s : State,
    (s.fabric.up = true → Completes .restartSignal s (LinkLost s)) ∧
    (s.fabric.up = false → Completes .restartSignal s fun t => t = s) ∧
    (∀ d, s.fabric.up = true → s.fabric.alignTimer = some d → d ≤ s.time.clock25 →
      Completes .alignmentLossExpiry s (LinkLost s)) ∧
    ((∀ d, s.fabric.up = true → s.fabric.alignTimer = some d → s.time.clock25 < d) →
      Completes .alignmentLossExpiry s fun t => t = s)

/-- The message of kind `kind` has been dropped as malformed (R169). -/
def Sys2Proof.Machine.Dropped (kind : Byte) (why : MessageFault) (s t : State) : Prop :=
  SameBut ([.fabric] ++ allLinks) s t ∧ t.fabric = { s.fabric with malformed := satInc s.fabric.malformed } ∧
  Hears [toAll (noticeMessageError kind.toNat why)] s.now s t

/-- R169, R170, R164: in UP a message whose check value is wrong is dropped with CHECK, one whose form or fields are outside
section 11.5 and R170 with FORMAT, and the bytes of a message within them act as the named command; in DOWN no inbound
message is taken. (That the check value is judged before the form, and that MALFORMED_MESSAGE with sound bytes acts as the
message they are, is log entry 13's choice.) -/
def Obligations.InboundMessagesAreChecked : Prop :=
  (∀ (kind : Byte) (rest : List Byte) (x : Option Stamp) (s : State), s.fabric.up = true →
    ((checkCrc (kind :: rest)).2 = false → Completes (.malformedMessage kind rest x) s (Dropped kind .check s)) ∧
    ((checkCrc (kind :: rest)).2 = true → (∀ m, readInbound kind rest (s.stampedAt x) ≠ .ok m) →
      Completes (.malformedMessage kind rest x) s (Dropped kind .format s))) ∧
  (∀ (h : BitVec 16) (sec : BitVec 48) (ns : BitVec 32) (s : State), s.fabric.up = true → 999999999 < ns.toNat →
    Completes (.sent h sec ns) s (Dropped 2 .format s)) ∧
  (∀ (p u z w : Byte) (s : State), s.fabric.up = true → 24 ≤ p.toNat ∨ 2 ≤ u.toNat ∨ 2 ≤ z.toNat ∨ 2 ≤ w.toNat →
    Completes (.portState p u z w) s (Dropped 3 .format s)) ∧
  (∀ (p kind code station : Byte) (body : List Byte) (x : Option Stamp) (s : State), s.fabric.up = true → 24 ≤ p.toNat →
    Completes (.cellIn p kind code station body x) s (Dropped 4 .format s)) ∧
  (∀ (stream : Byte) (h n : BitVec 16) (x : Option Stamp) (s : State),
    exec (.malformedMessage 1 ((withCrc ([1, 5, stream] ++ field 2 h ++ field 2 n)).drop 1) x) s =
      exec (.enqueue stream h n) s) ∧
  (∀ (h : BitVec 16) (sec : BitVec 48) (ns : BitVec 32) (x : Option Stamp) (s : State),
    exec (.malformedMessage 2 ((withCrc ([2, 12] ++ field 2 h ++ field 6 sec ++ field 4 ns)).drop 1) x) s =
      exec (.sent h sec ns) s) ∧
  (∀ (p u z w : Byte) (x : Option Stamp) (s : State),
    exec (.malformedMessage 3 ((withCrc [3, 4, p, u, z, w]).drop 1) x) s = exec (.portState p u z w) s) ∧
  (∀ (p kind code station : Byte) (body : List Byte) (x : Option Stamp) (s : State), body.length ≤ 250 →
    exec (.malformedMessage 4 ((withCrc ([4, BitVec.ofNat 8 (5 + body.length), p, kind, code, station,
      BitVec.ofNat 8 body.length] ++ body)).drop 1) x) s = exec (.cellIn p kind code station body x) s) ∧
  ∀ (c : Instr) (s : State), s.fabric.up = false →
    (∃ k r x, c = .malformedMessage k r x) ∨ (∃ a b d, c = .enqueue a b d) ∨ (∃ a b d, c = .sent a b d) ∨
      (∃ a b d e, c = .portState a b d e) ∨ (∃ a b d e f x, c = .cellIn a b d e f x) ∨
      (∃ a b d e f g x, c = .sync a b d e f g x) ∨ (∃ a b d e f g h x, c = .fillDone a b d e f g h x) ∨
      (∃ a b d e f g h x, c = .verdict a b d e f g h x) ∨ (∃ a b d e x, c = .backoff a b d e x) ∨
      (∃ a b d e f x, c = .need a b d e f x) →
    Completes c s fun t => t = s

/-- R172, R173: in UP a cell message of a kind the part does not take, of another length than its kind's, a SYNC from another
port than the grandmaster's, and one of another kind that does not name the station of its port, is counted and posted
with its source port; the bytes of a cell message that fit its kind act as the named command. -/
def Obligations.CellMessagesAreChecked : Prop :=
  (∀ (b kind code station : Byte) (body : List Byte) (began : Option Stamp) (p : Fin 24) (s : State),
    s.fabric.up = true → b.toNat = p.1 →
    let rejected := fun (c : Instr) (why : MessageFault) => Completes c s fun t =>
      SameBut ([.fabric] ++ allLinks) s t ∧
      t.fabric = { s.fabric with rejectedCells := satInc s.fabric.rejectedCells } ∧
      Hears [toAll (noticeMessageError p.1 why)] s.now s t
    let stranger := ∀ i, s.stationOn p = some i → station.toNat ≠ i.1
    (kind = 0 ∨ 6 ≤ kind.toNat → rejected (.cellIn b kind code station body began) .kind) ∧
    (∀ x ∈ [(1, 11), (2, 12), (3, 12), (4, 1), (5, 2)], kind = x.1 → body.length ≠ x.2 →
      rejected (.cellIn b kind code station body began) .length) ∧
    (∀ (seq : Byte) (sec : BitVec 48) (ns : BitVec 32), s.time.config.gmPort ≠ p →
      rejected (.sync b code station seq sec ns began) .port) ∧
    (stranger → (∀ (h r : Byte) (sec : BitVec 48) (ns : BitVec 32),
        rejected (.fillDone b code station h r sec ns began) .port ∧
        rejected (.verdict b code station h r sec ns began) .port) ∧
      (∀ x : Byte, rejected (.backoff b code station x began) .port) ∧
      ∀ o w : Byte, rejected (.need b code station o w began) .port) ∧
    (∀ x : Byte, ¬ stranger → code &&& s.backoff.mask ≠ s.backoff.compare →
      Completes (.cellIn b 4 code station [x] began) s fun t => SameBut [.backoff] s t ∧
        t.backoff = { s.backoff with unmatched := satInc s.backoff.unmatched })) ∧
  ∀ (b code station x y : Byte) (sec : BitVec 48) (ns : BitVec 32) (a : Option Stamp) (s : State),
    exec (.cellIn b 1 code station ([x] ++ field 6 sec ++ field 4 ns) a) s = exec (.sync b code station x sec ns a) s ∧
    exec (.cellIn b 2 code station ([x, y] ++ field 6 sec ++ field 4 ns) a) s =
      exec (.fillDone b code station x y sec ns a) s ∧
    exec (.cellIn b 3 code station ([x, y] ++ field 6 sec ++ field 4 ns) a) s =
      exec (.verdict b code station x y sec ns a) s ∧
    exec (.cellIn b 4 code station [x] a) s = exec (.backoff b code station x a) s ∧
    exec (.cellIn b 5 code station [x, y] a) s = exec (.need b code station x y a) s

/-! ### Master links (chapter 10) -/

/-- R176 to R179: a WRITE in WORKING only sets OVERRUN; another is taken, OVERRUN set where a reply was held, and its slot
holds the request or the reply of the first check of R179 that fails. A READ delivers the status byte, and the reply held in
READY, both laid out by section 11.3 and the reply with its check value (R195), cut to the bytes clocked out and followed by H'00, and empties the slot; otherwise the status byte alone. The placing
of a reply takes WORKING to READY. (What follows a lone status byte is a free value: log entry 10. The bytes returned are
the model's record, from the byte after the transaction byte on: log entries 26 and 43. That a valid request waits in
WORKING until its reply is placed is log entry 9's choice, and the status of a body length of 251 to 255 log entry 36's
reading.) -/
def Obligations.TransactionsMoveTheSlot : Prop :=
  ∀ (l : Link) (s : State),
    let k := s.link l
    (∀ bytes : List Byte,
      (k.slot.working = true → Completes (.write l bytes) s fun t => SameBut [.link l] s t ∧
        t.link l = { k with overrun := true, spiOut := List.replicate bytes.length 0 }) ∧
      (k.slot.working = false →
        let code := bytes.getD 1 0
        let n := (bytes.getD 0 0).toNat
        let why : Option Status :=
          if bytes.length < 5 ∨ n + 5 ≠ bytes.length ∨ (checkCrc bytes).2 = false then some .checkError
          else match requestForm code with
            | none => some .unknownRequest
            | some (m, form) =>
              if n ≠ m then some .lengthError
              else if allowed l (form ((bytes.drop 3).take n)) = false then some .refusedRights
              else none
        Completes (.write l bytes) s fun t => SameBut [.link l] s t ∧
          t.link l = { k with
            slot := (t.link l).slot, overrun := k.overrun || k.slot != .idle
            spiOut := List.replicate bytes.length 0 } ∧
          (∀ x, why = some x → (t.link l).slot =
            .workingAnswered { code := code, tag := bytes.getD 2 0, status := x, body := [] }) ∧
          (why = none → ∃ r, readRequest bytes = .ok r ∧ (t.link l).slot = .workingHeld r (bytes.getD 2 0)))) ∧
    (Completes (.read l []) s fun t => t = s) ∧
    (∀ rest, exec (.read l (1 :: rest)) s = exec (.write l rest) s) ∧
    (∀ (b : Byte) (rest : List Byte), b ≠ 1 →
      let n := rest.length
      (∀ r, k.slot = .ready r →
        let out := Layout.slotStatus k :: Layout.reply r k.overrun
        Completes (.read l (b :: rest)) s fun t => SameBut [.link l] s t ∧
          t.link l = { k with
            slot := .idle, overrun := false, spiOut := out.take n ++ List.replicate (n - out.length) 0 }) ∧
      ((∀ r, k.slot ≠ .ready r) → ∃ fill : Byte, Completes (.read l (b :: rest)) s fun t => SameBut [.link l] s t ∧
        t.link l = { k with spiOut := [Layout.slotStatus k].take n ++ List.replicate (n - 1) fill })) ∧
    (∀ r, k.slot = .workingAnswered r → Completes (.replyPlaced l) s fun t => SameBut [.link l] s t ∧
      t.link l = { k with slot := .ready r }) ∧
    (k.slot.working = false → Completes (.replyPlaced l) s fun t => t = s)

/-- The set of pending classes, bit n − 1 standing for class n. -/
def Sys2Proof.Machine.pendingBits (k : LinkRec) : Nat :=
  ((numbers 16).map fun c => if (k.notices.get c).isSome then 2 ^ c.1 else 0).sum

/-- R187, R185, R177: NOTICE-CLEAR clears every pending flag and detail record of its own link, is answered with DONE and the
set of the classes that were pending, keeps the mask, leaves ATTN inactive and changes nothing else. (That its reply waits to
be placed is log entry 8's reading; the bytes returned are the model's record: log entries 26 and 43.) -/
def Obligations.NoticeClearClearsItsLink : Prop :=
  ∀ (l : Link) (tag : Byte) (s : State), (s.link l).slot.working = false →
    Completes (.noticeClear l tag) s fun t => SameBut [.link l] s t ∧
      t.link l = { answered .noticeClear tag .done (be 2 (pendingBits (s.link l))) (s.link l) (s.link l) with
        notices := Tbl.fill 16 none } ∧
      (t.link l).mask = (s.link l).mask ∧ (t.link l).attnLow = false

/-- R189, its own words; what the link has returned on its data output is left open here. -/
def Obligations.LinkResetResetsItsLink : Prop :=
  ∀ (l : Link) (tag : Byte) (s : State), (s.link l).slot.working = false →
    Completes (.linkReset l tag) s fun t => SameBut [.link l] s t ∧
      t.link l =
        { slot := .ready { code := 0x93, tag := tag, status := .done, body := [] }, overrun := false
          notices := Tbl.fill 16 none, mask := 0, spiOut := (t.link l).spiOut } ∧
      (t.link l).attnLow = false

/-- A notice of class `cls` (1 to 16), with its subject and its reason code (section 11.4). -/
def Sys2Proof.Machine.Notice.reads (n : Notice) (cls subject : Nat) (reason : Byte) : Prop :=
  n.cls.1 + 1 = cls ∧ n.subject = subject ∧ n.reason = reason

/-- The source code of a timed source (section 11.2). -/
def Sys2Proof.TimedSource.number : TimedSource → Nat
  | .grandmaster => 0
  | .hallPulse => 1

/-- The classes of section 10.3 by their numbers, each with its subject and the reason codes of section 11.4. -/
def Sys2Proof.Machine.NoticeCodes : Prop :=
  (∀ src, (noticeSourceFault src false).reads 1 src.number 1 ∧ (noticeSourceFault src true).reads 1 src.number 2 ∧
    (noticeTimeStepped src true).reads 2 src.number 1 ∧ (noticeTimeStepped src false).reads 2 src.number 2) ∧
  (∀ r, (noticeTimeSource .grandmaster r).reads 3 0 r ∧ (noticeTimeSource .hallPulse r).reads 3 1 r ∧
    (noticeTimeSource .localOsc r).reads 3 2 r) ∧
  [ClockState.freeRun, .acquiring, .locked, .holdover, .degraded].map (·.reason) = [2, 3, 4, 5, 6] ∧
  (∀ n, (noticeGateForced n true).reads 4 n 1 ∧ (noticeGateForced n false).reads 4 n 2) ∧
  (∀ i, (noticeEscaped i).reads 5 i.1 1 ∧ (noticeFull i).reads 5 i.1 2 ∧ (noticeLateFill i).reads 5 i.1 3) ∧
  (∀ k, (noticeGrant k .asked).reads 6 k.1 1 ∧ (noticeGrant k .active).reads 6 k.1 2 ∧
    (noticeGrant k .warning).reads 6 k.1 3 ∧ (noticeGrant k .extended).reads 6 k.1 4 ∧
    (noticeGrant k (.ended .declined)).reads 6 k.1 5 ∧ (noticeGrant k (.ended .timeout)).reads 6 k.1 6 ∧
    (noticeGrant k (.ended .expired)).reads 6 k.1 7 ∧ (noticeGrant k (.ended .released)).reads 6 k.1 8 ∧
    (noticeGrant k (.ended .revoked)).reads 6 k.1 9) ∧
  (∀ i, (noticeStation i .absent).reads 7 i.1 1 ∧ (noticeStation i .held).reads 7 i.1 2 ∧
    (noticeStation i .run).reads 7 i.1 3 ∧ (noticeStation i .service).reads 7 i.1 4 ∧
    (noticeConfigured i).reads 7 i.1 5 ∧ (noticeRemoved i).reads 7 i.1 6) ∧
  (∀ p, (noticePortLink p true).reads 8 p.1 1 ∧ (noticePortLink p false).reads 8 p.1 2) ∧
  (∀ i, (noticeVerdictLate i true).reads 9 i.1 1 ∧ (noticeVerdictLate i false).reads 9 i.1 2 ∧
    (noticeStrayService i).reads 10 i.1 1 ∧ (noticeStrayConflict i).reads 10 i.1 2 ∧
    (noticeStrayNoRecord i).reads 10 i.1 3) ∧
  (∀ i, (noticeCongested i false).reads 11 i.1 1 ∧ (noticeCongested i true).reads 11 i.1 2 ∧
    (noticeDrained i (some .closed)).reads 12 i.1 1 ∧ (noticeDrained i (some .forced)).reads 12 i.1 2 ∧
    (noticeDrained i (some .grantEnded)).reads 12 i.1 3) ∧
  (∀ n why, (noticeDiscards n why).reads 13 n (Layout.discardReason why)) ∧
  (∀ n why, (noticeMessageError n why).reads 14 n (BitVec.ofNat 8 (1 +
    [MessageFault.check, .format, .kind, .length, .port, .range, .repeated, .handle, .role, .head, .point,
      .mode].idxOf why))) ∧
  (∀ n, (noticeResync n true).reads 15 n 1 ∧ (noticeResync n false).reads 15 n 2) ∧
  noticePowerOn.reads 16 0 1 ∧ (noticeWarm .lc).reads 16 0 2 ∧ (noticeWarm .sm).reads 16 1 2 ∧
  (noticeWarm .sc).reads 16 2 2 ∧ noticeWarmPin.reads 16 0 3

/-- R181 to R186, R188, section 11.4: the notices have the class numbers, subjects and reasons of the class table. A post to
a class that is not pending sets its flag and fills its detail record; one to a pending class keeps the record and sets
"more"; no other class, and not the mask, is touched. It is delivered to the LC and SM links, and to the SC link where it is
routed there, which for a port means that an ACTIVE grant covers it. NOTICE-TAKE returns and clears the pending class with the lowest number, enabled or not, with the classes
still pending, or class 0 where none is; NOTICE-MASK replaces the mask and returns the old one; ATTN is low exactly while an
enabled class is pending. (The layout of the reply without a detail: log entry 21. That a reply waits to be placed is log
entry 8's reading; the bytes returned are the model's record: log entries 26 and 43.) -/
def Obligations.NoticesArePostedAndTaken : Prop :=
  NoticeCodes ∧
  (∀ (n : Notice) (mt : Int) (k : LinkRec),
    let t := deliver n mt k
    t = { k with notices := t.notices } ∧ OthersSame n.cls k.notices t.notices ∧
    (k.notices.get n.cls = none → t.notices.get n.cls =
      some { mt := mt, subject := BitVec.ofNat 32 n.subject, reason := n.reason, more := false }) ∧
    ∀ d, k.notices.get n.cls = some d → t.notices.get n.cls = some { d with more := true }) ∧
  (∀ (n : Notice) (toSc : Bool) (s : State),
    let t := post n toSc s
    SameBut allLinks s t ∧ t.lc = deliver n s.now s.lc ∧ t.sm = deliver n s.now s.sm ∧
      t.sc = if toSc then deliver n s.now s.sc else s.sc) ∧
  (∀ (s : State) (p : Option (Fin 24)), s.coveredAt .observe p = true ↔
    ∃ x k a, p = some x ∧ (s.grants.slots.get k).state = .active ∧ (s.grants.slots.get k).ask = some a ∧
      a.base ≤ x ∧ x ≤ a.limit) ∧
  ∀ (l : Link) (tag : Byte) (s : State), (s.link l).slot.working = false →
    let k := s.link l
    (∀ (c : Fin 16) (d : Detail), k.notices.get c = some d → (∀ e, e < c → k.notices.get e = none) →
      Completes (.noticeTake l tag) s fun t => SameBut [.link l] s t ∧
        t.link l = { answered .noticeTake tag .done
          (be 1 (c.1 + 1) ++ timeBytes d.mt ++ field 4 d.subject ++ [d.reason, boolByte d.more] ++
            be 2 (pendingBits k - 2 ^ c.1)) k k with
          notices := (t.link l).notices } ∧
        (t.link l).notices.get c = none ∧ OthersSame c k.notices (t.link l).notices) ∧
    ((∀ c, k.notices.get c = none) → Completes (.noticeTake l tag) s fun t => SameBut [.link l] s t ∧
      t.link l = answered .noticeTake tag .done ([0] ++ List.replicate 16 0xFF ++ [0, 0]) k k) ∧
    ∀ m : BitVec 16, Completes (.noticeMask l tag m) s fun t => SameBut [.link l] s t ∧
      t.link l = { answered (.noticeMask m) tag .done (field 2 k.mask ++ be 2 (pendingBits k)) k k with mask := m } ∧
      ((t.link l).attnLow = true ↔ ∃ c, (k.notices.get c).isSome = true ∧ m.getLsbD c.1 = true)

/-! ### Resets -/

/-- A warm reset of the blocks, links apart (R27, R38, R63, R70, R91, R116, R144, R163, R166). -/
def Sys2Proof.Machine.WarmBlocks (s t : State) : Prop :=
  let holds := fun i => s.stationState i = some .run ∨ s.stationState i = some .service
  t.time = s.time ∧ t.queues = s.queues ∧ t.points = s.points ∧ t.gate = s.gate ∧ t.pending = s.pending ∧
  (∀ i, t.stations.get i =
    let x := s.stations.get i
    if holds i then
      { conf := x.conf.map ({ · with state := .held }), orderSeq := s.fabric.nextSeq x.orderSeq
        lastChange := some s.now }
    else x) ∧
  t.fabric = (if s.fabric.up then
    (numbers 32).foldl (fun f i =>
        match s.stationPort i with
        | some p => if holds i then f.ordered p i .hold ((s.stations.get i).orderSeq + 1) else f
        | none => f) { s.fabric with outbound := [.resync] }
    else s.fabric) ∧
  t.streams = Tbl.fill 128 .powerOn ∧ t.store = [] ∧ t.storeDiscards = Tbl.fill 13 0 ∧ t.voids = 0 ∧
  t.backoff = { s.backoff with matched := 0, unmatched := 0 } ∧
  (∀ p, t.ports.get p = { s.ports.get p with
    outstanding := [], cyclicRun := 0, ptrTime := none, ptrCyclic := none, ptrBulk := none, lastWire := none
    released := 0, sent := 0, writeOffs := 0 }) ∧
  t.track = { s.track with
    records := [], lastDeparture := none, counts := Tbl.fill 7 0, future := 0, escaped := 0, full := 0, lateFill := 0
    windowEnd := some (s.now + s.gate.delayUs * 1000 + s.gate.halfWindowUs * 1000) } ∧
  t.outWindow = true ∧
  (∀ o, ∃ n : Int, s.now < n ∧ n ≤ s.now + (s.outputs.get o).period.ns ∧ ((s.outputs.get o).period.ns : Int) ∣ n ∧
    t.outputs.get o = { s.outputs.get o with
      pulseEnd := none, needs := [], started := 0, merged := 0
      nextFeed := if (s.outputs.get o).mode = .feed then some n else (s.outputs.get o).nextFeed
      hold := (s.outputs.get o).hold || (s.outputs.get o).mode == .gate }) ∧
  t.grants.nextNumber = s.grants.nextNumber ∧ t.grants.maxLease = s.grants.maxLease ∧
  ∀ k, t.grants.slots.get k = { s.grants.slots.get k with
    state := .free, askTimeout := none, warning := none, warned := false, endReason := some .reset }

/-- A link whose one pending notice is RESTARTED with the subject and the reason, posted at `mt` (R191, R192). -/
def Sys2Proof.Machine.restarted (slot : Slot) (out : List Byte) (mt : Int) (subject : BitVec 32) (reason : Byte) : LinkRec :=
  { slot := slot, overrun := false
    notices := (Tbl.fill 16 none).set 15 (some { mt := mt, subject := subject, reason := reason, more := false })
    mask := 0, spiOut := out }

/-- R191, R192, section 4.7: WRST and PART-RESET warm-reset every block and leave RESTARTED as the one notice of each link, the
slots IDLE but for the requester's, which takes the reply DONE; PORST gives every record its power-on value. Local time and
the commands that wait are kept (log entries 1 and 30), and a warm reset keeps the alignment timer (log entry 25) and the
recorded output bytes (log entry 26). -/
def Obligations.ResetsRestartThePart : Prop :=
  ∀ s : State,
    (Completes .warmReset s fun t => WarmBlocks s t ∧
      ∀ m, t.link m = restarted .idle (s.link m).spiOut s.now 0 3) ∧
    (∀ (l : Link) (tag : Byte), Taken l .partReset s → Completes (.partReset l tag) s fun t => WarmBlocks s t ∧
      ∀ m, t.link m = restarted
        (if m = l then .ready { code := 0x95, tag := tag, status := .done, body := [] } else .idle)
        (if m = l then [0, 0, 0, 0, 0] else (s.link m).spiOut) s.now (BitVec.ofNat 32 (linkCode l).toNat) 2) ∧
    Completes .powerOnReset s fun t =>
      t = { State.reset with
        time := { State.reset.time with clock25 := s.time.clock25 }, pending := s.pending } ∧
      ∀ m, t.link m = restarted .idle [] 0 0 1

/-! ### Properties that every step keeps -/

/-- R1, R8 to R10: MT stays within its range, and the selection, the clock state and the
deadlines of the Time Unit agree. -/
def Obligations.EveryStepKeepsTheClock : Prop :=
  ∀ s t : State, step s = .next t →
    (MtInv s → MtInv t) ∧ (ClockInv s → ClockInv t)

/-- R15. -/
def Obligations.RateStaysWithinItsRange : Prop :=
  (∀ s t : State, step s = .next t → RateInv s → RateInv t) ∧ RateInv .reset ∧
  (∀ (s : State) (o : Int) (ms : Nat),
    let t := s.time.discipline o ms
    t.iTerm ≤ 200000 ∧ -200000 ≤ t.iTerm ∧ t.rate ≤ 200000 ∧ -200000 ≤ t.rate) ∧
  (∀ s : State, (s.time.select .localOsc).rate = s.time.iTerm) ∧
  ∀ s : State, Completes .powerOnReset s fun t => t.time.iTerm = 0 ∧ t.time.rate = 0

/-- R43, R44, R50, R54, R75, R78, R164, R165, R167, R41: the store, the outstanding lists, the streams and the outbound queue
stay within their bounds and agree on every handle. -/
def Obligations.EveryStepKeepsTheStore : Prop :=
  ∀ s t : State, step s = .next t →
    (LinkInv s → LinkInv t) ∧ (HandleInv s → HandleInv t) ∧ (HandleInv s → StreamInv s → StreamInv t) ∧
      (CreditInv s → CreditInv t)

/-- R94 to R96, R128, R131 to R133, R136: the track stays in order, its times at the configured distances, and the hold of the
one GATE output is on exactly while the forced-reject window is open. -/
def Obligations.EveryStepKeepsTheTrack : Prop :=
  ∀ s t : State, step s = .next t → (TrackInv s → TrackInv t) ∧ (HoldInv s → HoldInv t)

/-- R31, R146, R150: no two stations share a port, no two INTERVENE windows share one, and a slot holds the deadlines of its
state. -/
def Obligations.EveryStepKeepsStationsAndGrants : Prop :=
  ∀ s t : State, step s = .next t → (StationInv s → StationInv t) ∧ (GrantInv s → GrantInv t)

/-- The state after a power-on reset has every property that a step keeps. -/
def Obligations.ResetHasTheKeptProperties : Prop :=
  MtInv .reset ∧ RateInv .reset ∧ ClockInv .reset ∧ LinkInv .reset ∧ HandleInv .reset ∧ StreamInv .reset ∧
    CreditInv .reset ∧ TrackInv .reset ∧ HoldInv .reset ∧ StationInv .reset ∧ GrantInv .reset
end

