-- ==== Sys2Proof/Laws/Bytes.lean ====
section
/-! SUPPORT. Fields of several bytes: sent most significant byte first, and read back. -/

namespace Sys2Proof.Machine

@[simp] theorem be_length (n v : Nat) : (be n v).length = n := by
  induction n with
  | zero => rfl
  | succ n ih => simp [be, ih]

@[simp] theorem field_length {w : Nat} (n : Nat) (v : BitVec w) : (field n v).length = n := be_length n _

theorem be_two (v : Nat) : be 2 v = [BitVec.ofNat 8 (v / 256), BitVec.ofNat 8 v] := by simp [be]

theorem be_four (v : Nat) :
    be 4 v = [BitVec.ofNat 8 (v / 16777216), BitVec.ofNat 8 (v / 65536), BitVec.ofNat 8 (v / 256),
      BitVec.ofNat 8 v] := by simp [be]

theorem be_six (v : Nat) :
    be 6 v = [BitVec.ofNat 8 (v / 1099511627776), BitVec.ofNat 8 (v / 4294967296), BitVec.ofNat 8 (v / 16777216),
      BitVec.ofNat 8 (v / 65536), BitVec.ofNat 8 (v / 256), BitVec.ofNat 8 v] := by simp [be]

/-- A byte string as a number, most significant part first. -/
theorem toNat_append_add {m n : Nat} (a : BitVec m) (b : BitVec n) :
    (a ++ b).toNat = a.toNat * 2 ^ n + b.toNat := by
  rw [BitVec.toNat_append, ← Nat.shiftLeft_add_eq_or_of_lt b.isLt, Nat.shiftLeft_eq]

theorem append_two (v : BitVec 16) :
    BitVec.ofNat 8 (v.toNat / 256) ++ BitVec.ofNat 8 v.toNat = v := by
  apply BitVec.eq_of_toNat_eq
  have := v.isLt
  rw [toNat_append_add, BitVec.toNat_ofNat, BitVec.toNat_ofNat]
  omega

theorem append_four (v : BitVec 32) :
    (BitVec.ofNat 8 (v.toNat / 16777216) ++ BitVec.ofNat 8 (v.toNat / 65536)) ++
      (BitVec.ofNat 8 (v.toNat / 256) ++ BitVec.ofNat 8 v.toNat) = v := by
  apply BitVec.eq_of_toNat_eq
  have := v.isLt
  simp only [toNat_append_add, BitVec.toNat_ofNat]
  omega

theorem append_six (v : BitVec 48) :
    (BitVec.ofNat 8 (v.toNat / 1099511627776) ++ BitVec.ofNat 8 (v.toNat / 4294967296)) ++
      ((BitVec.ofNat 8 (v.toNat / 16777216) ++ BitVec.ofNat 8 (v.toNat / 65536)) ++
        (BitVec.ofNat 8 (v.toNat / 256) ++ BitVec.ofNat 8 v.toNat)) = v := by
  apply BitVec.eq_of_toNat_eq
  have := v.isLt
  simp only [toNat_append_add, BitVec.toNat_ofNat]
  omega

end Sys2Proof.Machine
end

