-- ==== Sys2Proof/Laws/State.lean ====
section
/-! SUPPORT. What each basic update of the state leaves in each field. -/

namespace Sys2Proof.Machine

-- One proof after the other: each waiting thread would hold its own stack.
set_option Elab.async false

/-! ### Links -/

@[simp] theorem State.link_onLink_self (l : Link) (f : LinkRec → LinkRec) (s : State) :
    (s.onLink l f).link l = f (s.link l) := by cases l <;> rfl

theorem State.link_onLink_of_ne {l m : Link} (h : m ≠ l) (f : LinkRec → LinkRec) (s : State) :
    (s.onLink l f).link m = s.link m := by
  cases l <;> cases m <;> first | rfl | exact absurd rfl h

theorem State.onLink_onLink (l : Link) (f g : LinkRec → LinkRec) (s : State) :
    (s.onLink l f).onLink l g = s.onLink l (g ∘ f) := by cases l <;> rfl

/-! ### Times -/

@[simp] theorem State.stamp_mt (s : State) : s.stamp.mt = s.now := rfl

@[simp] theorem State.stamp_localTime (s : State) : s.stamp.localTime = s.localNow := rfl

@[simp] theorem State.stampOf_none (s : State) : s.stampOf none = s.stamp := rfl

@[simp] theorem State.stampOf_some (s : State) (x : Stamp) : s.stampOf (some x) = x := rfl

@[simp] theorem State.now_onLink (l : Link) (f : LinkRec → LinkRec) (s : State) : (s.onLink l f).now = s.now := by
  cases l <;> rfl

/-! ### Fields -/

@[simp] theorem State.onTime_time (f : TimeUnit → TimeUnit) (s : State) :
    (s.onTime f).time = f s.time := rfl

@[simp] theorem State.onTime_stations (f : TimeUnit → TimeUnit) (s : State) :
    (s.onTime f).stations = s.stations := rfl

@[simp] theorem State.onTime_streams (f : TimeUnit → TimeUnit) (s : State) :
    (s.onTime f).streams = s.streams := rfl

@[simp] theorem State.onTime_store (f : TimeUnit → TimeUnit) (s : State) :
    (s.onTime f).store = s.store := rfl

@[simp] theorem State.onTime_storeDiscards (f : TimeUnit → TimeUnit) (s : State) :
    (s.onTime f).storeDiscards = s.storeDiscards := rfl

@[simp] theorem State.onTime_voids (f : TimeUnit → TimeUnit) (s : State) :
    (s.onTime f).voids = s.voids := rfl

@[simp] theorem State.onTime_backoff (f : TimeUnit → TimeUnit) (s : State) :
    (s.onTime f).backoff = s.backoff := rfl

@[simp] theorem State.onTime_queues (f : TimeUnit → TimeUnit) (s : State) :
    (s.onTime f).queues = s.queues := rfl

@[simp] theorem State.onTime_ports (f : TimeUnit → TimeUnit) (s : State) :
    (s.onTime f).ports = s.ports := rfl

@[simp] theorem State.onTime_points (f : TimeUnit → TimeUnit) (s : State) :
    (s.onTime f).points = s.points := rfl

@[simp] theorem State.onTime_gate (f : TimeUnit → TimeUnit) (s : State) :
    (s.onTime f).gate = s.gate := rfl

@[simp] theorem State.onTime_track (f : TimeUnit → TimeUnit) (s : State) :
    (s.onTime f).track = s.track := rfl

@[simp] theorem State.onTime_outputs (f : TimeUnit → TimeUnit) (s : State) :
    (s.onTime f).outputs = s.outputs := rfl

@[simp] theorem State.onTime_outWindow (f : TimeUnit → TimeUnit) (s : State) :
    (s.onTime f).outWindow = s.outWindow := rfl

@[simp] theorem State.onTime_grants (f : TimeUnit → TimeUnit) (s : State) :
    (s.onTime f).grants = s.grants := rfl

@[simp] theorem State.onTime_fabric (f : TimeUnit → TimeUnit) (s : State) :
    (s.onTime f).fabric = s.fabric := rfl

@[simp] theorem State.onTime_lc (f : TimeUnit → TimeUnit) (s : State) :
    (s.onTime f).lc = s.lc := rfl

@[simp] theorem State.onTime_sm (f : TimeUnit → TimeUnit) (s : State) :
    (s.onTime f).sm = s.sm := rfl

@[simp] theorem State.onTime_sc (f : TimeUnit → TimeUnit) (s : State) :
    (s.onTime f).sc = s.sc := rfl

@[simp] theorem State.onTime_pending (f : TimeUnit → TimeUnit) (s : State) :
    (s.onTime f).pending = s.pending := rfl

@[simp] theorem State.onStation_time (i : Fin 32) (f : Station → Station) (s : State) :
    (s.onStation i f).time = s.time := rfl

@[simp] theorem State.onStation_stations (i : Fin 32) (f : Station → Station) (s : State) :
    (s.onStation i f).stations = s.stations.upd i f := rfl

@[simp] theorem State.onStation_streams (i : Fin 32) (f : Station → Station) (s : State) :
    (s.onStation i f).streams = s.streams := rfl

@[simp] theorem State.onStation_store (i : Fin 32) (f : Station → Station) (s : State) :
    (s.onStation i f).store = s.store := rfl

@[simp] theorem State.onStation_storeDiscards (i : Fin 32) (f : Station → Station) (s : State) :
    (s.onStation i f).storeDiscards = s.storeDiscards := rfl

@[simp] theorem State.onStation_voids (i : Fin 32) (f : Station → Station) (s : State) :
    (s.onStation i f).voids = s.voids := rfl

@[simp] theorem State.onStation_backoff (i : Fin 32) (f : Station → Station) (s : State) :
    (s.onStation i f).backoff = s.backoff := rfl

@[simp] theorem State.onStation_queues (i : Fin 32) (f : Station → Station) (s : State) :
    (s.onStation i f).queues = s.queues := rfl

@[simp] theorem State.onStation_ports (i : Fin 32) (f : Station → Station) (s : State) :
    (s.onStation i f).ports = s.ports := rfl

@[simp] theorem State.onStation_points (i : Fin 32) (f : Station → Station) (s : State) :
    (s.onStation i f).points = s.points := rfl

@[simp] theorem State.onStation_gate (i : Fin 32) (f : Station → Station) (s : State) :
    (s.onStation i f).gate = s.gate := rfl

@[simp] theorem State.onStation_track (i : Fin 32) (f : Station → Station) (s : State) :
    (s.onStation i f).track = s.track := rfl

@[simp] theorem State.onStation_outputs (i : Fin 32) (f : Station → Station) (s : State) :
    (s.onStation i f).outputs = s.outputs := rfl

@[simp] theorem State.onStation_outWindow (i : Fin 32) (f : Station → Station) (s : State) :
    (s.onStation i f).outWindow = s.outWindow := rfl

@[simp] theorem State.onStation_grants (i : Fin 32) (f : Station → Station) (s : State) :
    (s.onStation i f).grants = s.grants := rfl

@[simp] theorem State.onStation_fabric (i : Fin 32) (f : Station → Station) (s : State) :
    (s.onStation i f).fabric = s.fabric := rfl

@[simp] theorem State.onStation_lc (i : Fin 32) (f : Station → Station) (s : State) :
    (s.onStation i f).lc = s.lc := rfl

@[simp] theorem State.onStation_sm (i : Fin 32) (f : Station → Station) (s : State) :
    (s.onStation i f).sm = s.sm := rfl

@[simp] theorem State.onStation_sc (i : Fin 32) (f : Station → Station) (s : State) :
    (s.onStation i f).sc = s.sc := rfl

@[simp] theorem State.onStation_pending (i : Fin 32) (f : Station → Station) (s : State) :
    (s.onStation i f).pending = s.pending := rfl

@[simp] theorem State.onStream_time (i : Fin 128) (f : Stream → Stream) (s : State) :
    (s.onStream i f).time = s.time := rfl

@[simp] theorem State.onStream_stations (i : Fin 128) (f : Stream → Stream) (s : State) :
    (s.onStream i f).stations = s.stations := rfl

@[simp] theorem State.onStream_streams (i : Fin 128) (f : Stream → Stream) (s : State) :
    (s.onStream i f).streams = s.streams.upd i f := rfl

@[simp] theorem State.onStream_store (i : Fin 128) (f : Stream → Stream) (s : State) :
    (s.onStream i f).store = s.store := rfl

@[simp] theorem State.onStream_storeDiscards (i : Fin 128) (f : Stream → Stream) (s : State) :
    (s.onStream i f).storeDiscards = s.storeDiscards := rfl

@[simp] theorem State.onStream_voids (i : Fin 128) (f : Stream → Stream) (s : State) :
    (s.onStream i f).voids = s.voids := rfl

@[simp] theorem State.onStream_backoff (i : Fin 128) (f : Stream → Stream) (s : State) :
    (s.onStream i f).backoff = s.backoff := rfl

@[simp] theorem State.onStream_queues (i : Fin 128) (f : Stream → Stream) (s : State) :
    (s.onStream i f).queues = s.queues := rfl

@[simp] theorem State.onStream_ports (i : Fin 128) (f : Stream → Stream) (s : State) :
    (s.onStream i f).ports = s.ports := rfl

@[simp] theorem State.onStream_points (i : Fin 128) (f : Stream → Stream) (s : State) :
    (s.onStream i f).points = s.points := rfl

@[simp] theorem State.onStream_gate (i : Fin 128) (f : Stream → Stream) (s : State) :
    (s.onStream i f).gate = s.gate := rfl

@[simp] theorem State.onStream_track (i : Fin 128) (f : Stream → Stream) (s : State) :
    (s.onStream i f).track = s.track := rfl

@[simp] theorem State.onStream_outputs (i : Fin 128) (f : Stream → Stream) (s : State) :
    (s.onStream i f).outputs = s.outputs := rfl

@[simp] theorem State.onStream_outWindow (i : Fin 128) (f : Stream → Stream) (s : State) :
    (s.onStream i f).outWindow = s.outWindow := rfl

@[simp] theorem State.onStream_grants (i : Fin 128) (f : Stream → Stream) (s : State) :
    (s.onStream i f).grants = s.grants := rfl

@[simp] theorem State.onStream_fabric (i : Fin 128) (f : Stream → Stream) (s : State) :
    (s.onStream i f).fabric = s.fabric := rfl

@[simp] theorem State.onStream_lc (i : Fin 128) (f : Stream → Stream) (s : State) :
    (s.onStream i f).lc = s.lc := rfl

@[simp] theorem State.onStream_sm (i : Fin 128) (f : Stream → Stream) (s : State) :
    (s.onStream i f).sm = s.sm := rfl

@[simp] theorem State.onStream_sc (i : Fin 128) (f : Stream → Stream) (s : State) :
    (s.onStream i f).sc = s.sc := rfl

@[simp] theorem State.onStream_pending (i : Fin 128) (f : Stream → Stream) (s : State) :
    (s.onStream i f).pending = s.pending := rfl

@[simp] theorem State.onStore_time (f : List Descriptor → List Descriptor) (s : State) :
    (s.onStore f).time = s.time := rfl

@[simp] theorem State.onStore_stations (f : List Descriptor → List Descriptor) (s : State) :
    (s.onStore f).stations = s.stations := rfl

@[simp] theorem State.onStore_streams (f : List Descriptor → List Descriptor) (s : State) :
    (s.onStore f).streams = s.streams := rfl

@[simp] theorem State.onStore_store (f : List Descriptor → List Descriptor) (s : State) :
    (s.onStore f).store = f s.store := rfl

@[simp] theorem State.onStore_storeDiscards (f : List Descriptor → List Descriptor) (s : State) :
    (s.onStore f).storeDiscards = s.storeDiscards := rfl

@[simp] theorem State.onStore_voids (f : List Descriptor → List Descriptor) (s : State) :
    (s.onStore f).voids = s.voids := rfl

@[simp] theorem State.onStore_backoff (f : List Descriptor → List Descriptor) (s : State) :
    (s.onStore f).backoff = s.backoff := rfl

@[simp] theorem State.onStore_queues (f : List Descriptor → List Descriptor) (s : State) :
    (s.onStore f).queues = s.queues := rfl

@[simp] theorem State.onStore_ports (f : List Descriptor → List Descriptor) (s : State) :
    (s.onStore f).ports = s.ports := rfl

@[simp] theorem State.onStore_points (f : List Descriptor → List Descriptor) (s : State) :
    (s.onStore f).points = s.points := rfl

@[simp] theorem State.onStore_gate (f : List Descriptor → List Descriptor) (s : State) :
    (s.onStore f).gate = s.gate := rfl

@[simp] theorem State.onStore_track (f : List Descriptor → List Descriptor) (s : State) :
    (s.onStore f).track = s.track := rfl

@[simp] theorem State.onStore_outputs (f : List Descriptor → List Descriptor) (s : State) :
    (s.onStore f).outputs = s.outputs := rfl

@[simp] theorem State.onStore_outWindow (f : List Descriptor → List Descriptor) (s : State) :
    (s.onStore f).outWindow = s.outWindow := rfl

@[simp] theorem State.onStore_grants (f : List Descriptor → List Descriptor) (s : State) :
    (s.onStore f).grants = s.grants := rfl

@[simp] theorem State.onStore_fabric (f : List Descriptor → List Descriptor) (s : State) :
    (s.onStore f).fabric = s.fabric := rfl

@[simp] theorem State.onStore_lc (f : List Descriptor → List Descriptor) (s : State) :
    (s.onStore f).lc = s.lc := rfl

@[simp] theorem State.onStore_sm (f : List Descriptor → List Descriptor) (s : State) :
    (s.onStore f).sm = s.sm := rfl

@[simp] theorem State.onStore_sc (f : List Descriptor → List Descriptor) (s : State) :
    (s.onStore f).sc = s.sc := rfl

@[simp] theorem State.onStore_pending (f : List Descriptor → List Descriptor) (s : State) :
    (s.onStore f).pending = s.pending := rfl

@[simp] theorem State.onQueue_time (i : Fin 8) (f : PacingQueue → PacingQueue) (s : State) :
    (s.onQueue i f).time = s.time := rfl

@[simp] theorem State.onQueue_stations (i : Fin 8) (f : PacingQueue → PacingQueue) (s : State) :
    (s.onQueue i f).stations = s.stations := rfl

@[simp] theorem State.onQueue_streams (i : Fin 8) (f : PacingQueue → PacingQueue) (s : State) :
    (s.onQueue i f).streams = s.streams := rfl

@[simp] theorem State.onQueue_store (i : Fin 8) (f : PacingQueue → PacingQueue) (s : State) :
    (s.onQueue i f).store = s.store := rfl

@[simp] theorem State.onQueue_storeDiscards (i : Fin 8) (f : PacingQueue → PacingQueue) (s : State) :
    (s.onQueue i f).storeDiscards = s.storeDiscards := rfl

@[simp] theorem State.onQueue_voids (i : Fin 8) (f : PacingQueue → PacingQueue) (s : State) :
    (s.onQueue i f).voids = s.voids := rfl

@[simp] theorem State.onQueue_backoff (i : Fin 8) (f : PacingQueue → PacingQueue) (s : State) :
    (s.onQueue i f).backoff = s.backoff := rfl

@[simp] theorem State.onQueue_queues (i : Fin 8) (f : PacingQueue → PacingQueue) (s : State) :
    (s.onQueue i f).queues = s.queues.upd i f := rfl

@[simp] theorem State.onQueue_ports (i : Fin 8) (f : PacingQueue → PacingQueue) (s : State) :
    (s.onQueue i f).ports = s.ports := rfl

@[simp] theorem State.onQueue_points (i : Fin 8) (f : PacingQueue → PacingQueue) (s : State) :
    (s.onQueue i f).points = s.points := rfl

@[simp] theorem State.onQueue_gate (i : Fin 8) (f : PacingQueue → PacingQueue) (s : State) :
    (s.onQueue i f).gate = s.gate := rfl

@[simp] theorem State.onQueue_track (i : Fin 8) (f : PacingQueue → PacingQueue) (s : State) :
    (s.onQueue i f).track = s.track := rfl

@[simp] theorem State.onQueue_outputs (i : Fin 8) (f : PacingQueue → PacingQueue) (s : State) :
    (s.onQueue i f).outputs = s.outputs := rfl

@[simp] theorem State.onQueue_outWindow (i : Fin 8) (f : PacingQueue → PacingQueue) (s : State) :
    (s.onQueue i f).outWindow = s.outWindow := rfl

@[simp] theorem State.onQueue_grants (i : Fin 8) (f : PacingQueue → PacingQueue) (s : State) :
    (s.onQueue i f).grants = s.grants := rfl

@[simp] theorem State.onQueue_fabric (i : Fin 8) (f : PacingQueue → PacingQueue) (s : State) :
    (s.onQueue i f).fabric = s.fabric := rfl

@[simp] theorem State.onQueue_lc (i : Fin 8) (f : PacingQueue → PacingQueue) (s : State) :
    (s.onQueue i f).lc = s.lc := rfl

@[simp] theorem State.onQueue_sm (i : Fin 8) (f : PacingQueue → PacingQueue) (s : State) :
    (s.onQueue i f).sm = s.sm := rfl

@[simp] theorem State.onQueue_sc (i : Fin 8) (f : PacingQueue → PacingQueue) (s : State) :
    (s.onQueue i f).sc = s.sc := rfl

@[simp] theorem State.onQueue_pending (i : Fin 8) (f : PacingQueue → PacingQueue) (s : State) :
    (s.onQueue i f).pending = s.pending := rfl

@[simp] theorem State.onPort_time (i : Fin 24) (f : Port → Port) (s : State) :
    (s.onPort i f).time = s.time := rfl

@[simp] theorem State.onPort_stations (i : Fin 24) (f : Port → Port) (s : State) :
    (s.onPort i f).stations = s.stations := rfl

@[simp] theorem State.onPort_streams (i : Fin 24) (f : Port → Port) (s : State) :
    (s.onPort i f).streams = s.streams := rfl

@[simp] theorem State.onPort_store (i : Fin 24) (f : Port → Port) (s : State) :
    (s.onPort i f).store = s.store := rfl

@[simp] theorem State.onPort_storeDiscards (i : Fin 24) (f : Port → Port) (s : State) :
    (s.onPort i f).storeDiscards = s.storeDiscards := rfl

@[simp] theorem State.onPort_voids (i : Fin 24) (f : Port → Port) (s : State) :
    (s.onPort i f).voids = s.voids := rfl

@[simp] theorem State.onPort_backoff (i : Fin 24) (f : Port → Port) (s : State) :
    (s.onPort i f).backoff = s.backoff := rfl

@[simp] theorem State.onPort_queues (i : Fin 24) (f : Port → Port) (s : State) :
    (s.onPort i f).queues = s.queues := rfl

@[simp] theorem State.onPort_ports (i : Fin 24) (f : Port → Port) (s : State) :
    (s.onPort i f).ports = s.ports.upd i f := rfl

@[simp] theorem State.onPort_points (i : Fin 24) (f : Port → Port) (s : State) :
    (s.onPort i f).points = s.points := rfl

@[simp] theorem State.onPort_gate (i : Fin 24) (f : Port → Port) (s : State) :
    (s.onPort i f).gate = s.gate := rfl

@[simp] theorem State.onPort_track (i : Fin 24) (f : Port → Port) (s : State) :
    (s.onPort i f).track = s.track := rfl

@[simp] theorem State.onPort_outputs (i : Fin 24) (f : Port → Port) (s : State) :
    (s.onPort i f).outputs = s.outputs := rfl

@[simp] theorem State.onPort_outWindow (i : Fin 24) (f : Port → Port) (s : State) :
    (s.onPort i f).outWindow = s.outWindow := rfl

@[simp] theorem State.onPort_grants (i : Fin 24) (f : Port → Port) (s : State) :
    (s.onPort i f).grants = s.grants := rfl

@[simp] theorem State.onPort_fabric (i : Fin 24) (f : Port → Port) (s : State) :
    (s.onPort i f).fabric = s.fabric := rfl

@[simp] theorem State.onPort_lc (i : Fin 24) (f : Port → Port) (s : State) :
    (s.onPort i f).lc = s.lc := rfl

@[simp] theorem State.onPort_sm (i : Fin 24) (f : Port → Port) (s : State) :
    (s.onPort i f).sm = s.sm := rfl

@[simp] theorem State.onPort_sc (i : Fin 24) (f : Port → Port) (s : State) :
    (s.onPort i f).sc = s.sc := rfl

@[simp] theorem State.onPort_pending (i : Fin 24) (f : Port → Port) (s : State) :
    (s.onPort i f).pending = s.pending := rfl

@[simp] theorem State.onTrack_time (f : Track → Track) (s : State) :
    (s.onTrack f).time = s.time := rfl

@[simp] theorem State.onTrack_stations (f : Track → Track) (s : State) :
    (s.onTrack f).stations = s.stations := rfl

@[simp] theorem State.onTrack_streams (f : Track → Track) (s : State) :
    (s.onTrack f).streams = s.streams := rfl

@[simp] theorem State.onTrack_store (f : Track → Track) (s : State) :
    (s.onTrack f).store = s.store := rfl

@[simp] theorem State.onTrack_storeDiscards (f : Track → Track) (s : State) :
    (s.onTrack f).storeDiscards = s.storeDiscards := rfl

@[simp] theorem State.onTrack_voids (f : Track → Track) (s : State) :
    (s.onTrack f).voids = s.voids := rfl

@[simp] theorem State.onTrack_backoff (f : Track → Track) (s : State) :
    (s.onTrack f).backoff = s.backoff := rfl

@[simp] theorem State.onTrack_queues (f : Track → Track) (s : State) :
    (s.onTrack f).queues = s.queues := rfl

@[simp] theorem State.onTrack_ports (f : Track → Track) (s : State) :
    (s.onTrack f).ports = s.ports := rfl

@[simp] theorem State.onTrack_points (f : Track → Track) (s : State) :
    (s.onTrack f).points = s.points := rfl

@[simp] theorem State.onTrack_gate (f : Track → Track) (s : State) :
    (s.onTrack f).gate = s.gate := rfl

@[simp] theorem State.onTrack_track (f : Track → Track) (s : State) :
    (s.onTrack f).track = f s.track := rfl

@[simp] theorem State.onTrack_outputs (f : Track → Track) (s : State) :
    (s.onTrack f).outputs = s.outputs := rfl

@[simp] theorem State.onTrack_outWindow (f : Track → Track) (s : State) :
    (s.onTrack f).outWindow = s.outWindow := rfl

@[simp] theorem State.onTrack_grants (f : Track → Track) (s : State) :
    (s.onTrack f).grants = s.grants := rfl

@[simp] theorem State.onTrack_fabric (f : Track → Track) (s : State) :
    (s.onTrack f).fabric = s.fabric := rfl

@[simp] theorem State.onTrack_lc (f : Track → Track) (s : State) :
    (s.onTrack f).lc = s.lc := rfl

@[simp] theorem State.onTrack_sm (f : Track → Track) (s : State) :
    (s.onTrack f).sm = s.sm := rfl

@[simp] theorem State.onTrack_sc (f : Track → Track) (s : State) :
    (s.onTrack f).sc = s.sc := rfl

@[simp] theorem State.onTrack_pending (f : Track → Track) (s : State) :
    (s.onTrack f).pending = s.pending := rfl

@[simp] theorem State.onOutput_time (i : Fin 8) (f : Output → Output) (s : State) :
    (s.onOutput i f).time = s.time := rfl

@[simp] theorem State.onOutput_stations (i : Fin 8) (f : Output → Output) (s : State) :
    (s.onOutput i f).stations = s.stations := rfl

@[simp] theorem State.onOutput_streams (i : Fin 8) (f : Output → Output) (s : State) :
    (s.onOutput i f).streams = s.streams := rfl

@[simp] theorem State.onOutput_store (i : Fin 8) (f : Output → Output) (s : State) :
    (s.onOutput i f).store = s.store := rfl

@[simp] theorem State.onOutput_storeDiscards (i : Fin 8) (f : Output → Output) (s : State) :
    (s.onOutput i f).storeDiscards = s.storeDiscards := rfl

@[simp] theorem State.onOutput_voids (i : Fin 8) (f : Output → Output) (s : State) :
    (s.onOutput i f).voids = s.voids := rfl

@[simp] theorem State.onOutput_backoff (i : Fin 8) (f : Output → Output) (s : State) :
    (s.onOutput i f).backoff = s.backoff := rfl

@[simp] theorem State.onOutput_queues (i : Fin 8) (f : Output → Output) (s : State) :
    (s.onOutput i f).queues = s.queues := rfl

@[simp] theorem State.onOutput_ports (i : Fin 8) (f : Output → Output) (s : State) :
    (s.onOutput i f).ports = s.ports := rfl

@[simp] theorem State.onOutput_points (i : Fin 8) (f : Output → Output) (s : State) :
    (s.onOutput i f).points = s.points := rfl

@[simp] theorem State.onOutput_gate (i : Fin 8) (f : Output → Output) (s : State) :
    (s.onOutput i f).gate = s.gate := rfl

@[simp] theorem State.onOutput_track (i : Fin 8) (f : Output → Output) (s : State) :
    (s.onOutput i f).track = s.track := rfl

@[simp] theorem State.onOutput_outputs (i : Fin 8) (f : Output → Output) (s : State) :
    (s.onOutput i f).outputs = s.outputs.upd i f := rfl

@[simp] theorem State.onOutput_outWindow (i : Fin 8) (f : Output → Output) (s : State) :
    (s.onOutput i f).outWindow = s.outWindow := rfl

@[simp] theorem State.onOutput_grants (i : Fin 8) (f : Output → Output) (s : State) :
    (s.onOutput i f).grants = s.grants := rfl

@[simp] theorem State.onOutput_fabric (i : Fin 8) (f : Output → Output) (s : State) :
    (s.onOutput i f).fabric = s.fabric := rfl

@[simp] theorem State.onOutput_lc (i : Fin 8) (f : Output → Output) (s : State) :
    (s.onOutput i f).lc = s.lc := rfl

@[simp] theorem State.onOutput_sm (i : Fin 8) (f : Output → Output) (s : State) :
    (s.onOutput i f).sm = s.sm := rfl

@[simp] theorem State.onOutput_sc (i : Fin 8) (f : Output → Output) (s : State) :
    (s.onOutput i f).sc = s.sc := rfl

@[simp] theorem State.onOutput_pending (i : Fin 8) (f : Output → Output) (s : State) :
    (s.onOutput i f).pending = s.pending := rfl

@[simp] theorem State.onFabric_time (f : Fabric → Fabric) (s : State) :
    (s.onFabric f).time = s.time := rfl

@[simp] theorem State.onFabric_stations (f : Fabric → Fabric) (s : State) :
    (s.onFabric f).stations = s.stations := rfl

@[simp] theorem State.onFabric_streams (f : Fabric → Fabric) (s : State) :
    (s.onFabric f).streams = s.streams := rfl

@[simp] theorem State.onFabric_store (f : Fabric → Fabric) (s : State) :
    (s.onFabric f).store = s.store := rfl

@[simp] theorem State.onFabric_storeDiscards (f : Fabric → Fabric) (s : State) :
    (s.onFabric f).storeDiscards = s.storeDiscards := rfl

@[simp] theorem State.onFabric_voids (f : Fabric → Fabric) (s : State) :
    (s.onFabric f).voids = s.voids := rfl

@[simp] theorem State.onFabric_backoff (f : Fabric → Fabric) (s : State) :
    (s.onFabric f).backoff = s.backoff := rfl

@[simp] theorem State.onFabric_queues (f : Fabric → Fabric) (s : State) :
    (s.onFabric f).queues = s.queues := rfl

@[simp] theorem State.onFabric_ports (f : Fabric → Fabric) (s : State) :
    (s.onFabric f).ports = s.ports := rfl

@[simp] theorem State.onFabric_points (f : Fabric → Fabric) (s : State) :
    (s.onFabric f).points = s.points := rfl

@[simp] theorem State.onFabric_gate (f : Fabric → Fabric) (s : State) :
    (s.onFabric f).gate = s.gate := rfl

@[simp] theorem State.onFabric_track (f : Fabric → Fabric) (s : State) :
    (s.onFabric f).track = s.track := rfl

@[simp] theorem State.onFabric_outputs (f : Fabric → Fabric) (s : State) :
    (s.onFabric f).outputs = s.outputs := rfl

@[simp] theorem State.onFabric_outWindow (f : Fabric → Fabric) (s : State) :
    (s.onFabric f).outWindow = s.outWindow := rfl

@[simp] theorem State.onFabric_grants (f : Fabric → Fabric) (s : State) :
    (s.onFabric f).grants = s.grants := rfl

@[simp] theorem State.onFabric_fabric (f : Fabric → Fabric) (s : State) :
    (s.onFabric f).fabric = f s.fabric := rfl

@[simp] theorem State.onFabric_lc (f : Fabric → Fabric) (s : State) :
    (s.onFabric f).lc = s.lc := rfl

@[simp] theorem State.onFabric_sm (f : Fabric → Fabric) (s : State) :
    (s.onFabric f).sm = s.sm := rfl

@[simp] theorem State.onFabric_sc (f : Fabric → Fabric) (s : State) :
    (s.onFabric f).sc = s.sc := rfl

@[simp] theorem State.onFabric_pending (f : Fabric → Fabric) (s : State) :
    (s.onFabric f).pending = s.pending := rfl

@[simp] theorem State.onSlot_time (i : Fin 4) (f : GrantSlot → GrantSlot) (s : State) :
    (s.onSlot i f).time = s.time := rfl

@[simp] theorem State.onSlot_stations (i : Fin 4) (f : GrantSlot → GrantSlot) (s : State) :
    (s.onSlot i f).stations = s.stations := rfl

@[simp] theorem State.onSlot_streams (i : Fin 4) (f : GrantSlot → GrantSlot) (s : State) :
    (s.onSlot i f).streams = s.streams := rfl

@[simp] theorem State.onSlot_store (i : Fin 4) (f : GrantSlot → GrantSlot) (s : State) :
    (s.onSlot i f).store = s.store := rfl

@[simp] theorem State.onSlot_storeDiscards (i : Fin 4) (f : GrantSlot → GrantSlot) (s : State) :
    (s.onSlot i f).storeDiscards = s.storeDiscards := rfl

@[simp] theorem State.onSlot_voids (i : Fin 4) (f : GrantSlot → GrantSlot) (s : State) :
    (s.onSlot i f).voids = s.voids := rfl

@[simp] theorem State.onSlot_backoff (i : Fin 4) (f : GrantSlot → GrantSlot) (s : State) :
    (s.onSlot i f).backoff = s.backoff := rfl

@[simp] theorem State.onSlot_queues (i : Fin 4) (f : GrantSlot → GrantSlot) (s : State) :
    (s.onSlot i f).queues = s.queues := rfl

@[simp] theorem State.onSlot_ports (i : Fin 4) (f : GrantSlot → GrantSlot) (s : State) :
    (s.onSlot i f).ports = s.ports := rfl

@[simp] theorem State.onSlot_points (i : Fin 4) (f : GrantSlot → GrantSlot) (s : State) :
    (s.onSlot i f).points = s.points := rfl

@[simp] theorem State.onSlot_gate (i : Fin 4) (f : GrantSlot → GrantSlot) (s : State) :
    (s.onSlot i f).gate = s.gate := rfl

@[simp] theorem State.onSlot_track (i : Fin 4) (f : GrantSlot → GrantSlot) (s : State) :
    (s.onSlot i f).track = s.track := rfl

@[simp] theorem State.onSlot_outputs (i : Fin 4) (f : GrantSlot → GrantSlot) (s : State) :
    (s.onSlot i f).outputs = s.outputs := rfl

@[simp] theorem State.onSlot_outWindow (i : Fin 4) (f : GrantSlot → GrantSlot) (s : State) :
    (s.onSlot i f).outWindow = s.outWindow := rfl

@[simp] theorem State.onSlot_grants (i : Fin 4) (f : GrantSlot → GrantSlot) (s : State) :
    (s.onSlot i f).grants = { s.grants with slots := s.grants.slots.upd i f } := rfl

@[simp] theorem State.onSlot_fabric (i : Fin 4) (f : GrantSlot → GrantSlot) (s : State) :
    (s.onSlot i f).fabric = s.fabric := rfl

@[simp] theorem State.onSlot_lc (i : Fin 4) (f : GrantSlot → GrantSlot) (s : State) :
    (s.onSlot i f).lc = s.lc := rfl

@[simp] theorem State.onSlot_sm (i : Fin 4) (f : GrantSlot → GrantSlot) (s : State) :
    (s.onSlot i f).sm = s.sm := rfl

@[simp] theorem State.onSlot_sc (i : Fin 4) (f : GrantSlot → GrantSlot) (s : State) :
    (s.onSlot i f).sc = s.sc := rfl

@[simp] theorem State.onSlot_pending (i : Fin 4) (f : GrantSlot → GrantSlot) (s : State) :
    (s.onSlot i f).pending = s.pending := rfl

@[simp] theorem post_time (n : Notice) (toSc : Bool) (s : State) : (post n toSc s).time = s.time := rfl

@[simp] theorem post_stations (n : Notice) (toSc : Bool) (s : State) : (post n toSc s).stations = s.stations := rfl

@[simp] theorem post_streams (n : Notice) (toSc : Bool) (s : State) : (post n toSc s).streams = s.streams := rfl

@[simp] theorem post_store (n : Notice) (toSc : Bool) (s : State) : (post n toSc s).store = s.store := rfl

@[simp] theorem post_storeDiscards (n : Notice) (toSc : Bool) (s : State) : (post n toSc s).storeDiscards = s.storeDiscards := rfl

@[simp] theorem post_voids (n : Notice) (toSc : Bool) (s : State) : (post n toSc s).voids = s.voids := rfl

@[simp] theorem post_backoff (n : Notice) (toSc : Bool) (s : State) : (post n toSc s).backoff = s.backoff := rfl

@[simp] theorem post_queues (n : Notice) (toSc : Bool) (s : State) : (post n toSc s).queues = s.queues := rfl

@[simp] theorem post_ports (n : Notice) (toSc : Bool) (s : State) : (post n toSc s).ports = s.ports := rfl

@[simp] theorem post_points (n : Notice) (toSc : Bool) (s : State) : (post n toSc s).points = s.points := rfl

@[simp] theorem post_gate (n : Notice) (toSc : Bool) (s : State) : (post n toSc s).gate = s.gate := rfl

@[simp] theorem post_track (n : Notice) (toSc : Bool) (s : State) : (post n toSc s).track = s.track := rfl

@[simp] theorem post_outputs (n : Notice) (toSc : Bool) (s : State) : (post n toSc s).outputs = s.outputs := rfl

@[simp] theorem post_outWindow (n : Notice) (toSc : Bool) (s : State) : (post n toSc s).outWindow = s.outWindow := rfl

@[simp] theorem post_grants (n : Notice) (toSc : Bool) (s : State) : (post n toSc s).grants = s.grants := rfl

@[simp] theorem post_fabric (n : Notice) (toSc : Bool) (s : State) : (post n toSc s).fabric = s.fabric := rfl

@[simp] theorem post_lc (n : Notice) (toSc : Bool) (s : State) : (post n toSc s).lc = deliver n s.now s.lc := rfl

@[simp] theorem post_sm (n : Notice) (toSc : Bool) (s : State) : (post n toSc s).sm = deliver n s.now s.sm := rfl

@[simp] theorem post_sc (n : Notice) (toSc : Bool) (s : State) : (post n toSc s).sc = if toSc then deliver n s.now s.sc else s.sc := rfl

@[simp] theorem post_pending (n : Notice) (toSc : Bool) (s : State) : (post n toSc s).pending = s.pending := rfl

@[simp] theorem postAll_time (n : Notice) (s : State) : (postAll n s).time = s.time := rfl

@[simp] theorem postAll_stations (n : Notice) (s : State) : (postAll n s).stations = s.stations := rfl

@[simp] theorem postAll_streams (n : Notice) (s : State) : (postAll n s).streams = s.streams := rfl

@[simp] theorem postAll_store (n : Notice) (s : State) : (postAll n s).store = s.store := rfl

@[simp] theorem postAll_storeDiscards (n : Notice) (s : State) : (postAll n s).storeDiscards = s.storeDiscards := rfl

@[simp] theorem postAll_voids (n : Notice) (s : State) : (postAll n s).voids = s.voids := rfl

@[simp] theorem postAll_backoff (n : Notice) (s : State) : (postAll n s).backoff = s.backoff := rfl

@[simp] theorem postAll_queues (n : Notice) (s : State) : (postAll n s).queues = s.queues := rfl

@[simp] theorem postAll_ports (n : Notice) (s : State) : (postAll n s).ports = s.ports := rfl

@[simp] theorem postAll_points (n : Notice) (s : State) : (postAll n s).points = s.points := rfl

@[simp] theorem postAll_gate (n : Notice) (s : State) : (postAll n s).gate = s.gate := rfl

@[simp] theorem postAll_track (n : Notice) (s : State) : (postAll n s).track = s.track := rfl

@[simp] theorem postAll_outputs (n : Notice) (s : State) : (postAll n s).outputs = s.outputs := rfl

@[simp] theorem postAll_outWindow (n : Notice) (s : State) : (postAll n s).outWindow = s.outWindow := rfl

@[simp] theorem postAll_grants (n : Notice) (s : State) : (postAll n s).grants = s.grants := rfl

@[simp] theorem postAll_fabric (n : Notice) (s : State) : (postAll n s).fabric = s.fabric := rfl

@[simp] theorem postAll_pending (n : Notice) (s : State) : (postAll n s).pending = s.pending := rfl

@[simp] theorem postAt_time (n : Notice) (p : Option (Fin 24)) (s : State) : (postAt n p s).time = s.time := rfl

@[simp] theorem postAt_stations (n : Notice) (p : Option (Fin 24)) (s : State) : (postAt n p s).stations = s.stations := rfl

@[simp] theorem postAt_streams (n : Notice) (p : Option (Fin 24)) (s : State) : (postAt n p s).streams = s.streams := rfl

@[simp] theorem postAt_store (n : Notice) (p : Option (Fin 24)) (s : State) : (postAt n p s).store = s.store := rfl

@[simp] theorem postAt_storeDiscards (n : Notice) (p : Option (Fin 24)) (s : State) : (postAt n p s).storeDiscards = s.storeDiscards := rfl

@[simp] theorem postAt_voids (n : Notice) (p : Option (Fin 24)) (s : State) : (postAt n p s).voids = s.voids := rfl

@[simp] theorem postAt_backoff (n : Notice) (p : Option (Fin 24)) (s : State) : (postAt n p s).backoff = s.backoff := rfl

@[simp] theorem postAt_queues (n : Notice) (p : Option (Fin 24)) (s : State) : (postAt n p s).queues = s.queues := rfl

@[simp] theorem postAt_ports (n : Notice) (p : Option (Fin 24)) (s : State) : (postAt n p s).ports = s.ports := rfl

@[simp] theorem postAt_points (n : Notice) (p : Option (Fin 24)) (s : State) : (postAt n p s).points = s.points := rfl

@[simp] theorem postAt_gate (n : Notice) (p : Option (Fin 24)) (s : State) : (postAt n p s).gate = s.gate := rfl

@[simp] theorem postAt_track (n : Notice) (p : Option (Fin 24)) (s : State) : (postAt n p s).track = s.track := rfl

@[simp] theorem postAt_outputs (n : Notice) (p : Option (Fin 24)) (s : State) : (postAt n p s).outputs = s.outputs := rfl

@[simp] theorem postAt_outWindow (n : Notice) (p : Option (Fin 24)) (s : State) : (postAt n p s).outWindow = s.outWindow := rfl

@[simp] theorem postAt_grants (n : Notice) (p : Option (Fin 24)) (s : State) : (postAt n p s).grants = s.grants := rfl

@[simp] theorem postAt_fabric (n : Notice) (p : Option (Fin 24)) (s : State) : (postAt n p s).fabric = s.fabric := rfl

@[simp] theorem postAt_pending (n : Notice) (p : Option (Fin 24)) (s : State) : (postAt n p s).pending = s.pending := rfl

@[simp] theorem postStation_time (n : Notice) (i : Fin 32) (s : State) : (postStation n i s).time = s.time := rfl

@[simp] theorem postStation_stations (n : Notice) (i : Fin 32) (s : State) : (postStation n i s).stations = s.stations := rfl

@[simp] theorem postStation_streams (n : Notice) (i : Fin 32) (s : State) : (postStation n i s).streams = s.streams := rfl

@[simp] theorem postStation_store (n : Notice) (i : Fin 32) (s : State) : (postStation n i s).store = s.store := rfl

@[simp] theorem postStation_storeDiscards (n : Notice) (i : Fin 32) (s : State) : (postStation n i s).storeDiscards = s.storeDiscards := rfl

@[simp] theorem postStation_voids (n : Notice) (i : Fin 32) (s : State) : (postStation n i s).voids = s.voids := rfl

@[simp] theorem postStation_backoff (n : Notice) (i : Fin 32) (s : State) : (postStation n i s).backoff = s.backoff := rfl

@[simp] theorem postStation_queues (n : Notice) (i : Fin 32) (s : State) : (postStation n i s).queues = s.queues := rfl

@[simp] theorem postStation_ports (n : Notice) (i : Fin 32) (s : State) : (postStation n i s).ports = s.ports := rfl

@[simp] theorem postStation_points (n : Notice) (i : Fin 32) (s : State) : (postStation n i s).points = s.points := rfl

@[simp] theorem postStation_gate (n : Notice) (i : Fin 32) (s : State) : (postStation n i s).gate = s.gate := rfl

@[simp] theorem postStation_track (n : Notice) (i : Fin 32) (s : State) : (postStation n i s).track = s.track := rfl

@[simp] theorem postStation_outputs (n : Notice) (i : Fin 32) (s : State) : (postStation n i s).outputs = s.outputs := rfl

@[simp] theorem postStation_outWindow (n : Notice) (i : Fin 32) (s : State) : (postStation n i s).outWindow = s.outWindow := rfl

@[simp] theorem postStation_grants (n : Notice) (i : Fin 32) (s : State) : (postStation n i s).grants = s.grants := rfl

@[simp] theorem postStation_fabric (n : Notice) (i : Fin 32) (s : State) : (postStation n i s).fabric = s.fabric := rfl

@[simp] theorem postStation_pending (n : Notice) (i : Fin 32) (s : State) : (postStation n i s).pending = s.pending := rfl

@[simp] theorem postAll_lc (n : Notice) (s : State) : (postAll n s).lc = deliver n s.now s.lc := rfl

@[simp] theorem postAll_sm (n : Notice) (s : State) : (postAll n s).sm = deliver n s.now s.sm := rfl

@[simp] theorem postAll_sc (n : Notice) (s : State) : (postAll n s).sc = deliver n s.now s.sc := rfl

@[simp] theorem State.onLink_time (l : Link) (f : LinkRec → LinkRec) (s : State) :
    (s.onLink l f).time = s.time := by cases l <;> rfl

@[simp] theorem State.setSlot_time (l : Link) (k : Slot) (s : State) :
    (s.setSlot l k).time = s.time := by cases l <;> rfl

@[simp] theorem beginWrite_time (l : Link) (n : Nat) (s : State) :
    (beginWrite l n s).time = s.time := by cases l <;> rfl

@[simp] theorem State.onLink_stations (l : Link) (f : LinkRec → LinkRec) (s : State) :
    (s.onLink l f).stations = s.stations := by cases l <;> rfl

@[simp] theorem State.setSlot_stations (l : Link) (k : Slot) (s : State) :
    (s.setSlot l k).stations = s.stations := by cases l <;> rfl

@[simp] theorem beginWrite_stations (l : Link) (n : Nat) (s : State) :
    (beginWrite l n s).stations = s.stations := by cases l <;> rfl

@[simp] theorem State.onLink_streams (l : Link) (f : LinkRec → LinkRec) (s : State) :
    (s.onLink l f).streams = s.streams := by cases l <;> rfl

@[simp] theorem State.setSlot_streams (l : Link) (k : Slot) (s : State) :
    (s.setSlot l k).streams = s.streams := by cases l <;> rfl

@[simp] theorem beginWrite_streams (l : Link) (n : Nat) (s : State) :
    (beginWrite l n s).streams = s.streams := by cases l <;> rfl

@[simp] theorem State.onLink_store (l : Link) (f : LinkRec → LinkRec) (s : State) :
    (s.onLink l f).store = s.store := by cases l <;> rfl

@[simp] theorem State.setSlot_store (l : Link) (k : Slot) (s : State) :
    (s.setSlot l k).store = s.store := by cases l <;> rfl

@[simp] theorem beginWrite_store (l : Link) (n : Nat) (s : State) :
    (beginWrite l n s).store = s.store := by cases l <;> rfl

@[simp] theorem State.onLink_storeDiscards (l : Link) (f : LinkRec → LinkRec) (s : State) :
    (s.onLink l f).storeDiscards = s.storeDiscards := by cases l <;> rfl

@[simp] theorem State.setSlot_storeDiscards (l : Link) (k : Slot) (s : State) :
    (s.setSlot l k).storeDiscards = s.storeDiscards := by cases l <;> rfl

@[simp] theorem beginWrite_storeDiscards (l : Link) (n : Nat) (s : State) :
    (beginWrite l n s).storeDiscards = s.storeDiscards := by cases l <;> rfl

@[simp] theorem State.onLink_voids (l : Link) (f : LinkRec → LinkRec) (s : State) :
    (s.onLink l f).voids = s.voids := by cases l <;> rfl

@[simp] theorem State.setSlot_voids (l : Link) (k : Slot) (s : State) :
    (s.setSlot l k).voids = s.voids := by cases l <;> rfl

@[simp] theorem beginWrite_voids (l : Link) (n : Nat) (s : State) :
    (beginWrite l n s).voids = s.voids := by cases l <;> rfl

@[simp] theorem State.onLink_backoff (l : Link) (f : LinkRec → LinkRec) (s : State) :
    (s.onLink l f).backoff = s.backoff := by cases l <;> rfl

@[simp] theorem State.setSlot_backoff (l : Link) (k : Slot) (s : State) :
    (s.setSlot l k).backoff = s.backoff := by cases l <;> rfl

@[simp] theorem beginWrite_backoff (l : Link) (n : Nat) (s : State) :
    (beginWrite l n s).backoff = s.backoff := by cases l <;> rfl

@[simp] theorem State.onLink_queues (l : Link) (f : LinkRec → LinkRec) (s : State) :
    (s.onLink l f).queues = s.queues := by cases l <;> rfl

@[simp] theorem State.setSlot_queues (l : Link) (k : Slot) (s : State) :
    (s.setSlot l k).queues = s.queues := by cases l <;> rfl

@[simp] theorem beginWrite_queues (l : Link) (n : Nat) (s : State) :
    (beginWrite l n s).queues = s.queues := by cases l <;> rfl

@[simp] theorem State.onLink_ports (l : Link) (f : LinkRec → LinkRec) (s : State) :
    (s.onLink l f).ports = s.ports := by cases l <;> rfl

@[simp] theorem State.setSlot_ports (l : Link) (k : Slot) (s : State) :
    (s.setSlot l k).ports = s.ports := by cases l <;> rfl

@[simp] theorem beginWrite_ports (l : Link) (n : Nat) (s : State) :
    (beginWrite l n s).ports = s.ports := by cases l <;> rfl

@[simp] theorem State.onLink_points (l : Link) (f : LinkRec → LinkRec) (s : State) :
    (s.onLink l f).points = s.points := by cases l <;> rfl

@[simp] theorem State.setSlot_points (l : Link) (k : Slot) (s : State) :
    (s.setSlot l k).points = s.points := by cases l <;> rfl

@[simp] theorem beginWrite_points (l : Link) (n : Nat) (s : State) :
    (beginWrite l n s).points = s.points := by cases l <;> rfl

@[simp] theorem State.onLink_gate (l : Link) (f : LinkRec → LinkRec) (s : State) :
    (s.onLink l f).gate = s.gate := by cases l <;> rfl

@[simp] theorem State.setSlot_gate (l : Link) (k : Slot) (s : State) :
    (s.setSlot l k).gate = s.gate := by cases l <;> rfl

@[simp] theorem beginWrite_gate (l : Link) (n : Nat) (s : State) :
    (beginWrite l n s).gate = s.gate := by cases l <;> rfl

@[simp] theorem State.onLink_track (l : Link) (f : LinkRec → LinkRec) (s : State) :
    (s.onLink l f).track = s.track := by cases l <;> rfl

@[simp] theorem State.setSlot_track (l : Link) (k : Slot) (s : State) :
    (s.setSlot l k).track = s.track := by cases l <;> rfl

@[simp] theorem beginWrite_track (l : Link) (n : Nat) (s : State) :
    (beginWrite l n s).track = s.track := by cases l <;> rfl

@[simp] theorem State.onLink_outputs (l : Link) (f : LinkRec → LinkRec) (s : State) :
    (s.onLink l f).outputs = s.outputs := by cases l <;> rfl

@[simp] theorem State.setSlot_outputs (l : Link) (k : Slot) (s : State) :
    (s.setSlot l k).outputs = s.outputs := by cases l <;> rfl

@[simp] theorem beginWrite_outputs (l : Link) (n : Nat) (s : State) :
    (beginWrite l n s).outputs = s.outputs := by cases l <;> rfl

@[simp] theorem State.onLink_outWindow (l : Link) (f : LinkRec → LinkRec) (s : State) :
    (s.onLink l f).outWindow = s.outWindow := by cases l <;> rfl

@[simp] theorem State.setSlot_outWindow (l : Link) (k : Slot) (s : State) :
    (s.setSlot l k).outWindow = s.outWindow := by cases l <;> rfl

@[simp] theorem beginWrite_outWindow (l : Link) (n : Nat) (s : State) :
    (beginWrite l n s).outWindow = s.outWindow := by cases l <;> rfl

@[simp] theorem State.onLink_grants (l : Link) (f : LinkRec → LinkRec) (s : State) :
    (s.onLink l f).grants = s.grants := by cases l <;> rfl

@[simp] theorem State.setSlot_grants (l : Link) (k : Slot) (s : State) :
    (s.setSlot l k).grants = s.grants := by cases l <;> rfl

@[simp] theorem beginWrite_grants (l : Link) (n : Nat) (s : State) :
    (beginWrite l n s).grants = s.grants := by cases l <;> rfl

@[simp] theorem State.onLink_fabric (l : Link) (f : LinkRec → LinkRec) (s : State) :
    (s.onLink l f).fabric = s.fabric := by cases l <;> rfl

@[simp] theorem State.setSlot_fabric (l : Link) (k : Slot) (s : State) :
    (s.setSlot l k).fabric = s.fabric := by cases l <;> rfl

@[simp] theorem beginWrite_fabric (l : Link) (n : Nat) (s : State) :
    (beginWrite l n s).fabric = s.fabric := by cases l <;> rfl

@[simp] theorem State.onLink_pending (l : Link) (f : LinkRec → LinkRec) (s : State) :
    (s.onLink l f).pending = s.pending := by cases l <;> rfl

@[simp] theorem State.setSlot_pending (l : Link) (k : Slot) (s : State) :
    (s.setSlot l k).pending = s.pending := by cases l <;> rfl

@[simp] theorem beginWrite_pending (l : Link) (n : Nat) (s : State) :
    (beginWrite l n s).pending = s.pending := by cases l <;> rfl

@[simp] theorem handOver_time (m : OutMsg) (s : State) : (handOver m s).time = s.time := rfl

@[simp] theorem handOver_stations (m : OutMsg) (s : State) : (handOver m s).stations = s.stations := rfl

@[simp] theorem handOver_streams (m : OutMsg) (s : State) : (handOver m s).streams = s.streams := rfl

@[simp] theorem handOver_store (m : OutMsg) (s : State) : (handOver m s).store = s.store := rfl

@[simp] theorem handOver_storeDiscards (m : OutMsg) (s : State) : (handOver m s).storeDiscards = s.storeDiscards := rfl

@[simp] theorem handOver_voids (m : OutMsg) (s : State) : (handOver m s).voids = s.voids := rfl

@[simp] theorem handOver_backoff (m : OutMsg) (s : State) : (handOver m s).backoff = s.backoff := rfl

@[simp] theorem handOver_queues (m : OutMsg) (s : State) : (handOver m s).queues = s.queues := rfl

@[simp] theorem handOver_ports (m : OutMsg) (s : State) : (handOver m s).ports = s.ports := rfl

@[simp] theorem handOver_points (m : OutMsg) (s : State) : (handOver m s).points = s.points := rfl

@[simp] theorem handOver_gate (m : OutMsg) (s : State) : (handOver m s).gate = s.gate := rfl

@[simp] theorem handOver_track (m : OutMsg) (s : State) : (handOver m s).track = s.track := rfl

@[simp] theorem handOver_outputs (m : OutMsg) (s : State) : (handOver m s).outputs = s.outputs := rfl

@[simp] theorem handOver_outWindow (m : OutMsg) (s : State) : (handOver m s).outWindow = s.outWindow := rfl

@[simp] theorem handOver_grants (m : OutMsg) (s : State) : (handOver m s).grants = s.grants := rfl

@[simp] theorem handOver_lc (m : OutMsg) (s : State) : (handOver m s).lc = s.lc := rfl

@[simp] theorem handOver_sm (m : OutMsg) (s : State) : (handOver m s).sm = s.sm := rfl

@[simp] theorem handOver_sc (m : OutMsg) (s : State) : (handOver m s).sc = s.sc := rfl

@[simp] theorem handOver_pending (m : OutMsg) (s : State) : (handOver m s).pending = s.pending := rfl

@[simp] theorem State.withQueue_time (q : List Instr) (s : State) : (s.withQueue q).time = s.time := rfl

@[simp] theorem State.withQueue_stations (q : List Instr) (s : State) : (s.withQueue q).stations = s.stations := rfl

@[simp] theorem State.withQueue_streams (q : List Instr) (s : State) : (s.withQueue q).streams = s.streams := rfl

@[simp] theorem State.withQueue_store (q : List Instr) (s : State) : (s.withQueue q).store = s.store := rfl

@[simp] theorem State.withQueue_storeDiscards (q : List Instr) (s : State) : (s.withQueue q).storeDiscards = s.storeDiscards := rfl

@[simp] theorem State.withQueue_voids (q : List Instr) (s : State) : (s.withQueue q).voids = s.voids := rfl

@[simp] theorem State.withQueue_backoff (q : List Instr) (s : State) : (s.withQueue q).backoff = s.backoff := rfl

@[simp] theorem State.withQueue_queues (q : List Instr) (s : State) : (s.withQueue q).queues = s.queues := rfl

@[simp] theorem State.withQueue_ports (q : List Instr) (s : State) : (s.withQueue q).ports = s.ports := rfl

@[simp] theorem State.withQueue_points (q : List Instr) (s : State) : (s.withQueue q).points = s.points := rfl

@[simp] theorem State.withQueue_gate (q : List Instr) (s : State) : (s.withQueue q).gate = s.gate := rfl

@[simp] theorem State.withQueue_track (q : List Instr) (s : State) : (s.withQueue q).track = s.track := rfl

@[simp] theorem State.withQueue_outputs (q : List Instr) (s : State) : (s.withQueue q).outputs = s.outputs := rfl

@[simp] theorem State.withQueue_outWindow (q : List Instr) (s : State) : (s.withQueue q).outWindow = s.outWindow := rfl

@[simp] theorem State.withQueue_grants (q : List Instr) (s : State) : (s.withQueue q).grants = s.grants := rfl

@[simp] theorem State.withQueue_fabric (q : List Instr) (s : State) : (s.withQueue q).fabric = s.fabric := rfl

@[simp] theorem State.withQueue_lc (q : List Instr) (s : State) : (s.withQueue q).lc = s.lc := rfl

@[simp] theorem State.withQueue_sm (q : List Instr) (s : State) : (s.withQueue q).sm = s.sm := rfl

@[simp] theorem State.withQueue_sc (q : List Instr) (s : State) : (s.withQueue q).sc = s.sc := rfl

@[simp] theorem State.withQueue_pending (q : List Instr) (s : State) : (s.withQueue q).pending = q := rfl

end Sys2Proof.Machine
end

