-- ==== Sys2Proof/Laws/Frame.lean ====
section
/-! SUPPORT. The frame of each shared operation: the parts of the state it may change. -/

namespace Sys2Proof.Machine

-- One proof after the other: each waiting thread would hold its own stack.
set_option Elab.async false

/-! ### The algebra of frames -/

theorem SameBut.refl (ps : List Part) (s : State) : SameBut ps s s := by
  intro p _; cases p <;> rfl

theorem SameBut.trans {ps : List Part} {s t u : State} (h : SameBut ps s t) (k : SameBut ps t u) :
    SameBut ps s u := by
  intro p hp
  have a := h p hp
  have b := k p hp
  cases p <;> exact Eq.trans b a

theorem SameBut.mono {ps qs : List Part} {s t : State} (h : SameBut ps s t) (sub : ∀ p ∈ ps, p ∈ qs) :
    SameBut qs s t := fun p hp => h p fun hm => hp (sub p hm)

/-- An operation after another. -/
theorem SameBut.after {ps : List Part} {f : State → State} {s t : State} (hf : ∀ u, SameBut ps u (f u))
    (h : SameBut ps s t) : SameBut ps s (f t) := h.trans (hf t)

theorem SameBut.ite {ps : List Part} {s t u : State} (c : Prop) [Decidable c] (h : SameBut ps s t)
    (k : SameBut ps s u) : SameBut ps s (if c then t else u) := by split <;> assumption

theorem forEach_frame {α : Type} {ps : List Part} {f : α → State → State} (hf : ∀ x s, SameBut ps s (f x s))
    (xs : List α) (s : State) : SameBut ps s (forEach xs f s) := by
  induction xs generalizing s with
  | nil => exact .refl ps s
  | cons x xs ih => exact (hf x s).trans (ih _)

/-! ### What a frame gives for a field -/

section fields
variable {ps : List Part} {s t : State} (h : SameBut ps s t)
include h

theorem SameBut.time (hp : Part.time ∉ ps := by decide) : t.time = s.time := h .time hp
theorem SameBut.stations (hp : Part.stations ∉ ps := by decide) : t.stations = s.stations := h .stations hp
theorem SameBut.streams (hp : Part.streams ∉ ps := by decide) : t.streams = s.streams := h .streams hp
theorem SameBut.store (hp : Part.store ∉ ps := by decide) : t.store = s.store := h .store hp
theorem SameBut.storeDiscards (hp : Part.storeDiscards ∉ ps := by decide) : t.storeDiscards = s.storeDiscards :=
  h .storeDiscards hp
theorem SameBut.voids (hp : Part.voids ∉ ps := by decide) : t.voids = s.voids := h .voids hp
theorem SameBut.backoff (hp : Part.backoff ∉ ps := by decide) : t.backoff = s.backoff := h .backoff hp
theorem SameBut.queues (hp : Part.queues ∉ ps := by decide) : t.queues = s.queues := h .queues hp
theorem SameBut.ports (hp : Part.ports ∉ ps := by decide) : t.ports = s.ports := h .ports hp
theorem SameBut.points (hp : Part.points ∉ ps := by decide) : t.points = s.points := h .points hp
theorem SameBut.gate (hp : Part.gate ∉ ps := by decide) : t.gate = s.gate := h .gate hp
theorem SameBut.track (hp : Part.track ∉ ps := by decide) : t.track = s.track := h .track hp
theorem SameBut.outputs (hp : Part.outputs ∉ ps := by decide) : t.outputs = s.outputs := h .outputs hp
theorem SameBut.outWindow (hp : Part.outWindow ∉ ps := by decide) : t.outWindow = s.outWindow := h .outWindow hp
theorem SameBut.grants (hp : Part.grants ∉ ps := by decide) : t.grants = s.grants := h .grants hp
theorem SameBut.fabric (hp : Part.fabric ∉ ps := by decide) : t.fabric = s.fabric := h .fabric hp
theorem SameBut.link (l : Link) (hp : Part.link l ∉ ps := by decide) : t.link l = s.link l := h (.link l) hp
theorem SameBut.pending (hp : Part.pending ∉ ps := by decide) : t.pending = s.pending := h .pending hp

/-- MT is the same where the Time Unit is. -/
theorem SameBut.now (hp : Part.time ∉ ps := by decide) : t.now = s.now := by
  rw [State.now, State.now, h.time hp]

end fields

/-! ### Basic updates -/

theorem State.onTime_frame (f : TimeUnit → TimeUnit) (s : State) : SameBut [.time] s (s.onTime f) := by
  intro p hp; cases p <;> first | rfl | exact absurd (by decide) hp

theorem State.onStation_frame (i : Fin 32) (f : Station → Station) (s : State) :
    SameBut [.stations] s (s.onStation i f) := by
  intro p hp; cases p <;> first | rfl | exact absurd (by decide) hp

theorem State.onStream_frame (i : Fin 128) (f : Stream → Stream) (s : State) :
    SameBut [.streams] s (s.onStream i f) := by
  intro p hp; cases p <;> first | rfl | exact absurd (by decide) hp

theorem State.onStore_frame (f : List Descriptor → List Descriptor) (s : State) :
    SameBut [.store] s (s.onStore f) := by
  intro p hp; cases p <;> first | rfl | exact absurd (by decide) hp

theorem State.onQueue_frame (i : Fin 8) (f : PacingQueue → PacingQueue) (s : State) :
    SameBut [.queues] s (s.onQueue i f) := by
  intro p hp; cases p <;> first | rfl | exact absurd (by decide) hp

theorem State.onPort_frame (i : Fin 24) (f : Port → Port) (s : State) : SameBut [.ports] s (s.onPort i f) := by
  intro p hp; cases p <;> first | rfl | exact absurd (by decide) hp

theorem State.onTrack_frame (f : Track → Track) (s : State) : SameBut [.track] s (s.onTrack f) := by
  intro p hp; cases p <;> first | rfl | exact absurd (by decide) hp

theorem State.onOutput_frame (i : Fin 8) (f : Output → Output) (s : State) :
    SameBut [.outputs] s (s.onOutput i f) := by
  intro p hp; cases p <;> first | rfl | exact absurd (by decide) hp

theorem State.onSlot_frame (i : Fin 4) (f : GrantSlot → GrantSlot) (s : State) :
    SameBut [.grants] s (s.onSlot i f) := by
  intro p hp; cases p <;> first | rfl | exact absurd (by decide) hp

theorem State.onFabric_frame (f : Fabric → Fabric) (s : State) : SameBut [.fabric] s (s.onFabric f) := by
  intro p hp; cases p <;> first | rfl | exact absurd (by decide) hp

theorem State.onLink_frame (l : Link) (f : LinkRec → LinkRec) (s : State) :
    SameBut [.link l] s (s.onLink l f) := by
  intro p hp
  cases p with
  | link m =>
    have : m ≠ l := fun e => hp (by simp [e])
    exact State.link_onLink_of_ne this f s
  | _ => cases l <;> rfl

theorem State.setSlot_frame (l : Link) (x : Slot) (s : State) : SameBut [.link l] s (s.setSlot l x) :=
  State.onLink_frame l _ s

theorem beginWrite_frame (l : Link) (n : Nat) (s : State) : SameBut [.link l] s (beginWrite l n s) :=
  State.onLink_frame l _ s

theorem handOver_frame (m : OutMsg) (s : State) : SameBut [.fabric] s (handOver m s) := State.onFabric_frame _ s

theorem post_frame (n : Notice) (toSc : Bool) (s : State) : SameBut allLinks s (post n toSc s) := by
  intro p hp
  cases p with
  | link l => cases l <;> exact absurd (by decide) hp
  | _ => rfl

theorem postAll_frame (n : Notice) (s : State) : SameBut allLinks s (postAll n s) := post_frame n true s

theorem postAt_frame (n : Notice) (p : Option (Fin 24)) (s : State) : SameBut allLinks s (postAt n p s) :=
  post_frame n _ s

theorem postStation_frame (n : Notice) (i : Fin 32) (s : State) : SameBut allLinks s (postStation n i s) :=
  postAt_frame n _ s

end Sys2Proof.Machine
end

