-- ==== Sys2Proof/Laws/Frames.lean ====
section
/-! SUPPORT. The frame of each operation of the blocks. -/

namespace Sys2Proof.Machine

-- One proof after the other: each waiting thread would hold its own stack.
set_option Elab.async false

/-- What discards may change. -/
def discardParts : List Part := [.streams, .store, .storeDiscards, .fabric] ++ allLinks

/-- What a change of station states may change. -/
def stationParts : List Part := [.stations, .outputs] ++ discardParts

/-- What the Track Unit may change when it takes a message. -/
def trackParts : List Part := [.track, .outputs, .outWindow] ++ allLinks

/-- What a step of MT may change. -/
def stepParts : List Part := [.time, .store, .track, .ports, .grants, .outputs] ++ allLinks

/-! ### Outputs -/

theorem askTrigger_frame (o : Option (Fin 8)) (s : State) : SameBut [.outputs] s (askTrigger o s) := by
  cases o with
  | none => exact .refl _ s
  | some o => exact State.onOutput_frame o _ s

theorem askGate_frame (s : State) : SameBut [.outputs] s (askGate s) := by
  unfold askGate
  split
  · exact .refl _ s
  · exact State.onOutput_frame _ _ s

theorem holdBegins_frame (s : State) : SameBut [.outputs, .outWindow] s (holdBegins s) := by
  intro p hp; cases p <;> first | rfl | exact absurd (by decide) hp

theorem holdEnds_frame (s : State) : SameBut [.outputs, .outWindow] s (holdEnds s) := by
  intro p hp; cases p <;> first | rfl | exact absurd (by decide) hp

theorem leaveNeeds_frame (i : Fin 32) (s : State) : SameBut [.outputs] s (leaveNeeds i s) := by
  intro p hp; cases p <;> first | rfl | exact absurd (by decide) hp

theorem takeNeed_frame (i : Fin 32) (o w : Byte) (s : State) :
    SameBut ([.outputs] ++ allLinks) s (takeNeed i o w s) := by
  unfold takeNeed
  split
  · split
    · exact (State.onOutput_frame _ _ s).mono (by decide)
    · exact (postAll_frame _ s).mono (by decide)
  · exact (postAll_frame _ s).mono (by decide)

/-! ### Streams and the store -/

theorem freeSlot_frame (h : BitVec 16) (s : State) : SameBut [.store] s (freeSlot h s) := State.onStore_frame _ s

theorem freeStream_frame (i : Fin 128) (s : State) : SameBut ([.streams] ++ allLinks) s (freeStream i s) :=
  ((State.onStream_frame i _ s).mono (by decide)).trans ((postAt_frame _ _ _).mono (by decide))

theorem drainCheck_frame (i : Fin 128) (s : State) : SameBut ([.streams] ++ allLinks) s (drainCheck i s) :=
  .ite _ (freeStream_frame i s) (.refl _ s)

theorem countStoreWide_frame (why : DiscardReason) (s : State) :
    SameBut [.storeDiscards] s (countStoreWide why s) := by
  intro p hp; cases p <;> first | rfl | exact absurd (by decide) hp

theorem countStream_frame (why : DiscardReason) (i : Fin 128) (s : State) :
    SameBut [.streams] s (countStream why i s) := State.onStream_frame i _ s

theorem discardPending_frame (why : DiscardReason) (d : Descriptor) (s : State) :
    SameBut discardParts s (discardPending why d s) :=
  (((((handOver_frame _ s).mono (by decide)).trans ((freeSlot_frame _ _).mono (by decide))).trans
    ((countStoreWide_frame why _).mono (by decide))).trans
    ((countStream_frame why _ _).mono (by decide))).trans ((postAt_frame _ _ _).mono (by decide))

theorem discardList_frame (why : DiscardReason) (ds : List Descriptor) (s : State) :
    SameBut discardParts s (discardList why ds s) := forEach_frame (fun d s => discardPending_frame why d s) ds s

theorem discardAll_frame (why : DiscardReason) (i : Fin 128) (s : State) :
    SameBut discardParts s (discardAll why i s) := discardList_frame why _ s

theorem discardIntake_frame (why : DiscardReason) (h : BitVec 16) (k : Byte) (s : State) :
    SameBut discardParts s (discardIntake why h k s) := by
  have a : SameBut discardParts s (countStoreWide why (handOver (.discard h why) s)) :=
    ((handOver_frame _ s).mono (by decide)).trans ((countStoreWide_frame why _).mono (by decide))
  unfold discardIntake
  split
  · split
    · exact (a.trans ((countStream_frame why _ _).mono (by decide))).trans ((postAt_frame _ _ _).mono (by decide))
    · exact a.trans ((postAt_frame _ _ _).mono (by decide))
  · exact a.trans ((postAt_frame _ _ _).mono (by decide))

theorem settleClose_frame (i : Fin 128) (s : State) : SameBut ([.streams] ++ allLinks) s (settleClose i s) :=
  .ite _ (freeStream_frame i s) ((State.onStream_frame i _ s).mono (by decide))

theorem closeFlush_frame (why : CloseReason) (i : Fin 128) (s : State) :
    SameBut discardParts s (closeFlush why i s) :=
  (((State.onStream_frame i _ s).mono (by decide)).trans (discardAll_frame _ i _)).trans
    ((settleClose_frame i _).mono (by decide))

theorem closeDrain_frame (why : CloseReason) (i : Fin 128) (s : State) :
    SameBut ([.streams] ++ allLinks) s (closeDrain why i s) :=
  .ite _ (((State.onStream_frame i _ s).mono (by decide)).trans (settleClose_frame i _)) (.refl _ s)

theorem closeEnded_frame (a : GrantAsk) (s : State) : SameBut discardParts s (closeEnded a s) :=
  forEach_frame (fun i s => .ite _ (closeFlush_frame _ i s) (.refl _ s)) _ s

theorem discardStreams_frame (why : DiscardReason) (sel : Stream → Bool) (s : State) :
    SameBut discardParts s (discardStreams why sel s) :=
  forEach_frame (fun i s =>
    .ite _ ((discardAll_frame why i s).trans ((drainCheck_frame i _).mono (by decide))) (.refl _ s)) _ s

theorem portWentDown_frame (p : Fin 24) (s : State) : SameBut discardParts s (portWentDown p s) :=
  discardStreams_frame _ _ s

theorem serviceEntered_frame (ports : Fin 24 → Bool) (s : State) : SameBut discardParts s (serviceEntered ports s) :=
  discardStreams_frame _ _ s

theorem clearStationField_frame (i : Fin 32) (k : Option (Fin 24)) (s : State) :
    SameBut [.streams] s (clearStationField i k s) := by
  intro p hp; cases p <;> first | rfl | exact absurd (by decide) hp

theorem congest_frame (b : Bool) (i : Fin 128) (s : State) : SameBut discardParts s (congest b i s) := by
  have tell : ∀ u, SameBut discardParts u
      (if (s.streams.get i).level = 0 then postAt (noticeCongested i b) (u.streamPort i) u else u) := fun u =>
    .ite _ ((postAt_frame _ _ u).mono (by decide)) (.refl _ u)
  unfold congest
  dsimp only
  split
  · exact ((State.onStream_frame i _ s).mono (by decide)).trans (tell _)
  · exact (((discardAll_frame .shed i s).trans ((State.onStream_frame i _ _).mono (by decide))).trans
      (tell _)).trans ((drainCheck_frame i _).mono (by decide))

theorem congestStreams_frame (b : Bool) (sel : Stream → Bool) (s : State) :
    SameBut discardParts s (congestStreams b sel s) :=
  forEach_frame (fun i s => .ite _ (congest_frame b i s) (.refl _ s)) _ s

theorem watermarkHigh_frame (p : Fin 24) (s : State) : SameBut discardParts s (watermarkHigh p s) :=
  congestStreams_frame _ _ s

theorem takeBackoff_frame (p : Fin 24) (c k : Byte) (s : State) :
    SameBut ([.backoff] ++ discardParts) s (takeBackoff p c k s) := by
  have b : ∀ x, SameBut [.backoff] s { s with backoff := x } := fun x q hq => by
    cases q <;> first | rfl | exact absurd (by decide) hq
  unfold takeBackoff
  split
  · exact ((b _).mono (by decide)).trans ((congestStreams_frame _ _ _).mono (by decide))
  · exact (b _).mono (by decide)

theorem accept_frame (i : Fin 128) (h n : BitVec 16) (s : State) : SameBut discardParts s (accept i h n s) :=
  (SameBut.ite _ (discardList_frame _ _ s) (.refl _ s)).trans ((State.onStore_frame _ _).mono (by decide))

theorem takeEnqueue_frame (k : Byte) (h n : BitVec 16) (s : State) :
    SameBut discardParts s (takeEnqueue k h n s) := by
  unfold takeEnqueue
  repeat' split
  all_goals first | exact discardIntake_frame _ _ _ s | exact accept_frame _ _ _ s

/-! ### Stations -/

theorem emitOrder_frame (i : Fin 32) (st : StationState) (s : State) :
    SameBut [.fabric, .stations] s (emitOrder i st s) := by
  unfold emitOrder
  repeat' split
  all_goals first
    | exact ((State.onStation_frame i _ s).mono (by decide)).trans ((handOver_frame _ _).mono (by decide))
    | exact .refl _ s

theorem setStation_frame (i : Fin 32) (st : StationState) (s : State) :
    SameBut [.stations] s (setStation i st s) := State.onStation_frame i _ s

theorem tellOfState_frame (i : Fin 32) (st : StationState) (s : State) :
    SameBut ([.outputs] ++ discardParts) s (tellOfState i st s) := by
  unfold tellOfState
  split
  · exact (serviceEntered_frame _ s).mono (by decide)
  · exact (leaveNeeds_frame i s).mono (by decide)
  · exact .refl _ s

theorem turnStation_frame (i : Fin 32) (st : StationState) (b : Bool) (s : State) :
    SameBut stationParts s (turnStation i st b s) :=
  (((setStation_frame i st s).mono (by decide)).trans ((post_frame _ b _).mono (by decide))).trans
    ((emitOrder_frame i st _).mono (by decide))

theorem changeStation_frame (i : Fin 32) (st : StationState) (b : Bool) (s : State) :
    SameBut stationParts s (changeStation i st b s) :=
  (turnStation_frame i st b s).trans ((tellOfState_frame i st _).mono (by decide))

theorem moveStation_frame (i : Fin 32) (st : StationState) (s : State) :
    SameBut stationParts s (moveStation i st s) := changeStation_frame i st _ s

theorem portLinkChanged_frame (p : Fin 24) (up : Bool) (s : State) :
    SameBut stationParts s (portLinkChanged p up s) := by
  unfold portLinkChanged
  repeat' split
  all_goals first | exact moveStation_frame _ _ s | exact .refl _ s

theorem moveWindow_frame (a : GrantAsk) (x y : StationState) (s : State) :
    SameBut stationParts s (moveWindow a x y s) :=
  forEach_frame (fun i s => turnStation_frame i y true s) _ s

theorem enterWindow_frame (a : GrantAsk) (s : State) : SameBut stationParts s (enterWindow a s) :=
  (moveWindow_frame a _ _ s).trans ((serviceEntered_frame _ _).mono (by decide))

theorem allAbsent_frame (s : State) : SameBut stationParts s (allAbsent s) := by
  refine forEach_frame (fun i s => ?_) _ s
  split
  · exact .refl _ s
  · exact .refl _ s
  · exact moveStation_frame i _ s

theorem warmStations_frame (s : State) : SameBut [.fabric, .stations] s (warmStations s) :=
  forEach_frame (fun i s => .ite _
    (((setStation_frame i _ s).mono (by decide)).trans (emitOrder_frame i _ _)) (.refl _ s)) _ s

theorem configure_frame (i : Fin 32) (r : Role) (p : Fin 24) (n : Nat) (s : State) :
    SameBut ([.stations, .outputs, .streams, .fabric] ++ allLinks) s (configure i r p n s) := by
  unfold configure
  split
  · exact (((State.onStation_frame i _ s).mono (by decide)).trans ((postStation_frame _ i _).mono (by decide))).trans
      ((emitOrder_frame i _ _).mono (by decide))
  · split
    · exact ((State.onStation_frame i _ s).mono (by decide)).trans ((postStation_frame _ i _).mono (by decide))
    · have b : SameBut ([.stations, .outputs, .streams, .fabric] ++ allLinks) s
          (clearStationField i (some p) (emitOrder i (s.stateByLink p) (postConfigured i (s.onStation i fun x =>
            { x with
              conf := some { role := r, port := p, heads := n, state := s.stateByLink p }
              lastChange := some s.now })))) :=
        ((((State.onStation_frame i _ s).mono (by decide)).trans
          ((postStation_frame _ i _).mono (by decide))).trans ((emitOrder_frame i _ _).mono (by decide))).trans
          ((clearStationField_frame i _ _).mono (by decide))
      exact .ite _ (b.trans ((leaveNeeds_frame i _).mono (by decide))) b

theorem remove_frame (i : Fin 32) (s : State) :
    SameBut ([.stations, .outputs, .streams] ++ allLinks) s (remove i s) :=
  ((((postStation_frame _ i s).mono (by decide)).trans ((State.onStation_frame i _ _).mono (by decide))).trans
    ((clearStationField_frame i none _).mono (by decide))).trans ((leaveNeeds_frame i _).mono (by decide))

/-! ### Pacing and release -/

theorem accrueAll_frame (q : Fin 8) (s : State) : SameBut [.streams] s (accrueAll q s) := by
  intro p hp; cases p <;> first | rfl | exact absurd (by decide) hp

theorem linkChange_frame (p : Fin 24) (up : Bool) (s : State) :
    SameBut ([.ports] ++ stationParts) s (linkChange p up s) := by
  have a : SameBut ([.ports] ++ stationParts) s (portLinkChanged p up
      (postAt (noticePortLink p up) (some p) (s.onPort p fun x => { x with up := up }))) :=
    (((State.onPort_frame p _ s).mono (by decide)).trans ((postAt_frame _ _ _).mono (by decide))).trans
      ((portLinkChanged_frame p up _).mono (by decide))
  exact .ite _ a (a.trans ((portWentDown_frame p _).mono (by decide)))

theorem takePortState_frame (p : Fin 24) (u z w : Bool) (s : State) :
    SameBut ([.ports] ++ stationParts) s (takePortState p u z w s) := by
  have a : SameBut ([.ports] ++ stationParts) s
      ((if (s.ports.get p).up = u then s else linkChange p u s).onPort p fun x => { x with paused := z, high := w }) :=
    (SameBut.ite _ (.refl _ s) (linkChange_frame p u s)).trans ((State.onPort_frame p _ _).mono (by decide))
  exact .ite _ (a.trans ((watermarkHigh_frame p _).mono (by decide))) a

theorem releaseOne_frame (p : Fin 24) (t : Tier) (n : Nat) (i : Fin 128) (d : Descriptor) (s : State) :
    SameBut ([.ports, .streams, .store, .fabric] ++ allLinks) s (releaseOne p t n i d s) :=
  ((((((State.onStore_frame _ s).mono (by decide)).trans ((State.onStream_frame i _ _).mono (by decide))).trans
    ((drainCheck_frame i _).mono (by decide))).trans ((State.onStream_frame i _ _).mono (by decide))).trans
    ((handOver_frame _ _).mono (by decide))).trans ((State.onPort_frame p _ _).mono (by decide))

theorem handleSettled_frame (h : BitVec 16) (s : State) :
    SameBut ([.streams, .store] ++ allLinks) s (handleSettled h s) := by
  unfold handleSettled
  split
  · exact ((freeSlot_frame h s).mono (by decide)).trans ((drainCheck_frame _ _).mono (by decide))
  · exact .refl _ s

theorem takeSent_frame (h : BitVec 16) (w : Int) (s : State) :
    SameBut ([.ports, .streams, .store] ++ allLinks) s (takeSent h w s) := by
  unfold takeSent
  split
  · exact ((State.onPort_frame _ _ s).mono (by decide)).trans ((handleSettled_frame h _).mono (by decide))
  · exact (postAll_frame _ s).mono (by decide)

theorem chargeLost_frame (i : Fin 128) (s : State) :
    SameBut ([.streams, .storeDiscards] ++ allLinks) s (chargeLost i s) :=
  (((countStoreWide_frame .sentLost s).mono (by decide)).trans
    (SameBut.ite _ ((countStream_frame .sentLost i _).mono (by decide)) (.refl _ _))).trans
    ((postAt_frame _ _ _).mono (by decide))

theorem writeOff_frame (p : Fin 24) (e : Outstanding) (s : State) :
    SameBut ([.ports, .streams, .store, .storeDiscards] ++ allLinks) s (writeOff p e s) :=
  (((State.onPort_frame p _ s).mono (by decide)).trans ((handleSettled_frame _ _).mono (by decide))).trans
    ((chargeLost_frame _ _).mono (by decide))

theorem markPorts_frame (s : State) : SameBut ([.ports] ++ allLinks) s (markPorts s) := by
  refine forEach_frame (fun p s => ?_) _ s
  exact .ite _ (((State.onPort_frame p _ s).mono (by decide)).trans ((postAt_frame _ _ _).mono (by decide)))
    ((State.onPort_frame p _ s).mono (by decide))

/-! ### Grants -/

theorem withdraw_frame (a : GrantAsk) (s : State) : SameBut stationParts s (withdraw a s) := by
  have b : SameBut stationParts s (if a.level = .intervene then moveWindow a .service .held s else s) :=
    .ite _ (moveWindow_frame a _ _ s) (.refl _ s)
  exact .ite _ (b.trans ((closeEnded_frame a _).mono (by decide))) b

theorem endGrant_frame (k : Fin 4) (why : EndReason) (s : State) :
    SameBut ([.grants] ++ stationParts) s (endGrant k why s) := by
  have a : SameBut ([.grants] ++ stationParts) s (s.onSlot k (·.release why)) :=
    (State.onSlot_frame k _ s).mono (by decide)
  unfold endGrant
  dsimp only
  split
  · exact (a.trans ((withdraw_frame _ _).mono (by decide))).trans ((postAll_frame _ _).mono (by decide))
  · exact a.trans ((postAll_frame _ _).mono (by decide))

theorem takeAsk_frame (k : Fin 4) (a : GrantAsk) (s : State) :
    SameBut ([.grants] ++ allLinks) s (takeAsk k a s) := by
  have b : SameBut ([.grants] ++ allLinks) s
      { s with grants := { s.grants with nextNumber := s.grants.nextNumber + 1 } } := fun q hq => by
    cases q <;> first | rfl | exact absurd (by decide) hq
  unfold takeAsk
  dsimp only
  split
  · exact (b.trans ((State.onSlot_frame k _ _).mono (by decide))).trans ((postAll_frame _ _).mono (by decide))
  · exact (b.trans ((State.onSlot_frame k _ _).mono (by decide))).trans ((postAll_frame _ _).mono (by decide))

theorem concur_frame (k : Fin 4) (a : GrantAsk) (s : State) :
    SameBut ([.grants] ++ stationParts) s (concur k a s) := by
  have b : SameBut ([.grants] ++ stationParts) s (s.onSlot k (·.activate a s.now)) :=
    (State.onSlot_frame k _ s).mono (by decide)
  exact (b.trans (.ite _ ((enterWindow_frame a _).mono (by decide)) (.refl _ _))).trans
    ((postAll_frame _ _).mono (by decide))

/-! ### Track -/

theorem forceWindow_frame (e : Int) (s : State) : SameBut trackParts s (forceWindow e s) := by
  unfold forceWindow
  split
  · exact (State.onTrack_frame _ s).mono (by decide)
  · exact (((State.onTrack_frame _ s).mono (by decide)).trans ((holdBegins_frame _).mono (by decide))).trans
      ((postAll_frame _ _).mono (by decide))

theorem makeRecord_frame (i : Fin 32) (n : Nat) (r : FillResult) (t a : Int) (s : State) :
    SameBut ([.track] ++ allLinks) s (makeRecord i n r t a s) := by
  unfold makeRecord
  dsimp only
  exact .ite _ (((State.onTrack_frame _ s).mono (by decide)).trans ((postStation_frame _ i _).mono (by decide)))
    ((State.onTrack_frame _ s).mono (by decide))

theorem escapedFill_frame (i : Fin 32) (r : FillResult) (s : State) :
    SameBut ([.track] ++ allLinks) s (escapedFill i r s) :=
  .ite _ ((State.onTrack_frame _ s).mono (by decide))
    (((State.onTrack_frame _ s).mono (by decide)).trans ((postStation_frame _ i _).mono (by decide)))

theorem fullFill_frame (i : Fin 32) (r : FillResult) (t : Int) (s : State) :
    SameBut trackParts s (fullFill i r t s) :=
  .ite _ ((State.onTrack_frame _ s).mono (by decide))
    (((forceWindow_frame _ s).trans ((State.onTrack_frame _ _).mono (by decide))).trans
      ((postStation_frame _ i _).mono (by decide)))

theorem placeFill_frame (i : Fin 32) (n : Nat) (r : FillResult) (t a : Int) (s : State) :
    SameBut trackParts s (placeFill i n r t a s) :=
  .ite _ ((escapedFill_frame i r s).mono (by decide))
    (.ite _ (fullFill_frame i r t s) ((makeRecord_frame i n r t a s).mono (by decide)))

theorem clampFill_frame (t a : Int) (s : State) : SameBut [.track] s (clampFill t a s).2 := by
  unfold clampFill
  split
  · exact State.onTrack_frame _ s
  · exact .refl _ s

theorem takeFill_frame (i : Fin 32) (h r : Byte) (x : BitVec 48) (n : BitVec 32) (a : Int) (s : State) :
    SameBut trackParts s (takeFill i h r x n a s) := by
  unfold takeFill
  dsimp only
  split
  · exact .refl _ s
  · refine .ite _ ((postAll_frame _ s).mono (by decide)) (.ite _ ((postAll_frame _ s).mono (by decide)) ?_)
    split
    · exact .ite _ ((postAll_frame _ s).mono (by decide))
        (((clampFill_frame _ _ s).mono (by decide)).trans (placeFill_frame _ _ _ _ _ _))
    · exact (postAll_frame _ s).mono (by decide)

theorem setEntry_frame (q : BitVec 16) (i : Fin 4) (st : EntryState) (s : State) :
    SameBut [.track] s (setEntry q i st s) := State.onTrack_frame _ s

theorem depart_frame (r : TrackRecord) (rs : List TrackRecord) (s : State) :
    SameBut [.track, .outputs] s (depart r rs s) := by
  unfold depart
  dsimp only
  exact .ite _ (((State.onTrack_frame _ s).mono (by decide)).trans ((askGate_frame _).mono (by decide)))
    ((State.onTrack_frame _ s).mono (by decide))

theorem matchVerdict_frame (i : Fin 32) (k : Fin 4) (t : Int) (b : Bool) (d : Byte) (s : State) :
    SameBut ([.track] ++ allLinks) s (matchVerdict i k t b d s) := by
  unfold matchVerdict
  repeat' split
  all_goals first
    | exact (setEntry_frame _ _ _ s).mono (by decide)
    | exact (postStation_frame _ i s).mono (by decide)
    | exact ((setEntry_frame _ _ _ s).mono (by decide)).trans ((postStation_frame _ i _).mono (by decide))
    | exact .refl _ s

theorem takeVerdict_frame (i : Fin 32) (v d : Byte) (x : BitVec 48) (n : BitVec 32) (s : State) :
    SameBut ([.track] ++ allLinks) s (takeVerdict i v d x n s) := by
  unfold takeVerdict
  repeat' split
  all_goals first
    | exact (postAll_frame _ s).mono (by decide)
    | exact matchVerdict_frame _ _ _ _ _ s

/-! ### Time -/

theorem enterClock_frame (c : ClockState) (s : State) : SameBut [.time] s (enterClock c s) :=
  State.onTime_frame _ s

theorem postClock_frame (s : State) : SameBut allLinks s (postClock s) := postAll_frame _ s

theorem postSelected_frame (s : State) : SameBut allLinks s (postSelected s) := postAll_frame _ s

theorem changeClock_frame (c : ClockState) (s : State) : SameBut ([.time] ++ allLinks) s (changeClock c s) :=
  ((enterClock_frame c s).mono (by decide)).trans ((postClock_frame _).mono (by decide))

theorem reselect_frame (s : State) : SameBut ([.time] ++ allLinks) s (reselect s) := by
  unfold reselect
  dsimp only
  refine .ite _ (.refl _ s) (.ite _ ?_ (.ite _ ?_ ?_))
  · exact (((State.onTime_frame _ s).trans (State.onTime_frame _ _)).mono (by decide)).trans
      ((postSelected_frame _).mono (by decide))
  · exact ((((State.onTime_frame _ s).trans (enterClock_frame _ _)).mono (by decide)).trans
      ((postSelected_frame _).mono (by decide))).trans ((postClock_frame _).mono (by decide))
  · exact ((((State.onTime_frame _ s).trans (enterClock_frame _ _)).mono (by decide)).trans
      ((postClock_frame _).mono (by decide))).trans ((postSelected_frame _).mono (by decide))

theorem faultSource_frame (x : TimedSource) (s : State) : SameBut ([.time] ++ allLinks) s (faultSource x s) :=
  ((State.onTime_frame _ s).mono (by decide)).trans ((postAll_frame _ _).mono (by decide))

theorem shiftDeadlines_frame (d : Int) (s : State) :
    SameBut [.store, .track, .ports, .grants, .outputs] s (shiftDeadlines d s) := by
  intro p hp; cases p <;> first | rfl | exact absurd (by decide) hp

theorem stepTime_frame (x : TimedSource) (o : Int) (s : State) : SameBut stepParts s (stepTime x o s) := by
  unfold stepTime
  dsimp only
  exact (((State.onTime_frame _ s).mono (by decide)).trans ((shiftDeadlines_frame _ _).mono (by decide))).trans
    ((postAll_frame _ _).mono (by decide))

theorem lockStage_frame (o : Int) (s : State) : SameBut ([.time] ++ allLinks) s (lockStage o s) := by
  unfold lockStage
  dsimp only
  repeat' split
  all_goals first
    | exact changeClock_frame _ s
    | exact (State.onTime_frame _ s).mono (by decide)
    | exact .refl _ s

theorem recordOffset_frame (o : Int) (x : TimedSource) (t : Int) (s : State) :
    SameBut [.time] s (recordOffset o x t s) := State.onTime_frame _ s

theorem sample_frame (x : TimedSource) (o : Int) (n : Nat) (t : Int) (s : State) :
    SameBut stepParts s (sample x o n t s) := by
  unfold sample
  dsimp only
  exact .ite _ (((recordOffset_frame _ _ _ s).mono (by decide)).trans (stepTime_frame _ _ _))
    ((((recordOffset_frame _ _ _ s).mono (by decide)).trans ((State.onTime_frame _ _).mono (by decide))).trans
      ((lockStage_frame _ _).mono (by decide)))

theorem arrival_frame (x : TimedSource) (b : Bool) (d : Nat) (a : Stamp) (s : State) :
    SameBut ([.time] ++ allLinks) s (arrival x b d a s) := by
  unfold arrival
  dsimp only
  have h := (State.onTime_frame (·.onHealth x (·.arrive b s.time.config.q d a)) s).mono
    (qs := [.time] ++ allLinks) (by decide)
  exact (h.trans (.ite _ ((postAll_frame _ _).mono (by decide)) (.refl _ _))).trans (reselect_frame _)

theorem takeSync_frame (q : Byte) (x : BitVec 48) (n : BitVec 32) (b : Stamp) (s : State) :
    SameBut stepParts s (takeSync q x n b s) := by
  unfold takeSync
  dsimp only
  have a := ((State.onTime_frame (fun t => { t with lastSeq := some q }) s).mono (qs := stepParts) (by decide)).trans
    ((arrival_frame .grandmaster (s.time.syncOnTime q b.localTime) (3 * s.time.config.syncLocal) b _).mono (by decide))
  refine .ite _ ((postAll_frame _ s).mono (by decide)) (.ite _ ((postAll_frame _ s).mono (by decide)) (.ite _ ?_ a))
  exact a.trans (sample_frame _ _ _ _ _)

theorem samplePulse_frame (t : Int) (s : State) : SameBut stepParts s (samplePulse t s) := by
  unfold samplePulse
  dsimp only
  exact ((State.onTime_frame _ s).mono (by decide)).trans (sample_frame _ _ _ _ _)

theorem doWhen_frame {ps : List Part} (c : Prop) [Decidable c] {f : State → State}
    (hf : ∀ u, SameBut ps u (f u)) (s : State) : SameBut ps s (doWhen c f s) := .ite _ (hf s) (.refl _ s)

theorem newPort_frame (s : State) : SameBut ([.time] ++ allLinks) s (newPort s) := by
  unfold newPort
  dsimp only
  exact .ite _ (((State.onTime_frame _ s).mono (by decide)).trans (faultSource_frame _ _))
    ((State.onTime_frame _ s).mono (by decide))

theorem newInterval_frame (s : State) : SameBut ([.time] ++ allLinks) s (newInterval s) := by
  unfold newInterval
  dsimp only
  repeat' split
  all_goals first
    | exact faultSource_frame _ s
    | exact (State.onTime_frame _ s).mono (by decide)
    | exact .refl _ s

theorem newEdge_frame (s : State) : SameBut ([.time] ++ allLinks) s (newEdge s) :=
  (State.onTime_frame _ s).mono (by decide)

theorem newHoldover_frame (s : State) : SameBut ([.time] ++ allLinks) s (newHoldover s) := by
  unfold newHoldover
  dsimp only
  repeat' split
  all_goals first
    | exact changeClock_frame _ s
    | exact (State.onTime_frame _ s).mono (by decide)
    | exact .refl _ s

theorem configureTime_frame (c : TimeConfig) (s : State) :
    SameBut ([.time] ++ allLinks) s (configureTime c s) :=
  ((((((State.onTime_frame _ s).mono (by decide)).trans (doWhen_frame _ newPort_frame _)).trans
    (doWhen_frame _ newInterval_frame _)).trans (doWhen_frame _ newEdge_frame _)).trans
    (doWhen_frame _ newHoldover_frame _)).trans (reselect_frame _)

/-! ### Fabric -/

theorem malformed_frame (k : Byte) (w : MessageFault) (s : State) :
    SameBut ([.fabric] ++ allLinks) s (malformed k w s) :=
  ((State.onFabric_frame _ s).mono (by decide)).trans ((postAll_frame _ _).mono (by decide))

theorem rejectCell_frame (p : Fin 24) (w : MessageFault) (s : State) :
    SameBut ([.fabric] ++ allLinks) s (rejectCell p w s) :=
  ((State.onFabric_frame _ s).mono (by decide)).trans ((postAll_frame _ _).mono (by decide))

theorem fromStation_frame {ps : List Part} (p : Fin 24) (k : Byte) {own : Fin 32 → State → State}
    (h : ∀ i u, SameBut ps u (own i u)) (sub : ∀ x ∈ ([.fabric] ++ allLinks : List Part), x ∈ ps) (s : State) :
    SameBut ps s (fromStation p k own s) := by
  unfold fromStation
  split
  · exact h _ s
  · exact (rejectCell_frame p _ s).mono sub

/-- What a cell message may change. -/
def cellParts : List Part :=
  [.time, .streams, .store, .storeDiscards, .backoff, .ports, .track, .outputs, .outWindow, .grants, .fabric]
    ++ allLinks

theorem takeCell_frame (p : Fin 24) (k : Byte) (c : Cell) (b : Stamp) (s : State) :
    SameBut cellParts s (takeCell p k c b s) := by
  unfold takeCell
  split
  · exact (rejectCell_frame p _ s).mono (by decide)
  · exact (rejectCell_frame p _ s).mono (by decide)
  · exact .ite _ ((takeSync_frame _ _ _ _ s).mono (by decide)) ((rejectCell_frame p _ s).mono (by decide))
  · exact fromStation_frame p k (fun i u => (takeFill_frame i _ _ _ _ _ u).mono (by decide)) (by decide) s
  · exact fromStation_frame p k (fun i u => (takeVerdict_frame i _ _ _ _ u).mono (by decide)) (by decide) s
  · exact fromStation_frame p k (fun _ u => (takeBackoff_frame p _ _ u).mono (by decide)) (by decide) s
  · exact fromStation_frame p k (fun i u => (takeNeed_frame i _ _ u).mono (by decide)) (by decide) s

/-- What an inbound message may change. -/
def inboundParts : List Part := [.stations] ++ cellParts

theorem handOn_frame (m : Inbound) (s : State) : SameBut inboundParts s (handOn m s) := by
  unfold handOn
  split
  · exact (takeEnqueue_frame _ _ _ s).mono (by decide)
  · exact (takeSent_frame _ _ s).mono (by decide)
  · exact (takePortState_frame _ _ _ _ s).mono (by decide)
  · exact (takeCell_frame _ _ _ _ s).mono (by decide)

theorem takeInbound_frame (k : Byte) (m : Except Malformed Inbound) (s : State) :
    SameBut inboundParts s (takeInbound k m s) := by
  unfold takeInbound
  refine .ite _ (.refl _ s) ?_
  split
  · exact handOn_frame _ s
  · exact (malformed_frame _ _ s).mono (by decide)

theorem linkUp_frame (s : State) : SameBut ([.fabric] ++ allLinks) s (linkUp s) :=
  ((State.onFabric_frame _ s).mono (by decide)).trans ((postAll_frame _ _).mono (by decide))

theorem voidStore_frame (s : State) : SameBut [.store, .voids] s (voidStore s) := by
  intro p hp; cases p <;> first | rfl | exact absurd (by decide) hp

theorem drainAll_frame (s : State) : SameBut ([.streams] ++ allLinks) s (drainAll s) :=
  forEach_frame drainCheck_frame _ s

/-- What the loss of the link may change. -/
def lossParts : List Part := [.ports, .voids] ++ stationParts

theorem linkLost_frame (s : State) : SameBut lossParts s (linkLost s) :=
  ((((((State.onFabric_frame _ s).mono (by decide)).trans ((voidStore_frame _).mono (by decide))).trans
    ((drainAll_frame _).mono (by decide))).trans ((markPorts_frame _).mono (by decide))).trans
    ((allAbsent_frame _).mono (by decide))).trans ((postAll_frame _ _).mono (by decide))

/-! ### The warm reset -/

theorem warmFabric_frame (s : State) : SameBut [.fabric] s (warmFabric s) := State.onFabric_frame _ s

theorem warmStreams_frame (s : State) :
    SameBut [.streams, .store, .storeDiscards, .voids, .backoff] s (warmStreams s) := by
  intro p hp; cases p <;> first | rfl | exact absurd (by decide) hp

theorem warmPorts_frame (s : State) : SameBut [.ports] s (warmPorts s) := by
  intro p hp; cases p <;> first | rfl | exact absurd (by decide) hp

theorem warmTrack_frame (s : State) : SameBut [.track, .outputs, .outWindow] s (warmTrack s) := by
  intro p hp; cases p <;> first | rfl | exact absurd (by decide) hp

theorem warmGrants_frame (s : State) : SameBut [.grants] s (warmGrants s) := by
  intro p hp; cases p <;> first | rfl | exact absurd (by decide) hp

theorem idleSlots_frame (s : State) : SameBut allLinks s (idleSlots s) := by
  intro p hp
  cases p with
  | link l => cases l <;> exact absurd (by decide) hp
  | _ => rfl

theorem clearLinks_frame (s : State) : SameBut allLinks s (clearLinks s) := by
  intro p hp
  cases p with
  | link l => cases l <;> exact absurd (by decide) hp
  | _ => rfl

/-- What a warm reset may change: all but the Time Unit, the settings that it keeps, and the queue (R191). -/
def warmParts : List Part :=
  [.stations, .streams, .store, .storeDiscards, .voids, .backoff, .ports, .track, .outputs, .outWindow, .grants,
    .fabric] ++ allLinks

theorem warm_frame (n : Notice) (s : State) : SameBut warmParts s (warm n s) :=
  ((((((((warmFabric_frame s).mono (by decide)).trans ((warmStations_frame _).mono (by decide))).trans
    ((warmStreams_frame _).mono (by decide))).trans ((warmPorts_frame _).mono (by decide))).trans
    ((warmTrack_frame _).mono (by decide))).trans ((warmGrants_frame _).mono (by decide))).trans
    ((idleSlots_frame _).mono (by decide))).trans (((clearLinks_frame _).mono (by decide)).trans
    ((postAll_frame n _).mono (by decide)))

end Sys2Proof.Machine
end

