-- ==== Sys2Proof/Laws/Table.lean ====
section
/-! SUPPORT. Reading a table after it was changed. -/

namespace Sys2Proof

variable {α β : Type} {n : Nat}

/-- Two tables with the same records are the same. -/
theorem Tbl.ext_get {a b : Tbl α n} (h : ∀ i, a.get i = b.get i) : a = b := by
  obtain ⟨xs, hx⟩ := a
  obtain ⟨ys, hy⟩ := b
  have : xs = ys := by
    apply List.ext_getElem (hx.trans hy.symm)
    intro i h1 h2
    exact h ⟨i, hx ▸ h1⟩
  subst this
  rfl

@[simp] theorem Tbl.get_set_self (t : Tbl α n) (i : Fin n) (a : α) : (t.set i a).get i = a := by
  simp [Tbl.get, Tbl.set]

theorem Tbl.get_set_of_ne (t : Tbl α n) {i j : Fin n} (a : α) (h : j ≠ i) : (t.set i a).get j = t.get j := by
  have : i.1 ≠ j.1 := fun e => h (Fin.ext e.symm)
  simp [Tbl.get, Tbl.set, this]

theorem Tbl.get_set (t : Tbl α n) (i j : Fin n) (a : α) : (t.set i a).get j = if j = i then a else t.get j := by
  by_cases h : j = i
  · subst h; simp
  · simp [h, Tbl.get_set_of_ne]

theorem Tbl.get_upd (t : Tbl α n) (i j : Fin n) (f : α → α) :
    (t.upd i f).get j = if j = i then f (t.get i) else t.get j := by
  rw [Tbl.upd, Tbl.get_set]

@[simp] theorem Tbl.get_upd_self (t : Tbl α n) (i : Fin n) (f : α → α) : (t.upd i f).get i = f (t.get i) := by
  simp [Tbl.upd]

theorem Tbl.get_upd_of_ne (t : Tbl α n) {i j : Fin n} (f : α → α) (h : j ≠ i) : (t.upd i f).get j = t.get j :=
  Tbl.get_set_of_ne t _ h

@[simp] theorem Tbl.get_map (t : Tbl α n) (f : α → β) (i : Fin n) : (t.map f).get i = f (t.get i) := by
  simp [Tbl.get, Tbl.map]

@[simp] theorem Tbl.get_fill (a : α) (i : Fin n) : (Tbl.fill n a).get i = a := by
  simp [Tbl.get, Tbl.fill]

/-- A table changed at record `i` by a function that keeps the record is unchanged. -/
theorem Tbl.upd_eq_self (t : Tbl α n) (i : Fin n) (f : α → α) (h : f (t.get i) = t.get i) : t.upd i f = t := by
  apply Tbl.ext_get
  intro j
  rw [Tbl.get_upd]
  split
  · next e => rw [e, h]
  · rfl

/-- The records of a table are its list. -/
theorem Tbl.mem_xs (t : Tbl α n) (a : α) : a ∈ t.xs ↔ ∃ i, t.get i = a := by
  constructor
  · intro h
    obtain ⟨i, hi, e⟩ := List.getElem_of_mem h
    exact ⟨⟨i, t.len ▸ hi⟩, e⟩
  · rintro ⟨i, rfl⟩
    exact List.getElem_mem _

/-- A property of some record, on the list and by number. -/
theorem Tbl.any_xs (t : Tbl α n) (f : α → Bool) : t.xs.any f = true ↔ ∃ i, f (t.get i) = true := by
  rw [List.any_eq_true]
  constructor
  · rintro ⟨a, ha, hf⟩
    obtain ⟨i, rfl⟩ := (t.mem_xs a).1 ha
    exact ⟨i, hf⟩
  · rintro ⟨i, hf⟩
    exact ⟨_, (t.mem_xs _).2 ⟨i, rfl⟩, hf⟩

/-- A property of some number. -/
theorem any_numbers (f : Fin n → Bool) : (numbers n).any f = true ↔ ∃ i, f i = true := by
  simp [numbers, List.any_eq_true, List.mem_finRange]

end Sys2Proof
end

