-- ==== Sys2Proof/Laws/Requests.lean ====
section
/-! SUPPORT. What a request does beside its owner: the reply slot, and the notices on the links. -/

namespace Sys2Proof.Machine

-- One proof after the other: each waiting thread would hold its own stack.
set_option Elab.async false

/-! ### Notices heard -/

theorem Hears.nil (mt : Int) (s : State) : Hears [] mt s s := fun _ => rfl

theorem Hears.trans {ns ms : List Heard} {mt : Int} {s t u : State} (h : Hears ns mt s t) (k : Hears ms mt t u) :
    Hears (ns ++ ms) mt s u := by
  intro m
  rw [k m, h m]
  simp [hear, List.foldl_append]

/-- Links that do not change hear nothing. -/
theorem Hears.of_same {mt : Int} {s t : State} (h : ∀ m, t.link m = s.link m) : Hears [] mt s t := h

/-- A frame without links. -/
theorem SameBut.hears {ps : List Part} {s t : State} (h : SameBut ps s t) (mt : Int)
    (hp : ∀ l, Part.link l ∉ ps := by decide) : Hears [] mt s t := fun m => h (.link m) (hp m)

theorem post_hears (n : Notice) (b : Bool) (s : State) : Hears [⟨n, b⟩] s.now s (post n b s) := by
  intro m
  cases m <;> cases b <;> rfl

theorem postAll_hears (n : Notice) (s : State) : Hears [toAll n] s.now s (postAll n s) := post_hears n true s

theorem postAt_hears (n : Notice) (p : Option (Fin 24)) (s : State) :
    Hears [byPort s p n] s.now s (postAt n p s) := post_hears n _ s

theorem postStation_hears (n : Notice) (i : Fin 32) (s : State) :
    Hears [byPort s (s.stationPort i) n] s.now s (postStation n i s) := post_hears n _ s

/-- Delivery leaves the slot, OVERRUN and the data output as they are. -/
theorem hear_answered (ns : List Heard) (mt : Int) (m : Link) (k : LinkRec) (x : Slot) (o : Bool) (d : List Byte) :
    hear ns mt m { k with slot := x, overrun := o, spiOut := d } =
      { hear ns mt m k with slot := x, overrun := o, spiOut := d } := by
  induction ns generalizing k with
  | nil => rfl
  | cons n ns ih =>
    simp only [hear, List.foldl_cons] at *
    split
    · exact ih (deliver n.notice mt k)
    · exact ih k

theorem hear_slot (ns : List Heard) (mt : Int) (m : Link) (k : LinkRec) : (hear ns mt m k).slot = k.slot := by
  induction ns generalizing k with
  | nil => rfl
  | cons n ns ih =>
    simp only [hear, List.foldl_cons] at *
    split
    · exact ih (deliver n.notice mt k)
    · exact ih k

/-! ### The request in the slot -/

/-- The state in which the owner takes request `r` of link `l`. -/
def held (l : Link) (tag : Byte) (r : Request) (s : State) : State :=
  (beginWrite l ((requestBody r).length + 5) s).setSlot l (.workingHeld r tag)

theorem held_frame (l : Link) (tag : Byte) (r : Request) (s : State) : SameBut [.link l] s (held l tag r s) :=
  (beginWrite_frame l _ s).trans (State.setSlot_frame l _ _)

theorem held_link_self (l : Link) (tag : Byte) (r : Request) (s : State) :
    (held l tag r s).link l =
      { s.link l with
        slot := .workingHeld r tag, overrun := (s.link l).overrun || !((s.link l).slot == .idle)
        spiOut := List.replicate ((requestBody r).length + 5) 0 } := by
  cases l <;> rfl

theorem held_link_of_ne {l m : Link} (h : m ≠ l) (tag : Byte) (r : Request) (s : State) :
    (held l tag r s).link m = s.link m := held_frame l tag r s (.link m) (by simpa using h)

@[simp] theorem held_now (l : Link) (tag : Byte) (r : Request) (s : State) : (held l tag r s).now = s.now := by
  cases l <;> rfl

/-- A request that is taken, and that is not placed within itself, waits with its owner's answer. -/
theorem request_taken {l : Link} {tag : Byte} {r : Request} {own : State → Answer} {s : State} (h : Taken l r s)
    (hp : placedAtOnce r = false) :
    request l tag r own s =
      (own (held l tag r s)).state.setSlot l (.workingAnswered
        { code := requestCode r, tag := tag, status := (own (held l tag r s)).status
          body := (own (held l tag r s)).body }) := by
  obtain ⟨h1, h2⟩ := h
  simp [request, h1, h2, ownerTakes, hp, held]

/-- A request that is taken is answered as its owner answers, and its links hear what the owner posts. -/
theorem request_replied {l : Link} {tag : Byte} {r : Request} {own : State → Answer} {s : State} {st : Status}
    {body : List Byte} {ns : List Heard} (h : Taken l r s) (hp : placedAtOnce r = false)
    (hs : (own (held l tag r s)).status = st) (hb : (own (held l tag r s)).body = body)
    (hl : Hears ns s.now (held l tag r s) (own (held l tag r s)).state) :
    Replied l tag r st body ns s (request l tag r own s) := by
  intro m
  rw [request_taken h hp]
  split
  · next e =>
    subst e
    rw [State.setSlot, State.link_onLink_self, hl, held_link_self, hear_answered, hs, hb]
    rfl
  · next e =>
    rw [State.setSlot, State.link_onLink_of_ne e, hl, held_link_of_ne e]

/-- The frame of a request that is taken is its owner's, with its own link. -/
theorem request_sameBut {l : Link} {tag : Byte} {r : Request} {own : State → Answer} {s : State} {ps : List Part}
    (h : Taken l r s) (hp : placedAtOnce r = false) (hl : Part.link l ∈ ps)
    (ho : SameBut ps (held l tag r s) (own (held l tag r s)).state) : SameBut ps s (request l tag r own s) := by
  rw [request_taken h hp]
  exact (((held_frame l tag r s).mono (by simpa using hl)).trans ho).trans
    ((State.setSlot_frame l _ _).mono (by simpa using hl))

/-- A request that is not taken in WORKING only sets OVERRUN (R177). -/
theorem request_working {l : Link} {tag : Byte} {r : Request} {own : State → Answer} {s : State}
    (h : (s.link l).slot.working = true) :
    request l tag r own s = beginWrite l ((requestBody r).length + 5) s := by
  simp [request, h]

/-- A request whose link the rights table does not allow is answered with REFUSED-RIGHTS (R180). -/
theorem request_refused {l : Link} {tag : Byte} {r : Request} {own : State → Answer} {s : State}
    (h : (s.link l).slot.working = false) (ha : allowed l r = false) :
    request l tag r own s =
      (beginWrite l ((requestBody r).length + 5) s).setSlot l
        (.workingAnswered { code := requestCode r, tag := tag, status := .refusedRights, body := [] }) := by
  simp [request, h, ha]

end Sys2Proof.Machine
end

