-- ==== Sys2Proof/Laws/Owners.lean ====
section
/-! SUPPORT. What every owner keeps to: it leaves the queue, and a refusal changes nothing. -/

namespace Sys2Proof.Machine

-- One proof after the other: each waiting thread would hold its own stack.
set_option Elab.async false

/-- Every part but the queue of commands. -/
def everyPart : List Part :=
  [.time, .stations, .streams, .store, .storeDiscards, .voids, .backoff, .queues, .ports, .points, .gate, .track,
    .outputs, .outWindow, .grants, .fabric] ++ allLinks

theorem mem_everyPart (p : Part) (h : p ≠ .pending) : p ∈ everyPart := by
  cases p with
  | link l => cases l <;> decide
  | pending => exact absurd rfl h
  | _ => decide

/-- A frame that leaves the queue. -/
theorem SameBut.every {ps : List Part} {s t : State} (h : SameBut ps s t) (hp : Part.pending ∉ ps := by decide) :
    SameBut everyPart s t := h.mono fun p hm => mem_everyPart p fun e => hp (e ▸ hm)

/-- An answer leaves the queue, and changes nothing and has no body unless it is DONE (section 4.6). -/
def Sound (s : State) (a : Answer) : Prop :=
  SameBut everyPart s a.state ∧ (a.status ≠ .done → a.state = s ∧ a.body = [])

theorem Sound.refuse (why : Status) (s : State) : Sound s (refuse why s) := ⟨.refl _ s, fun _ => ⟨rfl, rfl⟩⟩

theorem Sound.done {s t : State} (body : List Byte) (h : SameBut everyPart s t) : Sound s (done body t) :=
  ⟨h, fun n => absurd rfl n⟩

theorem Sound.report (body : List Byte) (s : State) : Sound s (Machine.done body s) := .done body (.refl _ s)

theorem Sound.ite {s : State} {a b : Answer} (c : Prop) [Decidable c] (h : Sound s a) (k : Sound s b) :
    Sound s (if c then a else b) := by split <;> assumption

/-! ### The Time Unit -/

theorem ownTimeConfig_sound (a b c : Byte) (t : BitVec 16) (pd ud : BitVec 32) (kp ki : Byte) (st : BitVec 16)
    (lk : BitVec 32) (q : Byte) (h : BitVec 32) (g e : Byte) (s : State) :
    Sound s (ownTimeConfig a b c t pd ud kp ki st lk q h g e s) := by
  unfold ownTimeConfig
  split
  · exact .done _ (configureTime_frame _ s).every
  · exact .refuse _ s

theorem ownTimePulseSet_sound (op : Byte) (x : BitVec 48) (s : State) : Sound s (ownTimePulseSet op x s) := by
  unfold ownTimePulseSet
  repeat' split
  all_goals first | exact .done _ (State.onTime_frame _ s).every | exact .refuse _ s

theorem ownTimeStepLock_sound (v : Byte) (s : State) : Sound s (ownTimeStepLock v s) := by
  unfold ownTimeStepLock
  split
  · exact .done _ (State.onTime_frame _ s).every
  · exact .refuse _ s

theorem ownTimeFaultClear_sound (v : Byte) (s : State) : Sound s (ownTimeFaultClear v s) := by
  unfold ownTimeFaultClear
  dsimp only
  split
  · exact .done _ (State.onTime_frame _ s).every
  · exact .refuse _ s

theorem ownTimeReport_sound (v : Byte) (s : State) : Sound s (ownTimeReport v s) := by
  unfold ownTimeReport
  repeat' split
  all_goals first | exact .report _ s | exact .refuse _ s

/-! ### Stations -/

theorem ownStationSet_sound (a b c d : Byte) (s : State) : Sound s (ownStationSet a b c d s) := by
  unfold ownStationSet
  repeat' split
  all_goals first | exact .refuse _ s | exact .done _ (configure_frame _ _ _ _ s).every

theorem ownStationRemove_sound (a : Byte) (s : State) : Sound s (ownStationRemove a s) := by
  unfold ownStationRemove
  repeat' split
  all_goals first | exact .refuse _ s | exact .done _ (remove_frame _ s).every

theorem ownStationRun_sound (a : Byte) (s : State) : Sound s (ownStationRun a s) := by
  unfold ownStationRun
  repeat' split
  all_goals first | exact .refuse _ s | exact .done _ (moveStation_frame _ _ s).every

theorem ownStationHold_sound (a : Byte) (s : State) : Sound s (ownStationHold a s) := by
  unfold ownStationHold
  repeat' split
  all_goals first | exact .refuse _ s | exact .done _ (moveStation_frame _ _ s).every

theorem ownStationReport_sound (l : Link) (a b : Byte) (s : State) : Sound s (ownStationReport l a b s) := by
  unfold ownStationReport
  dsimp only
  repeat' split
  all_goals first | exact .refuse _ s | exact .report _ s

/-! ### Streams -/

theorem ownStreamOpen_sound (l : Link) (a b c d e f g : Byte) (x : BitVec 32) (r w : Byte) (s : State) :
    Sound s (ownStreamOpen l a b c d e f g x r w s) := by
  unfold ownStreamOpen
  split
  · exact .ite _ (.refuse _ s) (.ite _ (.refuse _ s) (.ite _ (.refuse _ s)
      (.done _ (State.onStream_frame _ _ s).every)))
  · exact .refuse _ s

theorem ownStreamClose_sound (l : Link) (a b : Byte) (s : State) : Sound s (ownStreamClose l a b s) := by
  unfold ownStreamClose
  dsimp only
  repeat' split
  all_goals first
    | exact .refuse _ s
    | exact .done _ (closeFlush_frame _ _ s).every
    | exact .done _ (closeDrain_frame _ _ s).every

theorem ownStreamAdjust_sound (l : Link) (a b c d e : Byte) (x : BitVec 32) (s : State) :
    Sound s (ownStreamAdjust l a b c d e x s) := by
  unfold ownStreamAdjust
  dsimp only
  repeat' split
  all_goals first
    | exact .refuse _ s
    | exact .done _ ((State.onStream_frame _ _ s).every.trans (discardList_frame _ _ _).every)

theorem reportStream_sound (l : Link) (b : Byte) (s : State) : Sound s (reportStream l b s) := by
  unfold reportStream
  split
  · exact .ite _ (.refuse _ s) (.report _ s)
  · exact .refuse _ s

theorem reportStation_sound (l : Link) (b : Byte) (s : State) : Sound s (reportStation l b s) := by
  unfold reportStation
  split
  · exact .ite _ (.refuse _ s) (.report _ s)
  · exact .refuse _ s

theorem ownStreamReport_sound (l : Link) (a b : Byte) (s : State) : Sound s (ownStreamReport l a b s) := by
  unfold ownStreamReport
  exact .ite _ (reportStream_sound l b s) (.ite _ (reportStation_sound l b s)
    (.ite _ (.ite _ (.refuse _ s) (.report _ s)) (.refuse _ s)))

/-! ### Pacing and ports -/

theorem ownQueueSet_sound (a b : Byte) (x : BitVec 32) (c : Byte) (s : State) : Sound s (ownQueueSet a b x c s) := by
  unfold ownQueueSet
  split
  · exact .done _ (State.onQueue_frame _ _ s).every
  · exact .refuse _ s

theorem ownQueueReport_sound (a : Byte) (s : State) : Sound s (ownQueueReport a s) := by
  unfold ownQueueReport
  split
  · exact .report _ s
  · exact .refuse _ s

theorem ownBackoffMatch_sound (a b : Byte) (s : State) : Sound s (ownBackoffMatch a b s) := by
  unfold ownBackoffMatch
  split
  · exact .refuse _ s
  · refine .done _ (SameBut.every (ps := [.backoff]) fun p hp => ?_)
    cases p <;> first | rfl | exact absurd (by decide) hp

theorem ownPortSet_sound (a b : Byte) (s : State) : Sound s (ownPortSet a b s) := by
  unfold ownPortSet
  split
  · exact .done _ (State.onPort_frame _ _ s).every
  · exact .refuse _ s

theorem ownPortReport_sound (a : Byte) (s : State) : Sound s (ownPortReport a s) := by
  unfold ownPortReport
  split
  · exact .report _ s
  · exact .refuse _ s

/-! ### The track -/

theorem ownPointSet_sound (a b c d e : Byte) (t h v : BitVec 32) (s : State) :
    Sound s (ownPointSet a b c d e t h v s) := by
  unfold ownPointSet
  repeat' split
  all_goals first
    | exact .refuse _ s
    | (refine .done _ (SameBut.every (ps := [.points]) fun p hp => ?_)
       cases p <;> first | rfl | exact absurd (by decide) hp)

theorem ownGateSet_sound (a : Byte) (d h w : BitVec 32) (s : State) : Sound s (ownGateSet a d h w s) := by
  unfold ownGateSet
  repeat' split
  all_goals first
    | exact .refuse _ s
    | (refine .done _ (SameBut.every (ps := [.gate]) fun p hp => ?_)
       cases p <;> first | rfl | exact absurd (by decide) hp)

theorem ownTrackReport_sound (l : Link) (a : Byte) (s : State) : Sound s (ownTrackReport l a s) := by
  unfold ownTrackReport
  repeat' split
  all_goals first | exact .refuse _ s | exact .report _ s | exact .done _ (State.onTrack_frame _ s).every

theorem ownTrackList_sound (a : Byte) (s : State) : Sound s (ownTrackList a s) := .report _ s

/-! ### Outputs -/

theorem ownOutputSet_sound (a b c : Byte) (w : BitVec 32) (p e r : Byte) (s : State) :
    Sound s (ownOutputSet a b c w p e r s) := by
  unfold ownOutputSet
  repeat' split
  all_goals first | exact .refuse _ s | exact .done _ (State.onOutput_frame _ _ s).every

theorem ownOutputReport_sound (a : Byte) (s : State) : Sound s (ownOutputReport a s) := by
  unfold ownOutputReport
  split
  · exact .report _ s
  · exact .refuse _ s

/-! ### Grants -/

theorem ownGrantAsk_sound (a b c : Byte) (x : BitVec 16) (s : State) : Sound s (ownGrantAsk a b c x s) := by
  unfold ownGrantAsk
  repeat' split
  all_goals first | exact .refuse _ s | exact .done _ (takeAsk_frame _ _ s).every

theorem ownGrantConcur_sound (a : Byte) (n : BitVec 16) (s : State) : Sound s (ownGrantConcur a n s) := by
  unfold ownGrantConcur
  dsimp only
  repeat' split
  all_goals first | exact .refuse _ s | exact .done _ (concur_frame _ _ s).every

theorem ownGrantDecline_sound (a : Byte) (n : BitVec 16) (s : State) : Sound s (ownGrantDecline a n s) := by
  unfold ownGrantDecline
  repeat' split
  all_goals first | exact .refuse _ s | exact .done _ (endGrant_frame _ _ s).every

theorem ownGrantExtend_sound (a : Byte) (n x : BitVec 16) (s : State) : Sound s (ownGrantExtend a n x s) := by
  unfold ownGrantExtend
  dsimp only
  repeat' split
  all_goals first
    | exact .refuse _ s
    | exact .done _ (State.onSlot_frame _ _ s).every
    | exact .done _ ((State.onSlot_frame _ _ s).every.trans (postAll_frame _ _).every)

theorem ownGrantRelease_sound (a : Byte) (n : BitVec 16) (s : State) : Sound s (ownGrantRelease a n s) := by
  unfold ownGrantRelease
  repeat' split
  all_goals first | exact .refuse _ s | exact .done _ (endGrant_frame _ _ s).every

theorem ownGrantRevoke_sound (a : Byte) (n : BitVec 16) (s : State) : Sound s (ownGrantRevoke a n s) := by
  unfold ownGrantRevoke
  repeat' split
  all_goals first | exact .refuse _ s | exact .done _ (endGrant_frame _ _ s).every

theorem ownGrantPolicy_sound (x : BitVec 16) (s : State) : Sound s (ownGrantPolicy x s) := by
  unfold ownGrantPolicy
  split
  · refine .done _ (SameBut.every (ps := [.grants]) fun p hp => ?_)
    cases p <;> first | rfl | exact absurd (by decide) hp
  · exact .refuse _ s

/-! ### Links -/

theorem ownNoticeTake_sound (l : Link) (s : State) : Sound s (ownNoticeTake l s) := by
  unfold ownNoticeTake
  dsimp only
  repeat' split
  all_goals first
    | exact .done _ ((State.onLink_frame l _ s).every (by cases l <;> decide))
    | exact .report _ s

theorem ownNoticeClear_sound (l : Link) (s : State) : Sound s (ownNoticeClear l s) :=
  .done _ ((State.onLink_frame l _ s).every (by cases l <;> decide))

theorem ownNoticeMask_sound (l : Link) (m : BitVec 16) (s : State) : Sound s (ownNoticeMask l m s) :=
  .done _ ((State.onLink_frame l _ s).every (by cases l <;> decide))

theorem ownLinkReset_sound (l : Link) (s : State) : Sound s (ownLinkReset l s) :=
  .done _ ((State.onLink_frame l _ s).every (by cases l <;> decide))

theorem ownPartReset_sound (l : Link) (s : State) : Sound s (ownPartReset l s) := .done _ (warm_frame _ s).every

/-- Every owner is sound. -/
theorem owner_sound (r : Request) (l : Link) (s : State) : Sound s (owner r l s) := by
  cases r with
  | timeConfig => exact ownTimeConfig_sound ..
  | timePulseSet => exact ownTimePulseSet_sound ..
  | timeStepLock => exact ownTimeStepLock_sound ..
  | timeFaultClear => exact ownTimeFaultClear_sound ..
  | timeReport => exact ownTimeReport_sound ..
  | stationSet => exact ownStationSet_sound ..
  | stationRemove => exact ownStationRemove_sound ..
  | stationRun => exact ownStationRun_sound ..
  | stationHold => exact ownStationHold_sound ..
  | stationReport => exact ownStationReport_sound ..
  | streamOpen => exact ownStreamOpen_sound ..
  | streamClose => exact ownStreamClose_sound ..
  | streamAdjust => exact ownStreamAdjust_sound ..
  | streamReport => exact ownStreamReport_sound ..
  | queueSet => exact ownQueueSet_sound ..
  | queueReport => exact ownQueueReport_sound ..
  | backoffMatch => exact ownBackoffMatch_sound ..
  | portSet => exact ownPortSet_sound ..
  | portReport => exact ownPortReport_sound ..
  | pointSet => exact ownPointSet_sound ..
  | gateSet => exact ownGateSet_sound ..
  | trackReport => exact ownTrackReport_sound ..
  | trackList => exact ownTrackList_sound ..
  | outputSet => exact ownOutputSet_sound ..
  | outputReport => exact ownOutputReport_sound ..
  | grantAsk => exact ownGrantAsk_sound ..
  | grantConcur => exact ownGrantConcur_sound ..
  | grantDecline => exact ownGrantDecline_sound ..
  | grantExtend => exact ownGrantExtend_sound ..
  | grantRelease => exact ownGrantRelease_sound ..
  | grantRevoke => exact ownGrantRevoke_sound ..
  | grantPolicy => exact ownGrantPolicy_sound ..
  | grantReport => exact .report _ s
  | fabricReport => exact .report _ s
  | noticeTake => exact ownNoticeTake_sound ..
  | noticeClear => exact ownNoticeClear_sound ..
  | noticeMask => exact ownNoticeMask_sound ..
  | linkReset => exact ownLinkReset_sound ..
  | partInfo => exact .report _ s
  | partReset => exact ownPartReset_sound ..

/-- A request leaves the queue. -/
theorem request_frame (l : Link) (tag : Byte) (r : Request) (own : State → Answer) (s : State)
    (h : ∀ u, SameBut everyPart u (own u).state) : SameBut everyPart s (request l tag r own s) := by
  have hb := (beginWrite_frame l ((requestBody r).length + 5) s).every (by cases l <;> decide)
  unfold request
  dsimp only
  refine .ite _ hb (.ite _ ?_ ?_)
  · exact ((hb.trans ((State.setSlot_frame l _ _).every (by cases l <;> decide))).trans (h _)).trans
      ((State.setSlot_frame l _ _).every (by cases l <;> decide))
  · exact hb.trans ((State.setSlot_frame l _ _).every (by cases l <;> decide))

end Sys2Proof.Machine
end

