-- ==== Sys2Proof/Laws/Exec.lean ====
section
/-! SUPPORT. The commands that are requests, as one. -/

namespace Sys2Proof.Machine

/-- A command that is a request is that request, taken by its owner. -/
theorem exec_request {c : Instr} {l : Link} {tag : Byte} {r : Request} (h : c.asRequest = some (l, tag, r))
    (s : State) : exec c s = .next (request l tag r (owner r l) s) := by
  cases c <;> simp only [Instr.asRequest, reduceCtorEq, Option.some.injEq, Prod.mk.injEq] at h <;>
    obtain ⟨rfl, rfl, rfl⟩ := h <;> rfl

end Sys2Proof.Machine
end

