-- ==== Sys2Proof/Laws/PerInstr.lean ====
section
/-! SUPPORT. The family of statements made command by command: the request of a command has the code, the length and
the fields of section 11.3. -/

namespace Sys2Proof.Laws

-- One proof after the other: each waiting thread would hold its own stack.
set_option Elab.async false

open Sys2Proof.Machine

/-- Section 11.3: a request's code names a form of the length of its body, and the body, read by that form, is the
request. -/
theorem form_of_body (r : Request) :
    ∃ f, requestForm (requestCode r) = some ((requestBody r).length, f) ∧ f (requestBody r) = r := by
  cases r <;> refine ⟨_, rfl, ?_⟩
  case timePulseSet op second =>
    rw [show requestBody (.timePulseSet op second) = op :: be 6 second.toNat from rfl, be_six]
    exact congrArg (Request.timePulseSet op) (append_six second)
  all_goals
    simp only [requestBody, field, be_two, be_four, List.cons_append, List.nil_append, u8, u16, u32,
      List.getD_cons_succ, List.getD_cons_zero, append_two, append_four]

namespace requestOf

/-- The request that the command is, if it is one, has its form. -/
def Statement (i : Instr) : Prop :=
  ∀ l tag r, i.asRequest = some (l, tag, r) →
    ∃ f, requestForm (requestCode r) = some ((requestBody r).length, f) ∧ f (requestBody r) = r

theorem statement_of (i : Instr) : Statement i := fun _ _ r _ => form_of_body r

theorem powerOnReset : Statement .powerOnReset :=
  statement_of _

theorem warmReset : Statement .warmReset :=
  statement_of _

theorem mtAdvance : Statement .mtAdvance :=
  statement_of _

theorem pulseEdge (edge : PulseEdge) (occurred : Option Stamp) : Statement (.pulseEdge edge occurred) :=
  statement_of _

theorem write (l : Link) (bytes : List Byte) : Statement (.write l bytes) :=
  statement_of _

theorem read (l : Link) (mosi : List Byte) : Statement (.read l mosi) :=
  statement_of _

theorem replyPlaced (l : Link) : Statement (.replyPlaced l) :=
  statement_of _

theorem timeConfig (l : Link) (tag prio0 prio1 prio2 : Byte) (syncMs : BitVec 16) (pathDelay pulseDelay : BitVec 32) (kp ki : Byte) (stepUs : BitVec 16) (lockNs : BitVec 32) (q : Byte) (holdoverS : BitVec 32) (gmPort edge : Byte) :
    Statement (.timeConfig l tag prio0 prio1 prio2 syncMs pathDelay pulseDelay kp ki stepUs lockNs q holdoverS gmPort edge) :=
  statement_of _

theorem timePulseSet (l : Link) (tag op : Byte) (second : BitVec 48) : Statement (.timePulseSet l tag op second) :=
  statement_of _

theorem timeStepLock (l : Link) (tag setting : Byte) : Statement (.timeStepLock l tag setting) :=
  statement_of _

theorem timeFaultClear (l : Link) (tag sources : Byte) : Statement (.timeFaultClear l tag sources) :=
  statement_of _

theorem timeReport (l : Link) (tag page : Byte) : Statement (.timeReport l tag page) :=
  statement_of _

theorem stationSet (l : Link) (tag station role port heads : Byte) :
    Statement (.stationSet l tag station role port heads) :=
  statement_of _

theorem stationRemove (l : Link) (tag station : Byte) : Statement (.stationRemove l tag station) :=
  statement_of _

theorem stationRun (l : Link) (tag station : Byte) : Statement (.stationRun l tag station) :=
  statement_of _

theorem stationHold (l : Link) (tag station : Byte) : Statement (.stationHold l tag station) :=
  statement_of _

theorem stationReport (l : Link) (tag first count : Byte) : Statement (.stationReport l tag first count) :=
  statement_of _

theorem streamOpen (l : Link) (tag stream cls port station queue quota cap : Byte) (staleUs : BitVec 32) (recovery wireHold : Byte) :
    Statement (.streamOpen l tag stream cls port station queue quota cap staleUs recovery wireHold) :=
  statement_of _

theorem streamClose (l : Link) (tag stream flush : Byte) : Statement (.streamClose l tag stream flush) :=
  statement_of _

theorem streamAdjust (l : Link) (tag stream quota cap queue recovery : Byte) (staleUs : BitVec 32) :
    Statement (.streamAdjust l tag stream quota cap queue recovery staleUs) :=
  statement_of _

theorem streamReport (l : Link) (tag selector number : Byte) : Statement (.streamReport l tag selector number) :=
  statement_of _

theorem queueSet (l : Link) (tag queue enabled : Byte) (periodUs : BitVec 32) (pauseAware : Byte) :
    Statement (.queueSet l tag queue enabled periodUs pauseAware) :=
  statement_of _

theorem queueReport (l : Link) (tag queue : Byte) : Statement (.queueReport l tag queue) :=
  statement_of _

theorem backoffMatch (l : Link) (tag mask compare : Byte) : Statement (.backoffMatch l tag mask compare) :=
  statement_of _

theorem portSet (l : Link) (tag port share : Byte) : Statement (.portSet l tag port share) :=
  statement_of _

theorem portReport (l : Link) (tag port : Byte) : Statement (.portReport l tag port) :=
  statement_of _

theorem pointSet (l : Link) (tag point enabled required camera output : Byte) (travelUs halfWindowUs allowanceUs : BitVec 32) :
    Statement (.pointSet l tag point enabled required camera output travelUs halfWindowUs allowanceUs) :=
  statement_of _

theorem gateSet (l : Link) (tag output : Byte) (delayUs halfWindowUs widthUs : BitVec 32) :
    Statement (.gateSet l tag output delayUs halfWindowUs widthUs) :=
  statement_of _

theorem trackReport (l : Link) (tag zero : Byte) : Statement (.trackReport l tag zero) :=
  statement_of _

theorem trackList (l : Link) (tag start : Byte) : Statement (.trackList l tag start) :=
  statement_of _

theorem outputSet (l : Link) (tag output mode level : Byte) (widthUs : BitVec 32) (period enable runAlways : Byte) :
    Statement (.outputSet l tag output mode level widthUs period enable runAlways) :=
  statement_of _

theorem outputReport (l : Link) (tag output : Byte) : Statement (.outputReport l tag output) :=
  statement_of _

theorem grantAsk (l : Link) (tag level base limit : Byte) (lease : BitVec 16) :
    Statement (.grantAsk l tag level base limit lease) :=
  statement_of _

theorem grantConcur (l : Link) (tag slot : Byte) (number : BitVec 16) : Statement (.grantConcur l tag slot number) :=
  statement_of _

theorem grantDecline (l : Link) (tag slot : Byte) (number : BitVec 16) :
    Statement (.grantDecline l tag slot number) :=
  statement_of _

theorem grantExtend (l : Link) (tag slot : Byte) (number added : BitVec 16) :
    Statement (.grantExtend l tag slot number added) :=
  statement_of _

theorem grantRelease (l : Link) (tag slot : Byte) (number : BitVec 16) :
    Statement (.grantRelease l tag slot number) :=
  statement_of _

theorem grantRevoke (l : Link) (tag slot : Byte) (number : BitVec 16) : Statement (.grantRevoke l tag slot number) :=
  statement_of _

theorem grantPolicy (l : Link) (tag : Byte) (maxLease : BitVec 16) : Statement (.grantPolicy l tag maxLease) :=
  statement_of _

theorem grantReport (l : Link) (tag : Byte) : Statement (.grantReport l tag) :=
  statement_of _

theorem fabricReport (l : Link) (tag : Byte) : Statement (.fabricReport l tag) :=
  statement_of _

theorem noticeTake (l : Link) (tag : Byte) : Statement (.noticeTake l tag) :=
  statement_of _

theorem noticeClear (l : Link) (tag : Byte) : Statement (.noticeClear l tag) :=
  statement_of _

theorem noticeMask (l : Link) (tag : Byte) (mask : BitVec 16) : Statement (.noticeMask l tag mask) :=
  statement_of _

theorem linkReset (l : Link) (tag : Byte) : Statement (.linkReset l tag) :=
  statement_of _

theorem partInfo (l : Link) (tag : Byte) : Statement (.partInfo l tag) :=
  statement_of _

theorem partReset (l : Link) (tag : Byte) : Statement (.partReset l tag) :=
  statement_of _

theorem malformedMessage (kind : Byte) (rest : List Byte) (began : Option Stamp) :
    Statement (.malformedMessage kind rest began) :=
  statement_of _

theorem enqueue (stream : Byte) (handle length : BitVec 16) : Statement (.enqueue stream handle length) :=
  statement_of _

theorem sent (handle : BitVec 16) (wireSec : BitVec 48) (wireNs : BitVec 32) :
    Statement (.sent handle wireSec wireNs) :=
  statement_of _

theorem portState (port link pause watermark : Byte) : Statement (.portState port link pause watermark) :=
  statement_of _

theorem cellIn (port kind code station : Byte) (body : List Byte) (began : Option Stamp) :
    Statement (.cellIn port kind code station body began) :=
  statement_of _

theorem sync (port code station seq : Byte) (originSec : BitVec 48) (originNs : BitVec 32) (began : Option Stamp) :
    Statement (.sync port code station seq originSec originNs began) :=
  statement_of _

theorem fillDone (port code station head result : Byte) (fillSec : BitVec 48) (fillNs : BitVec 32) (began : Option Stamp) :
    Statement (.fillDone port code station head result fillSec fillNs began) :=
  statement_of _

theorem verdict (port code station verdict detail : Byte) (stampSec : BitVec 48) (stampNs : BitVec 32) (began : Option Stamp) :
    Statement (.verdict port code station verdict detail stampSec stampNs began) :=
  statement_of _

theorem backoff (port code station classes : Byte) (began : Option Stamp) :
    Statement (.backoff port code station classes began) :=
  statement_of _

theorem need (port code station output word : Byte) (began : Option Stamp) :
    Statement (.need port code station output word began) :=
  statement_of _

theorem trainingComplete : Statement .trainingComplete :=
  statement_of _

theorem alignmentLossExpiry : Statement .alignmentLossExpiry :=
  statement_of _

theorem restartSignal : Statement .restartSignal :=
  statement_of _

theorem outboundMessageSent : Statement .outboundMessageSent :=
  statement_of _

theorem faultDeadlineExpiry (src : TimedSource) : Statement (.faultDeadlineExpiry src) :=
  statement_of _

theorem holdoverDeadlineExpiry : Statement .holdoverDeadlineExpiry :=
  statement_of _

theorem stalenessDeadlineExpiry (handle : BitVec 16) : Statement (.stalenessDeadlineExpiry handle) :=
  statement_of _

theorem pacingQueueExpiry (queue : Fin 8) : Statement (.pacingQueueExpiry queue) :=
  statement_of _

theorem release (port : Fin 24) : Statement (.release port) :=
  statement_of _

theorem sentOverdueExpiry (handle : BitVec 16) : Statement (.sentOverdueExpiry handle) :=
  statement_of _

theorem triggerDeadlineExpiry (seq : BitVec 16) (point : Fin 4) : Statement (.triggerDeadlineExpiry seq point) :=
  statement_of _

theorem verdictDeadlineExpiry (seq : BitVec 16) (point : Fin 4) : Statement (.verdictDeadlineExpiry seq point) :=
  statement_of _

theorem gateDeadlineExpiry : Statement .gateDeadlineExpiry :=
  statement_of _

theorem windowEndExpiry : Statement .windowEndExpiry :=
  statement_of _

theorem askTimeoutExpiry (slot : Fin 4) : Statement (.askTimeoutExpiry slot) :=
  statement_of _

theorem warningTimeExpiry (slot : Fin 4) : Statement (.warningTimeExpiry slot) :=
  statement_of _

theorem expiryMtExpiry (slot : Fin 4) : Statement (.expiryMtExpiry slot) :=
  statement_of _

theorem pulseEndExpiry (output : Fin 8) : Statement (.pulseEndExpiry output) :=
  statement_of _

theorem feedInstant (output : Fin 8) : Statement (.feedInstant output) :=
  statement_of _

theorem lossOfAlignment : Statement .lossOfAlignment :=
  statement_of _

theorem alignmentRegained : Statement .alignmentRegained :=
  statement_of _

end requestOf

end Sys2Proof.Laws
end

