-- ==== Sys2Proof/Tests/Slice0.lean ====
section
/-! SUPPORT. Tests. The expected values of the tests are those of the spec's own worked examples and tables, or worked out by
hand from its rules; each docstring names the rule. A `witness` shows a state and operands that meet the hypotheses of
the obligation it is named after, clause by clause, at the boundaries of their ranges. -/

namespace Sys2Proof.Tests

-- One proof after the other: each waiting thread would hold its own stack.
set_option Elab.async false

open Sys2Proof.Machine

/-! ### Helpers -/

/-- The state after a command, or the state as it was where the command stops. -/
def after (c : Instr) (s : State) : State :=
  match exec c s with
  | .next t => t
  | .fault _ => s
  | .refused _ => s

/-- The status and body of the reply that waits to be placed on link `l`. -/
def reply (l : Link) (s : State) : Option (Status × List Byte) :=
  match (s.link l).slot with
  | .workingAnswered r => some (r.status, r.body)
  | _ => none

/-- The status of that reply. -/
def status (l : Link) (s : State) : Option Status := (reply l s).map (·.1)

/-- The state at MT `t`. -/
def onMt (t : Int) (s : State) : State := { s with time := { s.time with mt := machineTimeAt t 0 } }

/-- Seconds and microseconds as an MT. -/
def mt (sec us : Nat) : Int := sec * 1000000000 + us * 1000

/-- The detail of notice class `c` on link `l`: its subject and its reason. -/
def notice (l : Link) (c : Fin 16) (s : State) : Option (Nat × Nat) :=
  ((s.link l).notices.get c).map fun d => (d.subject.toNat, d.reason.toNat)

/-- A configured station. -/
def station (r : Role) (p : Fin 24) (heads : Nat) (st : StationState) : Station :=
  { conf := some { role := r, port := p, heads := heads, state := st }, orderSeq := 3, lastChange := none }

/-- An open stream. -/
def stream (l : Link) (c : StreamClass) (p : Fin 24) (cap : Nat) : Stream :=
  { Stream.powerOn with
    state := .opened, owner := some l, cls := some c, egress := some p, quota := 5, credit := 3, cap := cap
    recovery := .clean 2 }

/-- A PENDING descriptor. -/
def waiting (h : BitVec 16) (i : Fin 128) (stale : Option Int) : Descriptor :=
  { handle := h, stream := i, length := 128, arrival := 0, staleAt := stale, state := .pending }

/-- A point entry. -/
def entry (st : EntryState) (trigger by' : Int) : PointEntry := { state := st, trigger := trigger, verdictBy := by' }

/-- A track record of filler 2 with two points in use. -/
def record (seq : BitVec 16) (f : Int) (a b : PointEntry) (gate : Int) : TrackRecord :=
  { seq := seq, filler := 2, head := 5, result := .ok, fillMt := f, running := true
    entries := ((Tbl.fill 4 (entry .notUsed 0 0)).set 0 a).set 1 b, gateTime := gate }

/-- The fabric link UP with every port up, nothing configured, at MT 10 s and local time 10 s, no notice pending. -/
def up : State :=
  { State.reset with
    time := { State.reset.time with mt := ⟨10, 0, 0⟩, clock25 := 250000000 }
    fabric := { State.reset.fabric with up := true }
    ports := Tbl.fill 24 { Port.powerOn with up := true }
    lc := { LinkRec.powerOn with notices := Tbl.fill 16 none }
    sm := { LinkRec.powerOn with notices := Tbl.fill 16 none }
    sc := { LinkRec.powerOn with notices := Tbl.fill 16 none } }

/-- A line: filler 2 in RUN on port 3, camera 20 in RUN on port 14, camera 21 in HELD on port 15, and streams 40 (CYCLIC),
41 (BULK) and 42 (BULK with SHED) on port 6, stream 70 (BULK, wire-hold) DRAINING on port 3. -/
def line : State :=
  { up with
    stations := ((up.stations.set 2 (station .filler 3 12 .run)).set 20 (station .camera 14 0 .run)).set 21
      (station .camera 15 0 .held)
    streams := (((up.streams.set 40 { stream .lc .cyclic 6 2 with staleUs := 2000 }).set 41 (stream .sm .bulk 6 4)).set 42
      { stream .sm .bulk 6 64 with recovery := .shed }).set 70
      { stream .sm .bulk 3 9 with state := .draining, wireHold := true, closeReason := some .closed }
    store := [waiting 100 40 (some (mt 10 0)), waiting 101 40 (some (mt 11 0)), waiting 200 41 none, waiting 300 42 none,
      { waiting 499 70 none with state := .wireHeld }]
    ports := (up.ports.upd 3 fun p => { p with outstanding := [⟨499, 70, 0, mt 10 0⟩] }).upd 6 fun p =>
      { p with outstanding := [⟨88, 41, 0, mt 10 1⟩] } }

/-- Points, gate and outputs of the worked example of chapter 6, and a GRANDMASTER that is HEALTHY and selected. -/
def cell : State :=
  { line with
    gate := { output := some 7, delayUs := 1000000, halfWindowUs := 30000, widthUs := 60000 }
    points := (line.points.set 0
        { enabled := true, required := true, camera := 20, output := some 0, travelUs := 200000, halfWindowUs := 2000
          allowanceUs := 300000 }).set 1
        { enabled := true, required := true, camera := 21, output := some 1, travelUs := 400000, halfWindowUs := 2000
          allowanceUs := 300000 }
    outputs := ((line.outputs.upd 7 fun o => { o with mode := .gate }).upd 0 fun o =>
      { o with mode := .trigger, widthUs := 3000 }).upd 2 fun o =>
        { o with mode := .feed, period := .ms100, widthUs := 80000, feedEnable := true, nextFeed := some (mt 10 0) } }

/-- The clock locked to the grandmaster, which is HEALTHY, HALL-PULSE FAULTED. -/
def locked (s : State) : State :=
  { s with
    time := { s.time with
      clock := .locked, everLocked := true, selected := .grandmaster, lastSeq := some 40
      gm := { Health.powerOn with state := .healthy, lastLocal := some 225000000, deadline := some 325000000 } } }

/-- The clock acquiring from HALL-PULSE, whose last accepted edge lies `gap` periods back; GRANDMASTER FAULTED. -/
def pulsed (gap : Nat) (s : State) : State :=
  { s with
    time := { s.time with
      clock := .acquiring, selected := .hallPulse
      hp := { Health.powerOn with
        state := .healthy, lastLocal := some (250000000 - gap), deadline := some 300000000 } } }

/-- HALL-PULSE FAULTED with a qualification count, its last accepted edge `gap` periods back. -/
def quiet (gap q : Nat) (s : State) : State :=
  { s with
    time := { s.time with hp := { Health.powerOn with qual := q, lastLocal := some (250000000 - gap) } } }

/-- A grant of ports `b` to `m` in slot 0. -/
def granted (st : GrantState) (v : GrantLevel) (b m : Fin 24) (s : State) : State :=
  { s with
    grants := { s.grants with
      slots := s.grants.slots.set 0
        { state := st, ask := some ⟨57, v, b, m, 600, 0⟩
          askTimeout := if st = .asked then some (mt 10 0) else none
          activation := some (mt 9 0), expiry := some (mt 10 0)
          warning := if st = .active then some (mt 10 0) else none, warned := false, endReason := none } } }

/-! ### Well-formed commands -/

/-- Each check of Instr.wf refuses an ill-formed command. -/
theorem test_wf_refuses :
    (Instr.read .lc [1, 2]).wf = false ∧ (Instr.sent 1 0 1000000000).wf = false ∧
    (Instr.portState 24 0 0 0).wf = false ∧ (Instr.portState 0 2 0 0).wf = false ∧
    (Instr.cellIn 24 1 0 0 []).wf = false ∧ (Instr.cellIn 0 1 0 0 (List.replicate 251 0)).wf = false ∧
    (Instr.sync 24 0 0 0 0 0).wf = false ∧ (Instr.fillDone 24 0 0 0 0 0 0).wf = false ∧
    (Instr.verdict 24 0 0 0 0 0 0).wf = false ∧ (Instr.backoff 24 0 0 0).wf = false ∧
    (Instr.need 24 0 0 0 0).wf = false ∧ (Instr.pulseEdge .rising (some ⟨-1, 0⟩)).wf = false ∧
    (Instr.cellIn 0 6 0 0 [] (some ⟨2 ^ 48 * 1000000000, 0⟩)).wf = false ∧
    (Instr.sync 0 0 0 0 0 0 (some ⟨2 ^ 48 * 1000000000 - 1, 0⟩)).wf = true ∧
    (Instr.fillDone 0 0 0 0 0 0 0 (some ⟨-1, 0⟩)).wf = false ∧ (Instr.verdict 0 0 0 0 0 0 0 (some ⟨-1, 0⟩)).wf = false ∧
    (Instr.backoff 0 0 0 0 (some ⟨-1, 0⟩)).wf = false ∧ (Instr.need 0 0 0 0 0 (some ⟨-1, 0⟩)).wf = false ∧
    (Instr.malformedMessage 9 [] (some ⟨-1, 0⟩)).wf = false ∧
    (Instr.malformedMessage 3 [4, 0, 1, 0, 0, 0xCA, 0xC0]).wf = true := by decide +kernel

/-- A fabric message that passes R169 is no malformed message, and one that fails it is. -/
theorem test_wf_malformed :
    (Instr.malformedMessage 1 ((withCrc [1, 5, 7, 0, 9, 0, 64]).drop 1)).wf = false ∧
    (Instr.malformedMessage 1 ((withCrc [1, 4, 7, 0, 9, 0]).drop 1)).wf = true := by decide +kernel

/-! ### Bytes (chapter 11) -/

/-- R195, note: over "123456789" the settings give H'29B1, by the machine's CRC and by that of the layouts. -/
theorem test_crc :
    let digits : List Byte := [0x31, 0x32, 0x33, 0x34, 0x35, 0x36, 0x37, 0x38, 0x39]
    crc16 digits = 0x29B1 ∧ (Layout.crc digits).toNat = 0x29B1 := by decide +kernel

/-- Section 11.3: STATION-RUN of station 5, tag 10: length 1, code H'22, tag, body, CRC. -/
theorem test_request_bytes :
    (requestBytes 10 (.stationRun 5)).take 4 = [1, 0x22, 10, 5] ∧ (requestBytes 10 (.stationRun 5)).length = 6 := by
  decide +kernel

/-- Section 11.5: a RELEASE of handle H'1234 at port 6, and RESYNC. -/
theorem test_out_bytes :
    (outBytes (.release 0x1234 6)).take 5 = [0x81, 3, 0x12, 0x34, 6] ∧ (outBytes .resync).take 2 = [0x84, 0] := by
  decide +kernel

/-- No row of the table carries bits, so no word spells a command. -/
theorem test_no_word : decodeTableWord 8 0x22 = none := by decide +kernel

/-! ### Commands, requests and bytes -/

/-- A step runs the front command on the rest of the queue, and idles on an empty queue. -/
theorem test_step : step (up.withQueue [.stationRun .lc 1 40, .mtAdvance]) =
      exec (.stationRun .lc 1 40) (up.withQueue [.mtAdvance]) ∧ step (up.withQueue []) = .next up := ⟨rfl, rfl⟩

/-- A command with an effect, a reset, and a refused request, each with a queue and with another in its place. -/
theorem witness_CommandsLeaveTheQueue :
    [Instr.mtAdvance, .warmReset, .stationRun .lc 7 2].all (fun c =>
      let s := line.withQueue [.restartSignal]
      (after c s).pending == s.pending && decide (after c s ≠ s) &&
        after c (s.withQueue [.mtAdvance, .warmReset]) == (after c s).withQueue [.mtAdvance, .warmReset]) = true := by
  decide +kernel

/-- A request of a link, in WORKING, not allowed, and refused. -/
theorem witness_RequestsNotPerformedHaveNoEffect :
    (Instr.stationRun .lc 7 2).asRequest = some (.lc, 7, .stationRun 2) ∧
    (({ up with lc := { up.lc with slot := .workingHeld .partInfo 1 } }).link .lc).slot.working = true ∧
    (line.link .sm).slot.working = false ∧ allowed .sm (.stationRun 2) = false ∧
    status .sm (after (.stationRun .sm 7 2) line) = some .refusedRights ∧
    reply .lc (after (.stationRun .lc 7 2) line) = some (.refusedState, []) := by decide +kernel

/-- The command is a request of a link. -/
theorem witness_RawRequestActsAsNamed :
    (Instr.stationSet .lc 7 5 0 9 12).asRequest = some (.lc, 7, .stationSet 5 0 9 12) := rfl

/-- The greatest nanoseconds, the longest body, and kinds on both sides of those that fabric messages have. -/
theorem witness_FabricMessageBytesReadBack :
    (999999999 : BitVec 32).toNat ≤ 999999999 ∧ (List.replicate 250 (0 : Byte)).length ≤ 250 ∧
    (0 : Byte) ≠ 1 ∧ (5 : Byte) ≠ 4 ∧ fails (readInbound 5 ((withCrc [5, 0]).drop 1) up.stamp) = true := by decide +kernel

/-- Reports of the last records, seen from LC, and hidden from SC and not hidden from it. -/
theorem witness_ReportsAnswerAndChangeNothing :
    (line.link .lc).slot.working = false ∧ (line.link .sc).slot.working = false ∧
    (24 : Byte).toNat + (8 : Byte).toNat ≤ 32 ∧
    (stationRange 24 8).all (fun i => !line.hidden .lc (line.stationPort i)) = true ∧
    (stationRange 0 3).any (fun i => line.hidden .sc (line.stationPort i)) = true ∧
    status .sc (after (.stationReport .sc 1 0 3) line) = some .refusedRights ∧
    status .sc (after (.stationReport .sc 1 24 8) line) = some .done ∧
    status .sc (after (.streamReport .sc 1 0 40) line) = some .refusedRights ∧
    reply .lc (after (.streamReport .lc 1 2 9) line) = some (.done, Layout.store line) := by decide +kernel

/-- Values at the edges of the ranges. -/
theorem witness_ReportsOfNoRecordAreRefused :
    status .sc (after (.timeReport .sc 1 2) up) = some .refusedRange ∧
    status .sc (after (.stationReport .sc 1 0 0) up) = some .refusedRange ∧
    status .sc (after (.stationReport .sc 1 0 9) up) = some .refusedRange ∧
    status .sc (after (.stationReport .sc 1 25 8) up) = some .refusedRange ∧
    status .sc (after (.streamReport .sc 1 0 128) up) = some .refusedRange ∧
    status .sc (after (.streamReport .sc 1 1 32) up) = some .refusedRange ∧
    status .sc (after (.streamReport .sc 1 3 0) up) = some .refusedRange ∧
    status .sc (after (.queueReport .sc 1 8) up) = some .refusedRange ∧
    status .sc (after (.outputReport .sc 1 8) up) = some .refusedRange ∧
    status .sc (after (.portReport .sc 1 24) up) = some .refusedRange := by decide +kernel

/-- PART-INFO (section 11.3, R190): vendor H'0B57, part H'0C30, and the capacities of R190 after the link. -/
theorem test_partInfo :
    ((reply .sm (after (.partInfo .sm 1) up)).map fun r => (r.1, r.2.take 4, r.2.drop 5)) =
      some (.done, [0x0B, 0x57, 0x0C, 0x30],
        [1, 0, 32, 0, 128, 2, 0, 0, 8, 0, 24, 1, 0, 0, 4, 0, 8, 0, 4]) := by decide +kernel

/-- QUEUE-REPORT, PORT-REPORT, TRACK-REPORT, TRACK-LIST, OUTPUT-REPORT, GRANT-REPORT and FABRIC-REPORT are answered. -/
theorem test_reports :
    status .sc (after (.queueReport .sc 1 7) line) = some .done ∧
    status .sc (after (.portReport .sc 1 23) line) = some .done ∧
    status .sc (after (.trackReport .sc 1 0) line) = some .done ∧
    reply .sm (after (.trackList .sm 1 0) line) = some (.done, [0, 0, 0]) ∧
    status .sc (after (.outputReport .sc 1 7) line) = some .done ∧
    status .sc (after (.grantReport .sc 1) line) = some .done ∧
    status .sc (after (.fabricReport .sc 1) line) = some .done := by decide +kernel

/-! ### Machine time (chapter 1) -/

/-- The least rate correction: F = −13,108 (R2). -/
theorem witness_MtAdvanceAddsTheCorrectedMicrosecond :
    let s := { up with time := { up.time with rate := -200000 } }
    (MtInv s ∧ RateInv s) ∧ (after .mtAdvance s).time.mt = ⟨10, 999, 52428⟩ ∧
      (after .mtAdvance s).time.clock25 = 250000025 := by
  refine ⟨⟨?_, ?_⟩, ?_⟩
  · exact ⟨by decide +kernel, by decide +kernel, by decide +kernel⟩
  · exact ⟨by decide +kernel, by decide +kernel, by decide +kernel, by decide +kernel⟩
  · decide +kernel

/-- R1: MT stays at its greatest value. -/
theorem test_mt_holds_at_its_greatest :
    (after .mtAdvance { up with time := { up.time with mt := ⟨2 ^ 48 - 1, 999999999, 65535⟩ } }).time.mt =
      ⟨2 ^ 48 - 1, 999999999, 65535⟩ := by decide +kernel

/-- The worked examples of section 1.6, cases A to E: I, P, r and F after the sample. -/
theorem test_servo_cases :
    (let run := fun (i o : Int) (ms ki kp : Nat) (lock : Bool) =>
      let t := (sample .grandmaster o ms up.now { up with time := { up.time with
        iTerm := i, stepLock := lock, clock := .acquiring, config := { up.time.config with ki := ki, kp := kp } } }).time
      [t.iTerm, t.pTerm, t.rate, rateF t.rate]
    run (-1200) 3000 1000 3 1 false = [-825, 1500, 675, 44] ∧
    run (-198000) (-20000) 250 4 2 false = [-200000, -20000, -200000, -13108] ∧
    run 0 2500000 1000 4 2 true = [62500, 250000, 200000, 13107] ∧
    run (-8) (-7) 1000 4 2 false = [-8, -1, -9, -1]) ∧
    (sample .grandmaster 2500000 1000 up.now up).now = mt 10 2500 := by decide +kernel

/-- The offsets of section 1.5's table: no second armed, a pulse delay, rounding down, and an armed second. -/
theorem test_pulse_offsets :
    let off := fun (t : Int) (armed : Option (BitVec 48)) (delay : Nat) =>
      let s := onMt t { up with time := { up.time with
        armed := armed, config := { up.time.config with pulseDelay := delay } } }
      ((samplePulse s.now s).time.lastOffset.map (·.offset), (samplePulse s.now s).time.armed)
    off 1204999998200 none 0 = (some 1800, none) ∧ off 1204999998200 none 300 = (some 2100, none) ∧
    off 1205000000250 none 0 = (some (-250), none) ∧ off 1205500000000 none 0 = (some 500000000, none) ∧
    off 1205000000250 (some 1300) 0 = (some 94999999750, none) := by decide +kernel

/-- The other polarity; a glitch one period short of 0.5 s; the gap of 0.5 s of a HEALTHY source; gaps of 1.5 s and one
period more of a FAULTED one, below and at Q. -/
theorem witness_PulseEdgeUpdatesItsHealthRecord :
    PulseEdge.falling ≠ up.time.config.edge ∧
    (after (.pulseEdge .rising) (quiet 12499999 3 up)).time.hp.qual = 0 ∧
    (let s := locked (pulsed 12500000 up)
     s.time.hp.state = .healthy ∧ s.time.selected ≠ .hallPulse ∧ s.time.selected = s.time.choice ∧
       (after (.pulseEdge .rising) s).time.hp.deadline = some 325000000) ∧
    (let s := locked (quiet 37500001 3 up)
     s.time.hp.state = .faulted ∧ s.time.selected = s.time.choice ∧ (after (.pulseEdge .rising) s).time.hp.qual = 0) ∧
    (let s := locked (quiet 37500000 2 up)
     s.time.hp.qual + 1 < s.time.config.q ∧ (after (.pulseEdge .rising) s).time.hp.qual = 3) ∧
    (let s := locked (quiet 37500000 3 up)
     s.time.config.q ≤ s.time.hp.qual + 1 ∧ (after (.pulseEdge .rising) s).time.hp.state = .healthy) := by decide +kernel

/-- The recovery of an edge in a state with ClockInv: not selected, it posts RECOVERED alone; selected, here before a GRANDMASTER
in ACQUIRING, it posts TIME-SOURCE and is a sample, here one that steps MT to the armed second. -/
theorem witness_PulseEdgeUpdatesItsHealthRecord_recovered :
    let s := locked (quiet 37500000 3 up)
    let r := { s with time := { s.time with
      clock := .acquiring, armed := some 1300
      config := { s.time.config with first := .hallPulse, second := .grandmaster } } }
    let t := after (.pulseEdge .rising) r
    (ClockInv s ∧ ClockInv r) ∧
    (after (.pulseEdge .rising) s).time.selected = .grandmaster ∧
    notice .sc 0 (after (.pulseEdge .rising) s) = some (1, 2) ∧ notice .sc 2 (after (.pulseEdge .rising) s) = none ∧
    t.time.selected = .hallPulse ∧ t.time.clock = .acquiring ∧ t.time.armed = none ∧ t.now = mt 1300 0 ∧
    notice .lc 0 t = some (1, 2) ∧ notice .lc 2 t = some (1, 1) ∧ notice .lc 1 t = some (1, 1) := by
  refine ⟨⟨?_, ?_⟩, ?_⟩
  · unfold ClockInv; decide +kernel
  · unfold ClockInv; decide +kernel
  · decide +kernel

/-- An edge of the selected HALL-PULSE whose offset is the step threshold, and one beyond it with step lock ON and OFF. -/
theorem witness_SelectedPulseEdgeDisciplinesTime :
    let s := onMt (mt 10 1000) (pulsed 12500000 up)
    s.time.hp.state = .healthy ∧ s.time.selected = .hallPulse ∧ s.time.selected = s.time.choice ∧
    s.time.clock = .acquiring ∧ (10 * 1000000000 - s.now).natAbs = s.time.config.stepUs * 1000 ∧
    (after (.pulseEdge .rising) s).time.lastOffset.map (·.offset) = some (-1000000) ∧
    (let f := onMt (mt 10 1000 + 1) (pulsed 12500000 up)
     let k := { f with time := { f.time with stepLock := true } }
     (after (.pulseEdge .rising) k).time.lastOffset.map (·.offset) = some (-1000000) ∧
     (after (.pulseEdge .rising) f).now = mt 10 0 ∧ notice .sc 1 (after (.pulseEdge .rising) f) = some (1, 2)) := by
  decide +kernel

/-- R3: the range of the nanoseconds, a repeat, and the three arrivals at a source that is not selected: at 3 × T / 2 of a
FAULTED one below and at Q, and one that is late. -/
theorem witness_SyncUpdatesItsHealthRecord :
    let f := fun (gap q : Nat) => pulsed 12500000 { up with time := { up.time with
      gm := { Health.powerOn with qual := q, lastLocal := some (250000000 - gap) }, lastSeq := some 40 } }
    let g := fun c => (after c (f 37500000 2)).time.gm
    up.fabric.up = true ∧ (0 : Byte).toNat = up.time.config.gmPort.1 ∧
    notice .lc 13 (after (.sync 0 0 0 41 10 1000000000) (f 0 0)) = some (0, 6) ∧
    notice .lc 13 (after (.sync 0 0 0 40 10 999999999) (f 0 0)) = some (0, 7) ∧
    (f 0 0).time.selected ≠ .grandmaster ∧ (f 0 0).time.selected = (f 0 0).time.choice ∧
    (g (.sync 0 0 0 41 10 0)).qual = 3 ∧ (g (.sync 0 0 0 42 10 0)).qual = 0 ∧
    (after (.sync 0 0 0 41 10 0) (f 37500001 2)).time.gm.qual = 0 ∧
    (after (.sync 0 0 0 41 10 0) (f 37500000 3)).time.gm.state = .healthy ∧
    (let s := { (f 0 0) with time := { (f 0 0).time with
       config := { (f 0 0).time.config with first := .hallPulse, second := .grandmaster }
       gm := { Health.powerOn with state := .healthy, deadline := some 250000001 } } }
     s.time.selected = s.time.choice ∧ (after (.sync 0 0 0 9 10 0) s).time.gm.deadline = some 325000000) := by
  decide +kernel

/-- The recovery of a SYNC in a state with ClockInv: it selects GRANDMASTER in place of HALL-PULSE, with RECOVERED and one
TIME-SOURCE, and is a sample; in FREE-RUN with LOCAL first, it is neither. -/
theorem witness_SyncUpdatesItsHealthRecord_recovered :
    let gm := { Health.powerOn with qual := 3, lastLocal := some 212500000 }
    let s := pulsed 12500000 { up with time := { up.time with gm := gm, lastSeq := some 40 } }
    let r := { up with time := { up.time with
      gm := gm, lastSeq := some 40, config := { up.time.config with first := .localOsc, third := .grandmaster } } }
    let t := after (.sync 0 0 0 41 10 500) s
    let x := after (.sync 0 0 0 41 10 500) r
    (ClockInv s ∧ ClockInv r) ∧
    t.time.selected = .grandmaster ∧ t.time.clock = .acquiring ∧ t.time.lastOffset.map (·.offset) = some 500 ∧
    notice .lc 0 t = some (0, 2) ∧ notice .lc 2 t = some (0, 1) ∧ (t.lc.notices.get 2).map (·.more) = some false ∧
    x.time.selected = .localOsc ∧ x.time.gm.state = .healthy ∧ x.time.lastOffset = none ∧
    notice .lc 0 x = some (0, 2) ∧ notice .lc 2 x = none := by
  refine ⟨⟨?_, ?_⟩, ?_⟩
  · unfold ClockInv; decide +kernel
  · unfold ClockInv; decide +kernel
  · decide +kernel

/-- R3, R5, R11, R12, R171: a SYNC and an edge stamped 2 ms before they are taken. The record, the fault deadline, the gap and
the offset read the stamp; a step adds to MT as it stands. -/
theorem test_arrivals_read_their_stamp :
    let x : Stamp := { mt := mt 9 998000, localTime := 249950000 }
    let t := after (.sync 0 0 0 41 9 998000500 (some x)) (locked up)
    let e := after (.pulseEdge .rising (some x)) (pulsed 12500000 up)
    (t.time.gm.lastMt, t.time.gm.lastLocal, t.time.gm.deadline) = (some (mt 9 998000), some 249950000, some 324950000) ∧
    t.time.lastOffset.map (fun o => (o.offset, o.mt)) = some (500, mt 9 998000) ∧ t.now = mt 10 0 ∧
    (after (.sync 0 0 0 41 9 999500000 (some x)) (locked up)).now = mt 10 1500 ∧
    e = pulsed 12500000 up ∧
    (after (.pulseEdge .rising (some x)) (pulsed 12550000 up)).now = mt 10 2000 := by decide +kernel

/-- A SYNC whose offset is the step threshold, and one beyond it with step lock ON and OFF. -/
theorem witness_SelectedSyncDisciplinesOrSteps :
    let s := locked up
    let k := { s with time := { s.time with stepLock := true } }
    s.time.gm.state = .healthy ∧ s.time.selected = s.time.choice ∧ s.time.lastSeq ≠ some 41 ∧
    (after (.sync 0 0 0 41 10 1000000) s).time.lastOffset.map (·.offset) = some 1000000 ∧
    (after (.sync 0 0 0 41 10 1000001) k).time.lastOffset.map (·.offset) = some 1000000 ∧
    (after (.sync 0 0 0 41 10 1000001) s).now = mt 10 1000 + 1 ∧
    notice .sc 1 (after (.sync 0 0 0 41 10 1000001) s) = some (0, 1) := by decide +kernel

/-- A step moves the deadlines of the other blocks and the next feed instant (R18, R143): by 70 ms, as in the worked example
of section 7.6. -/
theorem test_step_moves_deadlines :
    let s := onMt (mt 5 210000) { cell with outputs := cell.outputs.upd 2 fun o =>
      { o with pulseEnd := some (mt 5 250000), nextFeed := some (mt 5 300000) } }
    let t := stepTime .grandmaster 70000000 s
    ((t.outputs.get 2).pulseEnd = some (mt 5 320000) ∧ (t.outputs.get 2).nextFeed = some (mt 5 300000)) ∧
    t.store.map (·.staleAt) = [some (mt 10 70000), some (mt 11 70000), none, none, none] := by decide +kernel

/-- Deadlines at their instant, and one period before it: GRANDMASTER's fault with a change of selection, HALL-PULSE's without
one, and the holdover deadline. -/
theorem witness_TimeDeadlinesExpire :
    let s := locked up
    let due := { s with time := { s.time with gm := { s.time.gm with deadline := some 250000000 } } }
    let two := { s with time := { s.time with
      hp := { Health.powerOn with state := .healthy, deadline := some 250000000 } } }
    let hold := { up with time := { up.time with clock := .holdover, holdoverDeadline := some 250000000 } }
    (ClockInv due ∧ ClockInv two ∧ ClockInv hold) ∧
    due.time.gm.deadline = some due.time.clock25 ∧ (due.time.onHealth .grandmaster Health.fault).choice = .localOsc ∧
    (after (.faultDeadlineExpiry .hallPulse) two).time.hp.state = .faulted ∧
    (after (.faultDeadlineExpiry .hallPulse) two).time.selected = two.time.selected ∧
    after (.faultDeadlineExpiry .grandmaster) s = s ∧
    (after .holdoverDeadlineExpiry hold).time.clock = .degraded ∧
    after .holdoverDeadlineExpiry (locked up) = locked up := by
  refine ⟨⟨?_, ?_, ?_⟩, ?_⟩
  · unfold ClockInv; decide +kernel
  · unfold ClockInv; decide +kernel
  · unfold ClockInv; decide +kernel
  · decide +kernel

/-- TIME-CONFIG at the ends of its ranges, one that changes nothing that is re-evaluated, and one out of range. -/
theorem witness_TimeConfigReplacesTheConfiguration :
    (let c : TimeConfig := { first := .hallPulse, second := .grandmaster, third := .localOsc, syncMs := 125,
                             pathDelay := 10000000, pulseDelay := 1000000, kp := 7, ki := 7, stepUs := 10000,
                             lockNs := 100000, q := 15, holdoverS := 86400, gmPort := 23, edge := .falling }
     TimeConfigInRange c ∧ (after (.timeConfig .sm 1 1 0 2 125 10000000 1000000 7 7 10000 100000 15 86400 23 1)
       up).time.config = c) ∧
    (let c : TimeConfig := { TimeConfig.powerOn with stepUs := 10, lockNs := 50, q := 1, kp := 0, ki := 0 }
     TimeConfigInRange c ∧ up.time.selected = up.time.choice ∧
     (after (.timeConfig .sm 1 0 1 2 1000 0 0 0 0 10 50 1 600 0 0) up).time = { up.time with config := c }) ∧
    status .sm (after (.timeConfig .sm 1 0 1 2 1000 0 0 8 0 10 50 1 600 0 0) up) = some .refusedRange ∧
    status .sm (after (.timeConfig .sm 1 0 1 1 1000 0 0 0 0 10 50 1 600 0 0) up) = some .refusedRange := by
  refine ⟨⟨?_, ?_⟩, ⟨?_, ?_⟩, ?_⟩
  · unfold TimeConfigInRange; decide +kernel
  · decide +kernel
  · unfold TimeConfigInRange; decide +kernel
  · decide +kernel
  · decide +kernel

/-- R21, item by item, in states with ClockInv: GRANDMASTER in ACQUIRING with HALL-PULSE HEALTHY behind it, and HOLDOVER. A new
grandmaster port faults the HEALTHY source and loses the selection; a T that puts its deadline before now faults it, one that
puts it at now does not; a new edge leaves the last arrival absent; a holdover limit whose end has passed degrades the
clock, one that ends now does not. -/
theorem witness_TimeConfigReplacesTheConfiguration_items :
    let conf := fun (ms : BitVec 16) (hold : BitVec 32) (port edge : Byte) (s : State) =>
      after (.timeConfig .sm 1 0 1 2 ms 0 0 4 2 1000 1000 4 hold port edge) s
    let both := fun (gap : Nat) => { up with time := { up.time with
      clock := .acquiring, selected := .grandmaster, lastSeq := some 40
      gm := { Health.powerOn with state := .healthy, lastLocal := some (250000000 - gap), deadline := some 325000000 }
      hp := { Health.powerOn with state := .healthy, qual := 4, lastLocal := some 0, deadline := some 300000000 } } }
    let held := fun (here : Nat) => { up with time := { up.time with
      clock25 := here, clock := .holdover, everLocked := true, holdoverDeadline := some 15000000000
      holdoverLocal := some 0 } }
    (ClockInv (both 37500001) ∧ ClockInv (held 250000000)) ∧
    (let t := conf 1000 600 5 0 (both 0)
     t.time.gm.state = .faulted ∧ t.time.gm.sticky = true ∧ t.time.gm.lastLocal = none ∧ t.time.lastSeq = none ∧
       t.time.selected = .hallPulse ∧ notice .sc 0 t = some (0, 1) ∧ notice .sc 2 t = some (1, 1)) ∧
    (conf 500 600 0 0 (both 37500000)).time.gm.deadline = some 250000000 ∧
    (conf 500 600 0 0 (both 37500001)).time.selected = .hallPulse ∧
    (conf 1000 600 0 1 (both 0)).time.hp = { (both 0).time.hp with lastLocal := none } ∧
    (conf 1000 600 0 1 (quiet 12500000 3 up)).time.hp.qual = 0 ∧
    (conf 1000 10 0 0 (held 250000000)).time.holdoverDeadline = some 250000000 ∧
    (conf 1000 10 0 0 (held 250000001)).time.clock = .degraded ∧
    notice .sc 2 (conf 1000 10 0 0 (held 250000001)) = some (2, 6) := by
  refine ⟨⟨?_, ?_⟩, ?_⟩
  · unfold ClockInv; decide +kernel
  · unfold ClockInv; decide +kernel
  · decide +kernel

/-- TIME-PULSE-SET and TIME-STEP-LOCK at the values of their fields and one beyond. -/
theorem witness_PulseSetAndStepLockSetTheirFields :
    (after (.timePulseSet .lc 1 1 1300) up).time.armed = some 1300 ∧
    (after (.timePulseSet .lc 1 0 0) up).time.armed = none ∧
    status .lc (after (.timePulseSet .lc 1 2 0) up) = some .refusedRange ∧
    (after (.timeStepLock .lc 1 1) up).time.stepLock = true ∧
    status .lc (after (.timeStepLock .lc 1 2) up) = some .refusedRange := by decide +kernel

/-- TIME-FAULT-CLEAR of all three sources, GRANDMASTER HEALTHY and HALL-PULSE FAULTED, both flags set; the empty set. -/
theorem witness_FaultClearClearsHealthySources :
    let s := locked up
    let t := { s with time := { s.time with
      gm := { s.time.gm with sticky := true }, hp := { s.time.hp with sticky := true } } }
    (t.link .sm).slot.working = false ∧ allowed .sm (.timeFaultClear 7) = true ∧
    reply .sm (after (.timeFaultClear .sm 1 7) t) = some (.done, [0, 1, 0]) ∧
    status .sm (after (.timeFaultClear .sm 1 0) t) = some .refusedRange ∧
    status .sm (after (.timeFaultClear .sm 1 8) t) = some .refusedRange := by decide +kernel

/-! ### Stations (chapter 2) -/

/-- The worked examples of section 2.7: a new station on an up port, a move of camera 20, a change of heads, and each check
of R31 that fails. -/
theorem witness_StationSetConfigures :
    (let t := after (.stationSet .lc 1 5 0 9 12) line
     status .lc t = some .done ∧ (line.stations.get 5).conf = none ∧ t.stationState 5 = some .held ∧
       (t.stations.get 5).orderSeq = 1 ∧ t.fabric.outbound = [.cellOut 9 5 .hold 1] ∧ notice .lc 6 t = some (5, 5)) ∧
    (let s := { line with stations := line.stations.set 21 (station .camera 15 0 .absent) }
     status .lc (after (.stationSet .lc 1 21 2 15 0) s) = some .done ∧
     (after (.stationSet .lc 1 21 1 16 0) s).fabric.outbound = [.cellOut 16 21 .hold 4]) ∧
    status .lc (after (.stationSet .lc 1 32 1 16 0) line) = some .refusedRange ∧
    status .lc (after (.stationSet .lc 1 5 0 9 17) line) = some .refusedRange ∧
    status .lc (after (.stationSet .lc 1 20 1 16 0) line) = some .refusedState ∧
    status .lc (after (.stationSet .lc 1 21 2 15 0) cell) = some .refusedConflict ∧
    status .lc (after (.stationSet .lc 1 5 0 14 12) line) = some .refusedRange ∧
    status .lc (after (.stationSet .lc 1 5 0 9 12) (granted .asked .intervene 9 9 line)) = some .refusedConflict := by
  decide +kernel

/-- A HELD camera, one that an enabled point names, a station in RUN and an unconfigured one. -/
theorem witness_StationRemoveClears :
    (let t := after (.stationRemove .lc 1 21) line
     line.stationState 21 = some .held ∧ status .lc t = some .done ∧ (t.stations.get 21).conf = none ∧
       notice .lc 6 t = some (21, 6)) ∧
    status .lc (after (.stationRemove .lc 1 21) cell) = some .refusedConflict ∧
    status .lc (after (.stationRemove .lc 1 20) line) = some .refusedState ∧
    status .lc (after (.stationRemove .lc 1 31) line) = some .refusedState ∧
    status .lc (after (.stationRemove .lc 1 32) line) = some .refusedRange := by decide +kernel

/-- STATION-RUN and STATION-HOLD in each state of the station. -/
theorem witness_RunAndHoldOrderTheStation :
    let s := { line with stations := (line.stations.set 8 (station .other 8 0 .absent)).set 9 (station .other 9 0 .service) }
    allowed .lc (.stationRun 21) = true ∧
    (let t := after (.stationRun .lc 1 21) s
     t.stationState 21 = some .run ∧ t.fabric.outbound = [.cellOut 15 21 .run 4] ∧ notice .lc 6 t = some (21, 3)) ∧
    (let t := after (.stationHold .lc 1 20) s
     t.stationState 20 = some .held ∧ t.fabric.outbound = [.cellOut 14 20 .hold 4]) ∧
    status .lc (after (.stationRun .lc 1 20) s) = some .refusedState ∧
    status .lc (after (.stationRun .lc 1 8) s) = some .refusedState ∧
    status .lc (after (.stationRun .lc 1 31) s) = some .refusedState ∧
    status .lc (after (.stationRun .lc 1 32) s) = some .refusedRange ∧
    status .lc (after (.stationHold .lc 1 21) s) = some .done ∧
    status .lc (after (.stationHold .lc 1 8) s) = some .done ∧
    status .lc (after (.stationHold .lc 1 9) s) = some .refusedState ∧
    status .lc (after (.stationHold .lc 1 31) s) = some .refusedState := by decide +kernel

/-! ### Streams (chapter 3) -/

/-- STREAM-OPEN at the ends of its ranges, and each check of R46 that fails. -/
theorem witness_StreamOpenOpensTheRecord :
    streamRanges 63 64 100000 .shed ∧ streamRanges 1 1 0 (.clean 16) ∧
    (let t := after (.streamOpen .lc 1 127 1 23 0xFF 7 63 64 100000 0xFF 1) line
     status .lc t = some .done ∧ (t.streams.get 127).state = .opened ∧ (t.streams.get 127).owner = some .lc ∧
       (t.streams.get 127).credit = 1 ∧ (t.streams.get 127).recovery = .shed) ∧
    status .sm (after (.streamOpen .sm 1 5 2 3 2 0 1 1 0 16 0) line) = some .done ∧
    status .lc (after (.streamOpen .lc 1 127 2 23 0xFF 7 63 64 100 0xFF 1) line) = some .refusedRange ∧
    status .sc (after (.streamOpen .sc 1 127 3 23 0xFF 7 63 64 0 0xFF 1) line) = some .refusedRights ∧
    status .lc (after (.streamOpen .lc 1 127 2 4 2 7 63 64 0 0xFF 1) line) = some .refusedRange ∧
    status .lc (after (.streamOpen .lc 1 40 2 4 0xFF 7 63 64 0 0xFF 1) line) = some .refusedState ∧
    status .lc (after (.streamOpen .lc 1 128 2 4 0xFF 7 63 64 0 0xFF 1) line) = some .refusedRange ∧
    status .lc (after (.streamOpen .lc 1 127 2 4 0xFF 7 64 64 0 0xFF 1) line) = some .refusedRange := by
  refine ⟨?_, ?_, ?_⟩
  · unfold streamRanges; decide +kernel
  · unfold streamRanges; decide +kernel
  · decide +kernel

/-- The worked example of section 3.10: a close without flush drains, one with flush keeps a WIRE-HELD descriptor, a close by
SM of another link's stream flushes; the refusals; and a close of a stream that holds nothing. -/
theorem witness_StreamCloseFlushesOrDrains :
    (let t := after (.streamClose .lc 1 40 0) line
     status .lc t = some .done ∧ (t.streams.get 40).state = .draining ∧ t.store.length = 5) ∧
    (let t := after (.streamClose .sm 1 40 0) line
     (t.streams.get 40).state = .free ∧ t.fabric.outbound = [.discard 100 .flushed, .discard 101 .flushed] ∧
       notice .lc 11 t = some (40, 2)) ∧
    (let t := after (.streamClose .sm 1 70 1) line
     (t.streams.get 70).state = .draining ∧ status .sm t = some .done) ∧
    (let t := after (.streamClose .sm 1 41 0) { line with store := [] }
     (t.streams.get 41).state = .free ∧ notice .lc 11 t = some (41, 1)) ∧
    after (.streamClose .sm 1 70 0) line = { line with sm := (after (.streamClose .sm 1 70 0) line).sm } ∧
    status .lc (after (.streamClose .lc 1 41 1) line) = some .refusedRights ∧
    status .sc (after (.streamClose .sc 1 41 1) line) = some .refusedRights ∧
    status .sm (after (.streamClose .sm 1 127 1) line) = some .refusedState ∧
    status .sm (after (.streamClose .sm 1 128 1) line) = some .refusedRange ∧
    status .sm (after (.streamClose .sm 1 41 2) line) = some .refusedRange := by decide +kernel

/-- A cap lowered below the list, and each check of R52 that fails. -/
theorem witness_StreamAdjustReplacesTheSettings :
    streamRanges 2 1 100 .shed ∧
    (let t := after (.streamAdjust .lc 1 40 2 1 3 0xFF 100) line
     status .lc t = some .done ∧ t.fabric.outbound = [.discard 100 .cap] ∧ (t.streams.get 40).cap = 1 ∧
       (t.streams.get 40).credit = 2 ∧ (t.streams.get 40).staleUs = 100) ∧
    status .sm (after (.streamAdjust .sm 1 41 2 1 3 0xFF 100) line) = some .refusedRange ∧
    status .sm (after (.streamAdjust .sm 1 70 2 1 3 0xFF 0) line) = some .refusedState ∧
    status .sm (after (.streamAdjust .sm 1 40 2 1 3 0xFF 0) line) = some .refusedRights ∧
    status .sm (after (.streamAdjust .sm 1 128 2 1 3 0xFF 0) line) = some .refusedRange ∧
    status .sm (after (.streamAdjust .sm 1 41 2 65 3 0xFF 0) line) = some .refusedRange ∧
    (let s := { line with streams := line.streams.set 50 (stream .sc .service 6 4) }
     status .sc (after (.streamAdjust .sc 1 50 2 1 3 0xFF 0) s) = some .refusedRights ∧
     status .sc (after (.streamAdjust .sc 1 50 2 1 3 0xFF 0) (granted .active .configure 6 6 s)) = some .done) := by
  refine ⟨?_, ?_⟩
  · unfold streamRanges; decide +kernel
  · decide +kernel

/-- The checks of R53 at the ends of the lengths, the worked example of section 3.10's OVERTAKEN, and an intake. -/
theorem witness_EnqueueIsCheckedThenStored :
    let out := fun (c : Instr) (s : State) => (after c s).fabric.outbound
    out (.enqueue 41 7 63) line = [.discard 7 .length] ∧ out (.enqueue 128 7 9217) line = [.discard 7 .length] ∧
    out (.enqueue 41 88 64) line = [.discard 88 .duplicate] ∧ out (.enqueue 41 100 64) line = [.discard 100 .duplicate] ∧
    out (.enqueue 128 7 64) line = [.discard 7 .noStream] ∧ out (.enqueue 127 7 64) line = [.discard 7 .noStream] ∧
    out (.enqueue 70 7 64) line = [.discard 7 .closing] ∧
    out (.enqueue 42 7 64) { line with streams := line.streams.upd 42 fun x => { x with level := 1 } } =
      [.discard 7 .shed] ∧
    out (.enqueue 40 7 64) { line with stations := line.stations.set 9 (station .other 6 0 .service) } =
      [.discard 7 .held] ∧
    out (.enqueue 41 7 64) { line with streams := line.streams.upd 41 fun x => { x with cap := 1 } } = [.discard 7 .cap] ∧
    (let t := after (.enqueue 40 7 9216) line
     t.fabric.outbound = [.discard 100 .overtaken] ∧ (t.pendingList 40).map (·.handle) = [101, 7] ∧
       (t.store.getLast?.map (·.staleAt)) = some (some (mt 10 2000))) ∧
    ((after (.enqueue 41 7 64) line).pendingList 41).map (·.handle) = [200, 7] := by decide +kernel

/-- A store of 512 descriptors is full. -/
theorem test_store_full :
    let full := (List.range 512).map fun n => waiting (BitVec.ofNat 16 n) 42 none
    (after (.enqueue 41 1000 64) { line with store := full }).fabric.outbound = [.discard 1000 .storeFull] := by
  decide +kernel

/-- The deadline of handle 100 stands at MT, that of 101 later, and handle 7 is nowhere. -/
theorem witness_StalenessExpiryDiscards :
    HandleInv line ∧
    (let t := after (.stalenessDeadlineExpiry 100) line
     t.fabric.outbound = [.discard 100 .stale] ∧ (t.streams.get 40).discards.get 9 = 1 ∧
       notice .lc 12 t = some (40, 9)) ∧
    after (.stalenessDeadlineExpiry 101) line = line ∧ after (.stalenessDeadlineExpiry 7) line = line := by
  refine ⟨?_, ?_⟩
  · unfold HandleInv; decide +kernel
  · decide +kernel

/-! ### Pacing, congestion and release (chapter 4) -/

/-- QUEUE-SET, BACKOFF-MATCH and PORT-SET at the ends of their ranges and beyond. -/
theorem witness_PacingRequestsSetTheirRecords :
    ((after (.queueSet .sm 1 7 1 20 1) up).queues.get 7).nextExpiry = some 250000500 ∧
    (after (.queueSet .sm 1 7 0 1000000 0) up).queues.get 7 = ⟨false, 1000000, false, none, 0⟩ ∧
    status .sm (after (.queueSet .sm 1 8 0 20 0) up) = some .refusedRange ∧
    status .sm (after (.queueSet .sm 1 0 0 19 0) up) = some .refusedRange ∧
    status .sm (after (.queueSet .sm 1 0 0 1000001 0) up) = some .refusedRange ∧
    (after (.backoffMatch .sm 1 0xF8 0xB0) up).backoff = ⟨0xF8, 0xB0, 0, 0⟩ ∧
    status .sm (after (.backoffMatch .sm 1 0xF8 0xB4) up) = some .refusedRange ∧
    ((after (.portSet .sm 1 23 15) up).ports.get 23).share = 15 ∧
    status .sm (after (.portSet .sm 1 24 0) up) = some .refusedRange ∧
    status .sm (after (.portSet .sm 1 0 16) up) = some .refusedRange := by decide +kernel

/-- The worked example of section 4.7: phase 13 to 14 at level 0 gains a credit, phase 14 to 15 at level 1 does not; a queue
whose expiry lies one period off. -/
theorem witness_QueueExpiryAccrues :
    let s := { line with
      queues := line.queues.set 2 ⟨true, 1000, false, some 250000000, 4294967295⟩
      streams := (line.streams.upd 41 fun x => { x with queue := 2, phase := 13 }).upd 40 fun x =>
        { x with queue := 2, phase := 14, level := 1 } }
    let t := after (.pacingQueueExpiry 2) s
    ((t.streams.get 41).phase = 14 ∧ (t.streams.get 41).credit = 4) ∧
    ((t.streams.get 40).phase = 15 ∧ (t.streams.get 40).credit = 3) ∧
    t.queues.get 2 = ⟨true, 1000, false, some 250025000, 0⟩ ∧
    (let u := { s with queues := s.queues.set 2 ⟨true, 1000, false, some 250000001, 0⟩ }
     after (.pacingQueueExpiry 2) u = u) := by decide +kernel

/-- The worked example of section 4.7: TIME first, then CYCLIC while bulk waits, bulk at the share, and the window full. -/
theorem witness_ReleaseServesTheChosenStream :
    let s := { up with
      ports := up.ports.upd 8 fun p => { p with share := 2 }
      streams := ((up.streams.set 4 (stream .sm .time 8 9)).set 9 (stream .sm .cyclic 8 9)).set 30 (stream .sm .bulk 8 9)
      store := [waiting 10 4 none, waiting 20 9 none, waiting 40 30 none] }
    let rel := fun (s : State) => (after (.release 8) s).fabric.outbound
    let served := fun (s : State) => { s with streams := s.streams.set 4 .powerOn, store := s.store.drop 1 }
    rel s = [.release 10 8] ∧ rel (served s) = [.release 20 8] ∧
    ((after (.release 8) (served s)).ports.get 8).cyclicRun = 1 ∧
    (let u := { s with ports := s.ports.upd 8 fun p => { p with cyclicRun := 2 } }
     rel u = [.release 40 8] ∧ ((after (.release 8) u).ports.get 8).cyclicRun = 0) ∧
    ((after (.release 8) s).ports.get 8).outstanding = [⟨10, 4, mt 10 0, mt 10 20000⟩] ∧
    (let u := { s with ports := s.ports.upd 8 fun p => { p with outstanding := [⟨1, 4, 0, 0⟩, ⟨2, 4, 0, 0⟩] } }
     after (.release 8) u = u) ∧ after (.release 7) s = s := by decide +kernel

/-- A SENT of handle 499 frees stream 70; a SENT of no outstanding handle; a write-off at its instant and before it. -/
theorem witness_OutstandingHandlesAreSettled :
    HandleInv line ∧
    (let t := after (.sent 499 10 999999999) line
     t.store.length = 4 ∧ (t.streams.get 70).state = .free ∧ (t.ports.get 3).outstanding = [] ∧
       (t.ports.get 3).lastWire = some 10999999999 ∧ notice .lc 11 t = some (70, 1)) ∧
    ((after (.sent 88 10 0) line).streams = line.streams ∧ (after (.sent 88 10 0) line).store = line.store) ∧
    notice .lc 13 (after (.sent 7 10 0) line) = some (7, 8) ∧
    (let t := after (.sentOverdueExpiry 499) line
     (t.ports.get 3).writeOffs = 1 ∧ t.storeDiscards.get 12 = 1 ∧ t.fabric.outbound = [] ∧
       (t.streams.get 70).state = .free) ∧
    after (.sentOverdueExpiry 88) line = line := by
  refine ⟨?_, ?_⟩
  · unfold HandleInv; decide +kernel
  · decide +kernel

/-- A BACKOFF from the station of port 6, matched and not. -/
theorem witness_BackoffCongestsMatchedStreams :
    let s := { line with stations := line.stations.set 9 (station .other 6 0 .run) }
    HandleInv s ∧ s.stationOn 6 = some 9 ∧
    (let t := after (.backoff 6 0xB0 9 4) s
     t.backoff.matched = 1 ∧ (t.streams.get 41).level = 1 ∧ (t.streams.get 42).level = 1 ∧
       (t.streams.get 40).level = 0 ∧ t.fabric.outbound = [.discard 300 .shed] ∧ notice .lc 10 t = some (41, 2)) ∧
    (after (.backoff 6 0xB1 9 4) s).backoff.unmatched = 1 := by
  refine ⟨?_, ?_⟩
  · unfold HandleInv; decide +kernel
  · decide +kernel

/-- A rise of the watermark of port 6, and a change of pause alone. -/
theorem witness_PortStateActsFieldByField :
    HandleInv line ∧ (line.ports.get 6).high = false ∧
    (let t := after (.portState 6 1 0 1) line
     (t.streams.get 41).level = 1 ∧ (t.streams.get 40).level = 0 ∧ notice .lc 10 t = some (41, 1)) ∧
    ((after (.portState 6 1 1 0) line).ports.get 6).paused = true ∧ after (.portState 6 1 0 0) line = line := by
  refine ⟨?_, ?_⟩
  · unfold HandleInv; decide +kernel
  · decide +kernel

/-- The link of port 6, which has a station, goes down. -/
theorem witness_PortLinkDownEmptiesItsStreams :
    let s := { line with stations := line.stations.set 9 (station .other 6 0 .run) }
    HandleInv s ∧ (s.ports.get 6).up = true ∧
    (let t := after (.portState 6 0 0 0) s
     t.stationState 9 = some .absent ∧ notice .lc 7 t = some (6, 2) ∧
       t.fabric.outbound.length = 4 ∧ t.store.map (·.handle) = [499] ∧ (t.ports.get 6).outstanding.length = 1) := by
  refine ⟨?_, ?_⟩
  · unfold HandleInv; decide +kernel
  · decide +kernel

/-- The link of a port comes up: its ABSENT station goes to SERVICE under INTERVENE and to HELD without; a port without a
station. -/
theorem witness_PortLinkUpBringsItsStation :
    let s := { line with
      stations := line.stations.set 9 (station .other 6 0 .absent)
      ports := line.ports.upd 6 fun p => { p with up := false } }
    let u := granted .active .intervene 6 6 s
    (HandleInv s ∧ HandleInv u) ∧ s.stationOn 6 = some 9 ∧ s.stationState 9 = some .absent ∧
    ((after (.portState 6 1 0 0) s).fabric.outbound = [.cellOut 6 9 .hold 4] ∧
      (after (.portState 6 1 0 0) u).stationState 9 = some .service ∧
      (after (.portState 6 1 0 0) u).fabric.outbound =
        [.cellOut 6 9 .service 4, .discard 100 .held, .discard 101 .held]) ∧
    (let v := { s with stations := line.stations }
     v.stationOn 6 = none ∧ notice .lc 7 (after (.portState 6 1 0 0) v) = some (6, 1)) := by
  refine ⟨⟨?_, ?_⟩, ?_⟩
  · unfold HandleInv; decide +kernel
  · unfold HandleInv; decide +kernel
  · decide +kernel

/-! ### The bottle track, the verdicts and the outputs (chapters 5 to 7) -/

/-- POINT-SET and GATE-SET at the ends of their ranges, each check of R111 and R112 that fails, and TRACK-REPORT with zero
YES. -/
theorem witness_TrackRequestsSetTheirRecords :
    let rec1 := { cell with track := { cell.track with records := [record 1 0 (entry .pass 0 0) (entry .pass 0 0) 0] } }
    ((after (.pointSet .lc 1 3 0 1 31 0xFF 60000000 100000 10000000) cell).points.get 3 =
      ⟨false, true, 31, none, 60000000, 100000, 10000000⟩) ∧
    ((after (.pointSet .lc 1 0 1 0 20 0 1 10 1000) cell).points.get 0).travelUs = 1 ∧
    status .lc (after (.pointSet .lc 1 3 0 1 31 0xFF 1 10 1000) rec1) = some .refusedState ∧
    status .lc (after (.pointSet .lc 1 3 1 1 2 0xFF 1 10 1000) cell) = some .refusedRange ∧
    status .lc (after (.pointSet .lc 1 3 1 1 21 0xFF 1 10 1000) cell) = some .refusedConflict ∧
    status .lc (after (.pointSet .lc 1 0 1 1 20 2 1 10 1000) cell) = some .refusedConflict ∧
    status .lc (after (.pointSet .lc 1 0 1 1 20 0 700000 10 300000) cell) = some .refusedRange ∧
    status .lc (after (.pointSet .lc 1 4 0 1 31 0xFF 1 10 1000) cell) = some .refusedRange ∧
    status .lc (after (.pointSet .lc 1 3 0 1 31 8 1 10 1000) cell) = some .refusedRange ∧
    status .lc (after (.pointSet .lc 1 3 0 1 31 0xFF 0 10 1000) cell) = some .refusedRange ∧
    (after (.gateSet .lc 1 7 60000000 100 1) cell).gate = ⟨some 7, 60000000, 100, 1⟩ ∧
    status .lc (after (.gateSet .lc 1 7 60000000 100 1) rec1) = some .refusedState ∧
    status .lc (after (.gateSet .lc 1 0 60000000 100 1) cell) = some .refusedConflict ∧
    status .lc (after (.gateSet .lc 1 7 700000 100 1) cell) = some .refusedRange ∧
    status .lc (after (.gateSet .lc 1 7 60000000 99 1) cell) = some .refusedRange ∧
    (let s := { cell with track := { cell.track with full := 7 } }
     status .lc (after (.trackReport .lc 1 1) s) = some .done ∧ (after (.trackReport .lc 1 1) s).track.full = 0) ∧
    status .sm (after (.trackReport .sm 1 1) cell) = some .refusedRights ∧
    status .lc (after (.trackReport .lc 1 2) cell) = some .refusedRange := by decide +kernel

/-- The worked example of section 6.6's record 300, a late fill (section 5.3), an escape and a skip at the gate time, a full
track with the window closed and open, and each message that R98 discards. -/
theorem witness_FillDoneMakesARecord :
    let fd := fun (head result : Byte) (us : Nat) => Instr.fillDone 3 0 2 head result 9 (BitVec.ofNat 32 (us * 1000))
    let bare := { cell with points := (cell.points.upd 2 fun q => { q with travelUs := 0, allowanceUs := 0 }).upd 3 fun q =>
      { q with travelUs := 0, allowanceUs := 0 } }
    let many := { bare with track := { bare.track with
      records := List.replicate 256 (record 1 0 (entry .pass 200000000 500000000) (entry .pass 400000000 700000000) 1000000000)
      windowEnd := some 5 } }
    let shut := { many with track := { many.track with windowEnd := none } }
    (TrackInv cell ∧ TrackInv many) ∧ cell.stationOn 3 = some 2 ∧
    (let t := after (fd 12 0 999999) cell
     t.track.records.map (fun r => (r.seq, r.head, r.gateTime, r.running)) = [(0, 12, mt 10 999999, true)] ∧
       t.track.records.map (fun r => (r.entries.get 0).trigger) = [mt 10 199999] ∧
       t.track.records.map (fun r => (r.entries.get 1).verdictBy) = [mt 10 699999]) ∧
    (let t := after (fd 1 0 800000) cell
     t.track.lateFill = 1 ∧ t.track.records.map (fun r => (r.entries.get 0).state) = [.missing] ∧
       notice .lc 4 t = some (2, 3)) ∧
    (let t := after (fd 1 0 0) cell
     t.track.escaped = 1 ∧ t.track.records = [] ∧ notice .lc 4 t = some (2, 1)) ∧
    (after (fd 1 3 0) cell).track.counts.get 1 = 1 ∧
    (let t := after (fd 1 0 999999) shut
     t.track.windowEnd = some (mt 11 29999) ∧ t.track.full = 1 ∧ (t.outputs.get 7).hold = true ∧
       notice .sc 3 t = some (256, 1)) ∧
    ((after (fd 1 0 999999) many).track.windowEnd = some (mt 11 29999) ∧ notice .lc 3 (after (fd 1 0 999999) many) = none) ∧
    (after (.fillDone 3 0 2 1 0 10 1) cell).track.future = 1 ∧
    notice .lc 13 (after (.fillDone 14 0 20 1 0 9 0) cell) = some (20, 9) ∧
    notice .lc 13 (after (fd 13 0 0) cell) = some (2, 10) ∧ notice .lc 13 (after (fd 0 0 0) cell) = some (2, 10) ∧
    notice .lc 13 (after (fd 1 4 0) cell) = some (2, 6) ∧
    notice .lc 13 (after (.fillDone 3 0 2 1 0 9 1000000000) cell) = some (2, 6) := by
  refine ⟨⟨?_, ?_⟩, ?_⟩
  · unfold TrackInv; decide +kernel
  · unfold TrackInv; decide +kernel
  · decide +kernel

/-- R171: a FILL-DONE whose stamp was made before a step of MT. The step has moved MT past the trigger time of its record, and
the entry is WAITING all the same, for it is compared with the stamp; with the MT after the step it is MISSING. A fill MT
later than the stamp is clamped to it. -/
theorem test_step_does_not_move_the_stamp :
    let s := after (.sync 0 0 0 41 10 70000000) { cell with time := (locked up).time }
    let fd := fun (us : Nat) (x : Option Stamp) => Instr.fillDone 3 0 2 1 0 9 (BitVec.ofNat 32 (us * 1000)) x
    let st := fun (t : State) => t.track.records.map fun r => ((r.entries.get 0).state, r.fillMt)
    s.now = mt 10 70000 ∧ s.time.lastOffset.map (·.mt) = some (mt 10 0) ∧
    st (after (fd 800001 (some ⟨mt 10 0, 250000000⟩)) s) = [(.waiting, mt 9 800001)] ∧
    st (after (fd 800001 none) s) = [(.missing, mt 9 800001)] ∧
    (let t := after (fd 800001 (some ⟨mt 9 800000, 250000000⟩)) s
     st t = [(.waiting, mt 9 800000)] ∧ t.track.future = 1) := by decide +kernel

/-- Section 6.6: the trigger of point 0 with its camera in RUN, of point 1 with its camera in HELD, and the verdict deadline,
each at its instant and 1 ns before it. -/
theorem witness_EntryDeadlinesExpire :
    let s := { cell with track := { cell.track with records := [
      record 300 (mt 9 800000) (entry .waiting (mt 10 0) (mt 10 300000)) (entry .waiting (mt 10 0) (mt 10 300000)) (mt 10 800000),
      record 301 (mt 9 800000) (entry .expected (mt 9 0) (mt 10 0)) (entry .waiting (mt 10 0 + 1) (mt 10 1)) (mt 10 800000)] } }
    let st := fun (k : Fin 4) (t : State) => t.track.records.map fun r => (r.entries.get k).state
    seqsUnique s ∧
    (let t := after (.triggerDeadlineExpiry 300 0) s
     st 0 t = [.expected, .expected] ∧ (t.outputs.get 0).pulseEnd = some (mt 10 3000)) ∧
    st 1 (after (.triggerDeadlineExpiry 300 1) s) = [.service, .waiting] ∧
    after (.triggerDeadlineExpiry 301 1) s = s ∧ after (.triggerDeadlineExpiry 301 0) s = s ∧
    st 0 (after (.verdictDeadlineExpiry 301 0) s) = [.waiting, .missing] ∧
    after (.verdictDeadlineExpiry 300 0) s = s := by
  refine ⟨?_, ?_⟩
  · unfold seqsUnique; decide +kernel
  · decide +kernel

/-- Each disposition of R106 at the gate time, a record 1 ns short of it, one with an entry EXPECTED, and the end of the
window at its instant and before it. -/
theorem witness_GateExpiryAndWindowEnd :
    let p := entry .pass 0 0
    let put := fun (r : TrackRecord) (w : Option Int) =>
      { cell with track := { cell.track with records := [r], windowEnd := w }, outWindow := w.isSome }
    let gone := fun (s : State) => (after .gateDeadlineExpiry s).track.lastDeparture.map (·.disposition)
    let r := record 1 0 p p (mt 10 0)
    gone (put r none) = some .pass ∧ gone (put { r with result := .noContainer } none) = some .skip ∧
    gone (put { r with result := .short } none) = some .rejectFill ∧
    gone (put { r with running := false } none) = some .rejectStation ∧
    gone (put (record 1 0 p (entry .service 0 0) (mt 10 0)) none) = some .rejectStation ∧
    gone (put (record 1 0 p (entry (.fail 17) 0 0) (mt 10 0)) none) = some .rejectFail ∧
    gone (put (record 1 0 (entry .missing 0 0) p (mt 10 0)) none) = some .rejectMissing ∧
    gone (put r (some (mt 10 1))) = some .rejectUntracked ∧
    ((after .gateDeadlineExpiry (put { r with result := .over } none)).outputs.get 7).pulseEnd = some (mt 10 60000) ∧
    (let s := put (record 1 0 p p (mt 10 0 + 1)) none
     after .gateDeadlineExpiry s = s) ∧
    (let s := put (record 1 0 p (entry .expected 0 (mt 10 0)) (mt 10 0)) none
     after .gateDeadlineExpiry s = s) ∧
    (let t := after .windowEndExpiry (put r (some (mt 10 0)))
     t.track.windowEnd = none ∧ t.outWindow = false ∧ notice .lc 3 t = some (1, 2)) ∧
    (let s := put r (some (mt 10 0 + 1))
     after .windowEndExpiry s = s) := by decide +kernel

/-- Section 6.6: a match at the edge of the half-window and 1 ns beyond it, a late verdict, repeats with and without conflict,
a stray one in SERVICE, and each message that R117 discards. -/
theorem witness_VerdictIsMatchedToItsEntry :
    let put := fun (a b : EntryState) => { cell with track := { cell.track with records := [
      record 300 0 (entry a (mt 9 0) 0) (entry .pass 0 0) (mt 10 1), record 301 0 (entry b (mt 9 50000) 0) (entry .pass 0 0) (mt 10 2)] } }
    let v := fun (verdict detail : Byte) (ns : Nat) => Instr.verdict 14 0 20 verdict detail 9 (BitVec.ofNat 32 ns)
    let st := fun (t : State) => t.track.records.map fun r => (r.entries.get 0).state
    (seqsUnique (put .expected .expected) ∧ cell.stationOn 14 = some 20) ∧
    (∀ k, (cell.points.get k).enabled = true ∧ (cell.points.get k).camera = 20 → k = 0) ∧
    st (after (v 0 0 2000000) (put .expected .expected)) = [.pass, .expected] ∧
    st (after (v 1 17 52000000) (put .expected .expected)) = [.expected, .fail 17] ∧
    (let t := after (v 1 17 2000001) (put .expected .expected)
     st t = [.expected, .expected] ∧ notice .lc 9 t = some (20, 3)) ∧
    notice .lc 8 (after (v 1 0 0) (put .missing .expected)) = some (20, 2) ∧
    after (v 0 0 0) (put .pass .expected) = put .pass .expected ∧
    (let t := after (v 1 4 0) (put .pass .expected)
     st t = [.fail 4, .expected] ∧ notice .lc 9 t = some (20, 2)) ∧
    (let t := after (v 0 0 0) (put (.fail 4) .expected)
     st t = [.fail 4, .expected] ∧ notice .lc 9 t = some (20, 2)) ∧
    notice .lc 9 (after (v 0 0 0) (put .service .expected)) = some (20, 1) ∧
    notice .lc 13 (after (.verdict 3 0 2 0 0 9 0) cell) = some (2, 11) ∧
    notice .lc 13 (after (v 2 0 0) cell) = some (20, 6) ∧ notice .lc 13 (after (v 0 0 1000000000) cell) = some (20, 6) := by
  refine ⟨⟨?_, ?_⟩, ?_⟩
  · unfold seqsUnique; decide +kernel
  · decide +kernel
  · decide +kernel

/-- OUTPUT-SET into FEED, into GATE with the window open, a change of period, and each check of R137 that fails. -/
theorem witness_OutputSetConfiguresTheOutput :
    let s := { line with outWindow := true }
    let busy := { cell with track := { cell.track with records := [record 1 0 (entry .pass 0 0) (entry .pass 0 0) 0] } }
    (let t := after (.outputSet .lc 1 5 1 1 100000 2 1 1) s
     status .lc t = some .done ∧ (t.outputs.get 5).nextFeed = some (mt 10 100000) ∧ (t.outputs.get 5).mode = .feed) ∧
    ((after (.outputSet .lc 1 5 3 0 1 0 0 0) s).outputs.get 5).hold = true ∧
    ((after (.outputSet .lc 1 2 1 0 80000 6 1 0) cell).outputs.get 2).nextFeed = some (mt 10 1000) ∧
    status .lc (after (.outputSet .lc 1 7 2 0 1 0 0 0) busy) = some .refusedState ∧
    status .lc (after (.outputSet .lc 1 5 3 0 1 0 0 0) cell) = some .refusedConflict ∧
    status .lc (after (.outputSet .lc 1 8 0 0 1 0 0 0) s) = some .refusedRange ∧
    status .lc (after (.outputSet .lc 1 5 4 0 1 0 0 0) s) = some .refusedRange ∧
    status .lc (after (.outputSet .lc 1 5 0 0 0 0 0 0) s) = some .refusedRange ∧
    status .lc (after (.outputSet .lc 1 5 0 0 100001 0 0 0) s) = some .refusedRange := by decide +kernel

/-- NEED on and off, its refusals, the pulse end and the feed instant at their MT (effective width 50 ms, section 7.6) and a
feed instant of an output that does not run. -/
theorem witness_NeedsAndFeedInstantsDriveTheFeed :
    let s := locked { cell with outputs := cell.outputs.upd 0 fun o => { o with pulseEnd := some (mt 10 0) } }
    let on := after (.need 3 0 2 2 1) s
    (s.stationOn 3 = some 2 ∧ (on.outputs.get 2).needs = [2] ∧ ((after (.need 3 0 2 2 0) on).outputs.get 2).needs = []) ∧
    notice .lc 13 (after (.need 3 0 2 8 1) s) = some (2, 6) ∧ notice .lc 13 (after (.need 3 0 2 2 2) s) = some (2, 6) ∧
    notice .lc 13 (after (.need 3 0 2 0 1) s) = some (2, 12) ∧
    ((after (.pulseEndExpiry 0) s).outputs.get 0).pulseEnd = none ∧
    (let u := onMt (mt 9 999999) s
     after (.pulseEndExpiry 0) u = u ∧ after (.feedInstant 2) u = u) ∧
    (let o := (after (.feedInstant 2) s).outputs.get 2
     o.pulseEnd = some (mt 10 50000) ∧ o.nextFeed = some (mt 10 100000) ∧ o.started = 1) ∧
    (let o := (after (.feedInstant 2) cell).outputs.get 2
     o.pulseEnd = none ∧ o.nextFeed = some (mt 10 100000)) := by decide +kernel

/-! ### Service grants (chapter 8) -/

/-- Slot number 4, a wrong number, and a slot that has taken no ask. -/
theorem witness_GrantsAreNamedByTheirNumber :
    let s := granted .asked .observe 0 5 line
    status .lc (after (.grantConcur .lc 1 4 57) s) = some .refusedRange ∧
    status .lc (after (.grantDecline .lc 1 0 58) s) = some .refusedState ∧
    status .sc (after (.grantExtend .sc 1 1 0 60) s) = some .refusedState ∧
    status .sc (after (.grantRelease .sc 1 3 57) s) = some .refusedState ∧
    status .sm (after (.grantRevoke .sm 1 0 56) s) = some .refusedState := by decide +kernel

/-- The worked example of section 8.9: an ask at INTERVENE, one at OBSERVE, a conflict, four slots in use, and the ends of
the ranges. -/
theorem witness_GrantAskTakesASlot :
    let s := granted .asked .intervene 10 12 line
    let full := { line with grants := { line.grants with slots := Tbl.fill 4 { GrantSlot.powerOn with
      state := .asked, ask := some ⟨1, .observe, 0, 0, 60, 0⟩, askTimeout := some 0 } } }
    (GrantInv line ∧ GrantInv s ∧ GrantInv full) ∧
    (let t := after (.grantAsk .sc 1 3 0 23 3600) line
     reply .sc t = some (.done, [0, 0, 0, 1]) ∧ (t.grants.slots.get 0).askTimeout = some (mt 130 0) ∧
       notice .sc 5 t = some (0, 1)) ∧
    reply .sc (after (.grantAsk .sc 1 1 11 11 60) s) = some (.done, [1, 0, 0, 2, 0, 0, 0, 0, 0, 70, 0, 0, 0, 0]) ∧
    status .sc (after (.grantAsk .sc 1 3 12 15 600) s) = some .refusedConflict ∧
    status .sc (after (.grantAsk .sc 1 1 12 15 1) full) = some .refusedFull ∧
    status .sc (after (.grantAsk .sc 1 0 0 0 1) line) = some .refusedRange ∧
    status .sc (after (.grantAsk .sc 1 1 1 0 1) line) = some .refusedRange ∧
    status .sc (after (.grantAsk .sc 1 1 0 24 1) line) = some .refusedRange ∧
    status .sc (after (.grantAsk .sc 1 1 0 0 3601) line) = some .refusedRange := by
  refine ⟨⟨?_, ?_, ?_⟩, ?_⟩
  · unfold GrantInv; decide +kernel
  · unfold GrantInv; decide +kernel
  · unfold GrantInv; decide +kernel
  · decide +kernel

/-- A concurrence at CONFIGURE, at INTERVENE with a HELD station, with one in RUN, and of a slot that is ACTIVE. -/
theorem witness_GrantConcurActivates :
    let s := granted .asked .intervene 15 16 line
    (HandleInv s ∧ StationInv s) ∧ (s.grants.slots.get 0).ask.map (·.number) = some 57 ∧
    (let t := after (.grantConcur .lc 1 0 57) s
     reply .lc t = some (.done, timeBytes (mt 610 0)) ∧ t.stationState 21 = some .service ∧
       t.fabric.outbound = [.cellOut 15 21 .service 4] ∧ (t.grants.slots.get 0).warning = some (mt 550 0)) ∧
    status .lc (after (.grantConcur .lc 1 0 57) (granted .asked .configure 0 23 line)) = some .done ∧
    status .lc (after (.grantConcur .lc 1 0 57) (granted .asked .intervene 14 16 line)) = some .refusedState ∧
    status .lc (after (.grantConcur .lc 1 0 57) (granted .active .observe 14 16 line)) = some .refusedState := by
  refine ⟨⟨?_, ?_⟩, ?_⟩
  · unfold HandleInv; decide +kernel
  · unfold StationInv; decide +kernel
  · decide +kernel

/-- R151, step 3, and R44: two HELD stations move with their ORDERs, and then the CYCLIC streams of both ports are emptied in
ascending stream number, whichever station's port they leave by. -/
theorem test_concur_moves_then_discards :
    let s := granted .asked .intervene 14 15 line
    let two := { s with
      stations := s.stations.set 20 (station .camera 14 0 .held)
      streams := (s.streams.set 7 (stream .lc .cyclic 15 4)).set 9 (stream .sm .cyclic 14 4)
      store := [waiting 1 9 none, waiting 2 7 none, waiting 3 9 none] }
    (after (.grantConcur .lc 1 0 57) two).fabric.outbound =
      [.cellOut 14 20 .service 4, .cellOut 15 21 .service 4, .discard 2 .held, .discard 1 .held, .discard 3 .held] ∧
    (after (.grantConcur .lc 1 0 57) two).store = [] := by decide +kernel

/-- Every cause of an end, the ask timeout and the expiry at their instant and before it, and the refusals. -/
theorem witness_GrantsEndByTheirCauses :
    let a := granted .asked .intervene 15 16 line
    let s := granted .active .intervene 15 16 { line with stations := line.stations.set 21 (station .camera 15 0 .service) }
    let f := granted .free .intervene 15 16 line
    let why := fun (t : State) => ((t.grants.slots.get 0).state, (t.grants.slots.get 0).endReason)
    (HandleInv a ∧ HandleInv s) ∧
    why (after (.grantDecline .lc 1 0 57) a) = (.free, some .declined) ∧
    status .lc (after (.grantDecline .lc 1 0 57) s) = some .refusedState ∧
    why (after (.grantRelease .sc 1 0 57) a) = (.free, some .released) ∧
    (let t := after (.grantRevoke .sm 1 0 57) s
     why t = (.free, some .revoked) ∧ t.stationState 21 = some .held ∧ t.fabric.outbound = [.cellOut 15 21 .hold 4] ∧
       notice .sc 6 t = some (21, 2) ∧ notice .sc 5 t = some (0, 9)) ∧
    status .sc (after (.grantRelease .sc 1 0 57) f) = some .refusedState ∧
    status .lc (after (.grantRevoke .lc 1 0 57) f) = some .refusedState ∧
    why (after (.askTimeoutExpiry 0) a) = (.free, some .timeout) ∧
    why (after (.expiryMtExpiry 0) s) = (.free, some .expired) ∧
    after (.askTimeoutExpiry 0) (onMt (mt 9 999999) a) = onMt (mt 9 999999) a ∧
    after (.expiryMtExpiry 0) (onMt (mt 9 999999) s) = onMt (mt 9 999999) s := by
  refine ⟨⟨?_, ?_⟩, ?_⟩
  · unfold HandleInv; decide +kernel
  · unfold HandleInv; decide +kernel
  · decide +kernel

/-- GRANT-POLICY at the ends of its range; the extension of the worked example of section 8.9, bound by the policy; one that
moves nothing; the refusals; and the warning at its instant and before it. -/
theorem witness_LeasesAreExtendedAndWarned :
    let g1 : GrantSlot := ⟨.active, some ⟨57, .intervene, 10, 12, 600, mt 1000 0⟩, none, some (mt 1020 0), some (mt 1620 0),
      none, true, none⟩
    let s := onMt (mt 1570 0) { line with grants := { line.grants with slots := line.grants.slots.set 1 g1 } }
    let g := fun (t : State) => t.grants.slots.get 1
    (after (.grantPolicy .lc 1 60) s).grants.maxLease = 60 ∧ (after (.grantPolicy .lc 1 14400) s).grants.maxLease = 14400 ∧
    status .lc (after (.grantPolicy .lc 1 59) s) = some .refusedRange ∧
    status .lc (after (.grantPolicy .lc 1 14401) s) = some .refusedRange ∧
    (let t := after (.grantExtend .sc 1 1 57 1500) s
     (g t).expiry = some (mt 2820 0) ∧ (g t).warning = some (mt 2760 0) ∧ (g t).warned = false ∧
       reply .sc t = some (.done, timeBytes (mt 2820 0)) ∧ notice .lc 5 t = some (1, 4)) ∧
    (let t := after (.grantExtend .sc 1 1 57 60) (after (.grantPolicy .lc 1 600) s)
     (g t).expiry = some (mt 1620 0) ∧ (g t).warned = true ∧ notice .lc 5 t = none) ∧
    status .sc (after (.grantExtend .sc 1 1 57 0) s) = some .refusedRange ∧
    status .sc (after (.grantExtend .sc 1 1 57 3601) s) = some .refusedRange ∧
    status .sc (after (.grantExtend .sc 1 0 57 60) (granted .asked .observe 0 0 line)) = some .refusedState ∧
    status .sc (after (.grantExtend .sc 1 0 57 0) (granted .asked .observe 0 0 line)) = some .refusedRange ∧
    status .sc (after (.grantExtend .sc 1 0 58 0) (granted .asked .observe 0 0 line)) = some .refusedState ∧
    (let w := granted .active .observe 0 0 line
     ((after (.warningTimeExpiry 0) w).grants.slots.get 0).warned = true ∧
       ((after (.warningTimeExpiry 0) { w with sc := { w.sc with
         slot := .workingHeld .partInfo 1 } }).grants.slots.get 0).warned = true ∧
       after (.warningTimeExpiry 0) (onMt (mt 9 999999) w) = onMt (mt 9 999999) w) := by decide +kernel

/-! ### The fabric link (chapter 9) -/

/-- Each event of the lane in UP and in DOWN, and the alignment timer at 100 µs and one period beyond. -/
theorem witness_LinkComesUpAndSends :
    let late := fun (d : Nat) => { up with fabric := { up.fabric with alignTimer := some d } }
    (State.reset.fabric.up = false ∧ (after .trainingComplete State.reset).fabric.outbound = [.resync] ∧
      notice .sm 14 (after .trainingComplete State.reset) = some (1, 1)) ∧
    after .trainingComplete up = up ∧ (after .lossOfAlignment up).fabric.alignTimer = some 250002500 ∧
    after .lossOfAlignment (late 9) = late 9 ∧ (after .alignmentRegained (late 250000000)).fabric.alignTimer = none ∧
    after .alignmentRegained (late 249999999) = late 249999999 ∧
    (let s := { up with fabric := { up.fabric with outbound := [.release 0x1234 6, .resync] } }
     (after .outboundMessageSent s).fabric.outbound = [.resync]) ∧
    after .outboundMessageSent up = up := by decide +kernel

/-- The worked example of section 9.6: the loss at 100 µs, at the restart signal, and not before the 100 µs. -/
theorem witness_LinkLossVoidsWhatTheFabricHolds :
    let s := { line with fabric := { line.fabric with alignTimer := some 250000000, outbound := [.discard 88 .stale] } }
    (let t := after .alignmentLossExpiry s
     t.fabric.up = false ∧ t.fabric.outbound = [] ∧ t.store = [] ∧ t.voids = 5 ∧ (t.streams.get 70).state = .free ∧
       t.stationState 2 = some .absent ∧ notice .lc 14 t = some (0, 2)) ∧
    (after .restartSignal line).fabric.up = false ∧ after .restartSignal State.reset = State.reset ∧
    (let u := { s with fabric := { s.fabric with alignTimer := some 250000001 } }
     after .alignmentLossExpiry u = u) := by decide +kernel

/-- A wrong check value, a wrong length, fields one beyond their ranges, and a message in DOWN. -/
theorem witness_InboundMessagesAreChecked :
    let err := fun (c : Instr) => notice .lc 13 (after c up)
    (checkCrc [1, 5, 0, 0]).2 = false ∧ err (.malformedMessage 1 [5, 0, 0]) = some (1, 1) ∧
    (checkCrc (1 :: (withCrc [1, 1, 0]).drop 1)).2 = true ∧ err (.malformedMessage 1 ((withCrc [1, 1, 0]).drop 1)) = some (1, 2) ∧
    err (.sent 1 0 1000000000) = some (2, 2) ∧ err (.portState 24 0 0 0) = some (3, 2) ∧
    err (.portState 23 2 0 0) = some (3, 2) ∧ err (.cellIn 24 1 0 0 []) = some (4, 2) ∧
    State.reset.fabric.up = false ∧ after (.enqueue 0 1 64) State.reset = State.reset := by decide +kernel

/-- The worked example of section 9.6, "checking cell messages": each outcome of its table. -/
theorem witness_CellMessagesAreChecked :
    let err := fun (c : Instr) => notice .lc 13 (after c line)
    err (.sync 3 0 31 1 0 0) = some (3, 5) ∧ err (.fillDone 14 0 20 1 0 0 0) = some (20, 9) ∧
    err (.verdict 3 0 20 0 0 0 0) = some (3, 5) ∧ err (.need 16 0 16 0 1) = some (16, 5) ∧
    err (.backoff 3 0 20 0) = some (3, 5) ∧ err (.cellIn 3 6 0 2 []) = some (3, 3) ∧
    err (.cellIn 3 0 0 2 []) = some (3, 3) ∧
    err (.cellIn 3 2 0 2 (List.replicate 10 0)) = some (3, 4) ∧ err (.cellIn 3 1 0 2 (List.replicate 12 0)) = some (3, 4) ∧
    (after (.cellIn 3 6 0 2 []) line).fabric.rejectedCells = 1 ∧
    (line.stationOn 3 = some 2 ∧ (after (.cellIn 3 4 0xB1 2 [0]) line).backoff.unmatched = 1) := by decide +kernel

/-! ### Master links and resets (chapter 10) -/

/-- The worked example of section 10.1, each WRITE and READ from the state before it, and each check of R179 that fails. -/
theorem witness_TransactionsMoveTheSlot :
    let slot := fun (x : Slot) => { line with lc := { line.lc with slot := x } }
    let r : Reply := { code := 0x22, tag := 10, status := .done, body := [] }
    (let t := after (.write .lc (requestBytes 10 (.stationRun 21))) line
     t.lc.slot = .workingHeld (.stationRun 21) 10 ∧ t.lc.overrun = false) ∧
    (let t := after (.write .lc (requestBytes 11 (.stationHold 20))) (slot (.workingAnswered r))
     t.lc.overrun = true ∧ t.stationState 20 = some .run) ∧
    (after (.replyPlaced .lc) (slot (.workingAnswered r))).lc.slot = .ready r ∧
    (after (.write .lc (requestBytes 12 (.timeReport 0))) (slot (.ready r))).lc.overrun = true ∧
    (let t := after (.read .lc [0, 0, 0]) (slot (.ready r))
     t.lc.slot = .idle ∧ t.lc.spiOut = [2, 0]) ∧
    (after (.read .lc [0, 0]) (slot (.workingAnswered r))).lc.spiOut = [1] ∧
    after (.read .lc []) line = line ∧ after (.replyPlaced .lc) line = line ∧
    status .lc (after (.write .lc [1, 0x22, 10, 5]) line) = some .checkError ∧
    status .lc (after (.write .lc [2, 0x22, 10, 5, 0, 0]) line) = some .checkError ∧
    status .lc (after (.write .lc (withCrc [0, 0x25, 10])) line) = some .unknownRequest ∧
    status .lc (after (.write .lc (withCrc [2, 0x22, 10, 5, 6])) line) = some .lengthError ∧
    status .lc (after (.write .lc (requestBytes 10 (.grantAsk 1 0 0 1))) line) = some .refusedRights := by decide +kernel

/-- Section 10.5's examples of NOTICE-TAKE, NOTICE-MASK and NOTICE-CLEAR: classes 7 and 13 pending, 13 enabled. -/
theorem witness_NoticesArePostedAndTaken :
    let s := { up with lc := { up.lc with
      mask := 0x1000
      notices := (up.lc.notices.set 6 (some ⟨mt 5 10000, 5, 3, true⟩)).set 12 (some ⟨mt 5 1200, 40, 9, true⟩) } }
    (s.lc.attnLow = true ∧ (s.link .lc).slot.working = false) ∧
    reply .lc (after (.noticeTake .lc 1) s) =
      some (.done, [7, 0, 0, 0, 0, 0, 5, 0, 0x98, 0x96, 0x80, 0, 0, 0, 5, 3, 1, 0x10, 0]) ∧
    (reply .lc (after (.noticeTake .lc 1) up)).map (·.2.take 2) = some [0, 0xFF] ∧
    reply .lc (after (.noticeMask .lc 1 0x40) s) = some (.done, [0x10, 0, 0x10, 0x40]) ∧
    reply .lc (after (.noticeClear .lc 1) s) = some (.done, [0x10, 0x40]) ∧
    (after (.noticeClear .lc 1) s).lc.attnLow = false := by decide +kernel

/-- R183: a post to a clear class fills its detail, whatever the mask, a second one sets "more" and keeps the rest, and no
other class is touched; R184: port 15 is covered by an ACTIVE grant of ports 15 and 16, port 14 is not. -/
theorem test_post :
    let once := deliver (noticeStation 5 .held) 7 up.lc
    let twice := deliver (noticeRemoved 9) 8 once
    let g := granted .active .observe 15 16 line
    once.notices.get 6 = some ⟨7, 5, 2, false⟩ ∧ twice.notices.get 6 = some ⟨7, 5, 2, true⟩ ∧
    (numbers 16).all (fun c => c == 6 || twice.notices.get c == none) = true ∧ twice.mask = 0 ∧
    g.coveredAt .observe (some 15) = true ∧ g.coveredAt .observe (some 14) = false ∧
    g.coveredAt .observe none = false := by decide +kernel

/-- Sections 11.3 and 11.5: a reply with OVERRUN, the status byte of READY with OVERRUN, and an ORDER, byte by byte up to
the check value, which leaves the remainder 0. -/
theorem test_framing :
    (let r := Layout.reply ⟨0x22, 10, .refusedState, [7]⟩ true
     r.take 7 = [0, 1, 0x22, 10, 3, 1, 7] ∧ r.length = 9 ∧ Layout.crc r = 0) ∧
    Layout.slotStatus { up.lc with slot := .ready ⟨0x22, 10, .done, []⟩, overrun := true } = 0x82 ∧
    (let m := Layout.outbound (.cellOut 14 20 .hold 4)
     m.take 9 = [0x83, 7, 14, 6, 0, 20, 2, 2, 4] ∧ m.length = 11 ∧ Layout.crc m = 0) := by decide +kernel

/-- A slot that is not in WORKING: NOTICE-CLEAR of no class, and LINK-RESET. -/
theorem witness_NoticeClearClearsItsLink :
    (line.link .sc).slot.working = false ∧ reply .sc (after (.noticeClear .sc 1) line) = some (.done, [0, 0]) := by
  decide +kernel

/-- R189: the reply of LINK-RESET is placed in READY within the request. -/
theorem witness_LinkResetResetsItsLink :
    (line.link .sc).slot.working = false ∧ (after (.linkReset .sc 9) line).sc.slot = .ready ⟨0x93, 9, .done, []⟩ ∧
    (after (.linkReset .sc 9) line).lc = line.lc := by decide +kernel

/-- Section 2.7's warm reset: a RUN station goes to HELD with its ORDER after the RESYNC; PART-RESET on LC; PORST. -/
theorem witness_ResetsRestartThePart :
    allowed .lc .partReset = true ∧
    (let t := after .warmReset line
     t.stationState 20 = some .held ∧ t.fabric.outbound = [.resync, .cellOut 3 2 .hold 4, .cellOut 14 20 .hold 4] ∧
       t.store = [] ∧ t.track.windowEnd = some (mt 12 10000) ∧ notice .sc 15 t = some (0, 3)) ∧
    (let t := after (.partReset .lc 9) line
     t.lc.slot = .ready ⟨0x95, 9, .done, []⟩ ∧ t.sm.slot = .idle ∧ notice .sm 15 t = some (0, 2)) ∧
    status .sc (after (.partReset .sc 9) line) = some .refusedRights ∧
    after .powerOnReset (onMt 0 line) = { State.reset with time := { State.reset.time with clock25 := 250000000 } } := by
  decide +kernel

/-! ### Properties that every step keeps -/

/-- The line answers a next state, and has each property. -/
theorem witness_EveryStepKeepsTheClock :
    ((step (line.withQueue [.mtAdvance]) = .next (after .mtAdvance line)) ∧ MtInv line) ∧ ClockInv (locked line) := by
  refine ⟨⟨rfl, ?_⟩, ?_⟩
  · exact ⟨by decide +kernel, by decide +kernel, by decide +kernel⟩
  · unfold ClockInv; decide +kernel

/-- The greatest rate correction. -/
theorem witness_RateStaysWithinItsRange :
    RateInv { line with time := { line.time with rate := 200000, iTerm := -200000 } } :=
  ⟨by decide +kernel, by decide +kernel, by decide +kernel, by decide +kernel⟩

/-- A store with PENDING and WIRE-HELD descriptors and handles outstanding. -/
theorem witness_EveryStepKeepsTheStore :
    step (line.withQueue [.release 6]) = .next (after (.release 6) line) ∧
    LinkInv line ∧ HandleInv line ∧ StreamInv line ∧ CreditInv line := by
  refine ⟨rfl, ?_, ?_, ?_, ?_⟩
  · unfold LinkInv; decide +kernel
  · unfold HandleInv; decide +kernel
  · unfold StreamInv; decide +kernel
  · unfold CreditInv Stream.ranged; decide +kernel

/-- A track of two records, and the window open with its output held. -/
theorem witness_EveryStepKeepsTheTrack :
    let bare := (cell.points.upd 2 fun q => { q with travelUs := 0, allowanceUs := 0 }).upd 3 fun q =>
      { q with travelUs := 0, allowanceUs := 0 }
    let one := fun n => record n 0 (entry .pass 200000000 500000000) (entry .pass 400000000 700000000) 1000000000
    let s := { cell with
      points := bare, track := { cell.track with windowEnd := some 5, records := [one 1, one 2] }
      outWindow := true, outputs := cell.outputs.upd 7 fun o => { o with hold := true } }
    (TrackInv s ∧ HoldInv s) ∧ step (s.withQueue [.windowEndExpiry]) = .next (after .windowEndExpiry s) := by
  refine ⟨⟨?_, ?_⟩, rfl⟩
  · unfold TrackInv; decide +kernel
  · unfold HoldInv; decide +kernel

/-- Three stations, and an ACTIVE grant at INTERVENE. -/
theorem witness_EveryStepKeepsStationsAndGrants :
    StationInv line ∧ GrantInv (granted .active .intervene 15 16 line) ∧
    step (line.withQueue [.stationRemove .lc 1 21]) = .next (after (.stationRemove .lc 1 21) line) := by
  refine ⟨?_, ?_, rfl⟩
  · unfold StationInv; decide +kernel
  · unfold GrantInv; decide +kernel

end Sys2Proof.Tests
end

section
/-! The parts of the state that each request and each event may change. -/

namespace Sys2Proof.Machine

/-! ### Requests -/

/-- The parts that the owner of a request may change, its reply slot apart. -/
def ownerParts : Request → List Part
  | .timeConfig .. => [.time] ++ allLinks
  | .timePulseSet .. | .timeStepLock .. | .timeFaultClear .. => [.time]
  | .stationSet .. | .stationRemove .. => [.stations, .outputs, .streams, .fabric] ++ allLinks
  | .stationRun .. | .stationHold .. => stationParts
  | .streamOpen .. => [.streams]
  | .streamClose .. | .streamAdjust .. => discardParts
  | .queueSet .. => [.queues]
  | .backoffMatch .. => [.backoff]
  | .portSet .. => [.ports]
  | .pointSet .. => [.points]
  | .gateSet .. => [.gate]
  | .trackReport .. => [.track]
  | .outputSet .. => [.outputs]
  | .grantAsk .. | .grantExtend .. => [.grants] ++ allLinks
  | .grantConcur .. | .grantDecline .. | .grantRelease .. | .grantRevoke .. => [.grants] ++ stationParts
  | .grantPolicy .. => [.grants]
  | .noticeTake | .noticeClear | .noticeMask .. | .linkReset => allLinks
  | .partReset => warmParts
  | _ => []

theorem link_mem_allLinks (l : Link) : Part.link l ∈ allLinks := by cases l <;> decide

theorem State.onLink_frame_all (l : Link) (f : LinkRec → LinkRec) (s : State) : SameBut allLinks s (s.onLink l f) :=
  (State.onLink_frame l f s).mono fun _ hp => List.mem_singleton.1 hp ▸ link_mem_allLinks l

/-- An owner's answer chosen by a check. -/
theorem SameBut.answer_ite {ps : List Part} {s : State} {a b : Answer} (c : Prop) [Decidable c]
    (h : SameBut ps s a.state) (k : SameBut ps s b.state) : SameBut ps s (if c then a else b).state := by
  split <;> assumption

theorem points_frame (x : Tbl Point 4) (s : State) : SameBut [.points] s { s with points := x } := by
  intro p hp
  cases p with
  | points => exact absurd (List.mem_singleton_self _) hp
  | _ => rfl

theorem gate_frame (x : Gate) (s : State) : SameBut [.gate] s { s with gate := x } := by
  intro p hp
  cases p with
  | gate => exact absurd (List.mem_singleton_self _) hp
  | _ => rfl

theorem backoff_frame (x : BackoffMatch) (s : State) : SameBut [.backoff] s { s with backoff := x } := by
  intro p hp
  cases p with
  | backoff => exact absurd (List.mem_singleton_self _) hp
  | _ => rfl

theorem grants_frame (x : GrantTable) (s : State) : SameBut [.grants] s { s with grants := x } := by
  intro p hp
  cases p with
  | grants => exact absurd (List.mem_singleton_self _) hp
  | _ => rfl

/-! #### The Time Unit -/

theorem ownTimeConfig_frame {a b c : Byte} {ms : BitVec 16} {pd ud : BitVec 32} {kp ki : Byte} {st : BitVec 16}
    {lk : BitVec 32} {q : Byte} {h : BitVec 32} {g e : Byte} (s : State) :
    SameBut ([.time] ++ allLinks) s (ownTimeConfig a b c ms pd ud kp ki st lk q h g e s).state := by
  unfold ownTimeConfig
  split
  · exact configureTime_frame _ s
  · exact .refl _ s

theorem ownTimePulseSet_frame {op : Byte} {x : BitVec 48} (s : State) :
    SameBut [.time] s (ownTimePulseSet op x s).state :=
  .answer_ite _ (State.onTime_frame _ s) (.answer_ite _ (State.onTime_frame _ s) (.refl _ s))

theorem ownTimeStepLock_frame {v : Byte} (s : State) : SameBut [.time] s (ownTimeStepLock v s).state := by
  unfold ownTimeStepLock
  split
  · exact State.onTime_frame _ s
  · exact .refl _ s

theorem ownTimeFaultClear_frame {v : Byte} (s : State) : SameBut [.time] s (ownTimeFaultClear v s).state :=
  .answer_ite _ (State.onTime_frame _ s) (.refl _ s)

/-! #### Stations and streams -/

theorem ownStationSet_frame {a b c d : Byte} (s : State) :
    SameBut ([.stations, .outputs, .streams, .fabric] ++ allLinks) s (ownStationSet a b c d s).state := by
  unfold ownStationSet
  split
  · exact .answer_ite _ (.refl _ s) <| .answer_ite _ (.refl _ s) <| .answer_ite _ (.refl _ s) <|
      .answer_ite _ (.refl _ s) <| .answer_ite _ (.refl _ s) (configure_frame _ _ _ _ s)
  · exact .refl _ s

theorem ownStationRemove_frame {a : Byte} (s : State) :
    SameBut ([.stations, .outputs, .streams, .fabric] ++ allLinks) s (ownStationRemove a s).state := by
  have hr (i : Fin 32) : SameBut ([.stations, .outputs, .streams, .fabric] ++ allLinks) s (remove i s) :=
    (remove_frame i s).mono (by decide)
  unfold ownStationRemove
  split
  · exact .refl _ s
  · split
    · exact .answer_ite _ (.refl _ s) (hr _)
    · exact .answer_ite _ (.refl _ s) (hr _)
    · exact .refl _ s

theorem ownStationRun_frame {a : Byte} (s : State) : SameBut stationParts s (ownStationRun a s).state := by
  unfold ownStationRun
  split
  · exact .refl _ s
  · exact .answer_ite _ (moveStation_frame _ _ s) (.refl _ s)

theorem ownStationHold_frame {a : Byte} (s : State) : SameBut stationParts s (ownStationHold a s).state := by
  unfold ownStationHold
  split
  · exact .refl _ s
  · split
    · exact moveStation_frame _ _ s
    · exact .refl _ s
    · exact .refl _ s
    · exact .refl _ s

theorem ownStreamOpen_frame (l : Link) {a b c d e f g : Byte} {st : BitVec 32} {r w : Byte} (s : State) :
    SameBut [.streams] s (ownStreamOpen l a b c d e f g st r w s).state := by
  unfold ownStreamOpen
  split
  · exact .answer_ite _ (.refl _ s) <| .answer_ite _ (.refl _ s) <|
      .answer_ite _ (.refl _ s) (State.onStream_frame _ _ s)
  · exact .refl _ s

theorem ownStreamClose_frame (l : Link) {a b : Byte} (s : State) :
    SameBut discardParts s (ownStreamClose l a b s).state := by
  unfold ownStreamClose
  split
  · exact .answer_ite _ (.refl _ s) <| .answer_ite _ (.refl _ s) <| .answer_ite _ (.refl _ s) <|
      .answer_ite _ (closeFlush_frame _ _ s) <|
        .ite _ (closeFlush_frame _ _ s) ((closeDrain_frame _ _ s).mono (by decide))
  · exact .refl _ s

theorem ownStreamAdjust_frame (l : Link) {a b c d e : Byte} {st : BitVec 32} (s : State) :
    SameBut discardParts s (ownStreamAdjust l a b c d e st s).state := by
  unfold ownStreamAdjust
  split
  · exact .answer_ite _ (.refl _ s) <| .answer_ite _ (.refl _ s) <| .answer_ite _ (.refl _ s) <|
      .answer_ite _ (.refl _ s) <| ((State.onStream_frame _ _ s).mono (by decide)).trans (discardList_frame _ _ _)
  · exact .refl _ s

/-! #### Queues, ports, points, the gate and outputs -/

theorem ownQueueSet_frame {a b : Byte} {p : BitVec 32} {c : Byte} (s : State) :
    SameBut [.queues] s (ownQueueSet a b p c s).state := by
  unfold ownQueueSet
  split
  · exact State.onQueue_frame _ _ s
  · exact .refl _ s

theorem ownBackoffMatch_frame {a b : Byte} (s : State) : SameBut [.backoff] s (ownBackoffMatch a b s).state :=
  .answer_ite _ (.refl _ s) (backoff_frame _ s)

theorem ownPortSet_frame {a b : Byte} (s : State) : SameBut [.ports] s (ownPortSet a b s).state := by
  unfold ownPortSet
  split
  · exact State.onPort_frame _ _ s
  · exact .refl _ s

theorem ownPointSet_frame {a b c d e : Byte} {x y z : BitVec 32} (s : State) :
    SameBut [.points] s (ownPointSet a b c d e x y z s).state := by
  unfold ownPointSet
  split
  · exact .answer_ite _ (.refl _ s) <| .answer_ite _ (.refl _ s) <| .answer_ite _ (.refl _ s) <|
      .answer_ite _ (.refl _ s) <| .answer_ite _ (.refl _ s) (points_frame _ s)
  · exact .refl _ s

theorem ownGateSet_frame {a : Byte} {x y z : BitVec 32} (s : State) :
    SameBut [.gate] s (ownGateSet a x y z s).state := by
  unfold ownGateSet
  split
  · exact .refl _ s
  · exact .answer_ite _ (.refl _ s) <| .answer_ite _ (.refl _ s) <| .answer_ite _ (.refl _ s) (gate_frame _ s)

theorem ownTrackReport_frame (l : Link) {a : Byte} (s : State) : SameBut [.track] s (ownTrackReport l a s).state := by
  unfold ownTrackReport
  split
  · exact .refl _ s
  · exact .answer_ite _ (State.onTrack_frame _ s) (.refl _ s)
  · exact .refl _ s

theorem ownOutputSet_frame {a b c : Byte} {w : BitVec 32} {p e r : Byte} (s : State) :
    SameBut [.outputs] s (ownOutputSet a b c w p e r s).state := by
  unfold ownOutputSet
  split
  · exact .answer_ite _ (.refl _ s) <| .answer_ite _ (.refl _ s) (State.onOutput_frame _ _ s)
  · exact .refl _ s

/-! #### Grants -/

theorem ownGrantAsk_frame {a b c : Byte} {x : BitVec 16} (s : State) :
    SameBut ([.grants] ++ allLinks) s (ownGrantAsk a b c x s).state := by
  unfold ownGrantAsk
  split
  · exact .refl _ s
  · refine .answer_ite _ (.refl _ s) ?_
    split
    · exact .refl _ s
    · exact takeAsk_frame _ _ s

theorem ownGrantConcur_frame {a : Byte} {n : BitVec 16} (s : State) :
    SameBut ([.grants] ++ stationParts) s (ownGrantConcur a n s).state := by
  unfold ownGrantConcur
  split
  · exact .refl _ s
  · dsimp only
    split
    · exact .answer_ite _ (.refl _ s) (concur_frame _ _ s)
    · exact .refl _ s

theorem ownGrantDecline_frame {a : Byte} {n : BitVec 16} (s : State) :
    SameBut ([.grants] ++ stationParts) s (ownGrantDecline a n s).state := by
  unfold ownGrantDecline
  split
  · exact .refl _ s
  · exact .answer_ite _ (endGrant_frame _ _ s) (.refl _ s)

theorem ownGrantExtend_frame {a : Byte} {n x : BitVec 16} (s : State) :
    SameBut ([.grants] ++ allLinks) s (ownGrantExtend a n x s).state := by
  have hs (k : Fin 4) (f : GrantSlot → GrantSlot) : SameBut ([.grants] ++ allLinks) s (s.onSlot k f) :=
    (State.onSlot_frame k f s).mono (by decide)
  unfold ownGrantExtend
  split
  · exact .refl _ s
  · dsimp only
    split
    · exact .refl _ s
    · split
      · exact .ite _ (hs _ _) ((hs _ _).trans ((postAll_frame _ _).mono (by decide)))
      · exact .refl _ s

theorem ownGrantRelease_frame {a : Byte} {n : BitVec 16} (s : State) :
    SameBut ([.grants] ++ stationParts) s (ownGrantRelease a n s).state := by
  unfold ownGrantRelease
  split
  · exact .refl _ s
  · exact .answer_ite _ (.refl _ s) (endGrant_frame _ _ s)

theorem ownGrantRevoke_frame {a : Byte} {n : BitVec 16} (s : State) :
    SameBut ([.grants] ++ stationParts) s (ownGrantRevoke a n s).state := by
  unfold ownGrantRevoke
  split
  · exact .refl _ s
  · exact .answer_ite _ (.refl _ s) (endGrant_frame _ _ s)

theorem ownGrantPolicy_frame {x : BitVec 16} (s : State) : SameBut [.grants] s (ownGrantPolicy x s).state := by
  unfold ownGrantPolicy
  split
  · exact grants_frame _ s
  · exact .refl _ s

/-! #### Notices -/

theorem ownNoticeTake_frame (l : Link) (s : State) : SameBut allLinks s (ownNoticeTake l s).state := by
  unfold ownNoticeTake
  dsimp only
  split
  · split
    · exact State.onLink_frame_all l _ s
    · exact .refl _ s
  · exact .refl _ s

/-! #### Reports -/

theorem ownTimeReport_frame {a : Byte} (s : State) : SameBut [] s (ownTimeReport a s).state :=
  .answer_ite _ (.refl _ s) (.answer_ite _ (.refl _ s) (.refl _ s))

theorem ownStationReport_frame (l : Link) {a b : Byte} (s : State) : SameBut [] s (ownStationReport l a b s).state :=
  .answer_ite _ (.refl _ s) (.answer_ite _ (.refl _ s) (.refl _ s))

theorem reportStream_frame (l : Link) {a : Byte} (s : State) : SameBut [] s (reportStream l a s).state := by
  unfold reportStream
  split
  · exact .answer_ite _ (.refl _ s) (.refl _ s)
  · exact .refl _ s

theorem reportStation_frame (l : Link) {a : Byte} (s : State) : SameBut [] s (reportStation l a s).state := by
  unfold reportStation
  split
  · exact .answer_ite _ (.refl _ s) (.refl _ s)
  · exact .refl _ s

theorem ownStreamReport_frame (l : Link) {a b : Byte} (s : State) : SameBut [] s (ownStreamReport l a b s).state :=
  .answer_ite _ (reportStream_frame l s) <| .answer_ite _ (reportStation_frame l s) <|
    .answer_ite _ (.answer_ite _ (.refl _ s) (.refl _ s)) (.refl _ s)

theorem ownQueueReport_frame {a : Byte} (s : State) : SameBut [] s (ownQueueReport a s).state := by
  unfold ownQueueReport
  split <;> exact .refl _ s

theorem ownPortReport_frame {a : Byte} (s : State) : SameBut [] s (ownPortReport a s).state := by
  unfold ownPortReport
  split <;> exact .refl _ s

theorem ownOutputReport_frame {a : Byte} (s : State) : SameBut [] s (ownOutputReport a s).state := by
  unfold ownOutputReport
  split <;> exact .refl _ s

/-! #### Every owner -/

/-- The owner of a request changes none but the parts listed for it. -/
theorem owner_frame (r : Request) (l : Link) (s : State) : SameBut (ownerParts r) s (owner r l s).state := by
  cases r with
  | timeConfig => exact ownTimeConfig_frame s
  | timePulseSet => exact ownTimePulseSet_frame s
  | timeStepLock => exact ownTimeStepLock_frame s
  | timeFaultClear => exact ownTimeFaultClear_frame s
  | timeReport => exact ownTimeReport_frame s
  | stationSet => exact ownStationSet_frame s
  | stationRemove => exact ownStationRemove_frame s
  | stationRun => exact ownStationRun_frame s
  | stationHold => exact ownStationHold_frame s
  | stationReport => exact ownStationReport_frame l s
  | streamOpen => exact ownStreamOpen_frame l s
  | streamClose => exact ownStreamClose_frame l s
  | streamAdjust => exact ownStreamAdjust_frame l s
  | streamReport => exact ownStreamReport_frame l s
  | queueSet => exact ownQueueSet_frame s
  | queueReport => exact ownQueueReport_frame s
  | backoffMatch => exact ownBackoffMatch_frame s
  | portSet => exact ownPortSet_frame s
  | portReport => exact ownPortReport_frame s
  | pointSet => exact ownPointSet_frame s
  | gateSet => exact ownGateSet_frame s
  | trackReport => exact ownTrackReport_frame l s
  | outputSet => exact ownOutputSet_frame s
  | outputReport => exact ownOutputReport_frame s
  | grantAsk => exact ownGrantAsk_frame s
  | grantConcur => exact ownGrantConcur_frame s
  | grantDecline => exact ownGrantDecline_frame s
  | grantExtend => exact ownGrantExtend_frame s
  | grantRelease => exact ownGrantRelease_frame s
  | grantRevoke => exact ownGrantRevoke_frame s
  | grantPolicy => exact ownGrantPolicy_frame s
  | noticeTake => exact ownNoticeTake_frame l s
  | noticeClear => exact State.onLink_frame_all l _ s
  | noticeMask => exact State.onLink_frame_all l _ s
  | linkReset => exact State.onLink_frame_all l _ s
  | partReset => exact warm_frame _ s
  | trackList => exact .refl _ s
  | grantReport => exact .refl _ s
  | fabricReport => exact .refl _ s
  | partInfo => exact .refl _ s

end Sys2Proof.Machine
end

section
namespace Sys2Proof.Machine

/-- A command that completes by a choice between an effect and none. -/
theorem SameBut.of_next_ite {ps : List Part} {c : Prop} [Decidable c] {s t u : State}
    (h : Host.Outcome.next (if c then u else s) = (.next t : Result)) (hu : SameBut ps s u) : SameBut ps s t := by
  cases h
  exact .ite c hu (.refl ps s)

/-- A command that completes with no effect. -/
theorem SameBut.of_next_self {ps : List Part} {s t : State} (h : Host.Outcome.next s = (.next t : Result)) :
    SameBut ps s t := by
  cases h
  exact .refl ps s

section events
variable {s t : State}

theorem execStalenessDeadlineExpiry_frame {x : BitVec 16} (h : execStalenessDeadlineExpiry x s = .next t) :
    SameBut discardParts s t := by
  unfold execStalenessDeadlineExpiry at h
  split at h
  · exact .of_next_ite h ((discardPending_frame _ _ s).trans ((drainCheck_frame _ _).mono (by decide)))
  · exact .of_next_self h

theorem execPacingQueueExpiry_frame {q : Fin 8} (h : execPacingQueueExpiry q s = .next t) :
    SameBut [.queues, .streams] s t := by
  unfold execPacingQueueExpiry at h
  dsimp only at h
  split at h
  · exact .of_next_ite h
      (((State.onQueue_frame q _ s).mono (by decide)).trans ((accrueAll_frame q _).mono (by decide)))
  · exact .of_next_self h

theorem execRelease_frame {p : Fin 24} (h : execRelease p s = .next t) :
    SameBut ([.ports, .streams, .store, .fabric] ++ allLinks) s t := by
  unfold execRelease at h
  split at h
  · split at h
    · split at h
      · cases h; exact releaseOne_frame _ _ _ _ _ s
      · exact .of_next_self h
    · exact .of_next_self h
  · exact .of_next_self h

theorem execSentOverdueExpiry_frame {x : BitVec 16} (h : execSentOverdueExpiry x s = .next t) :
    SameBut ([.ports, .streams, .store, .storeDiscards] ++ allLinks) s t := by
  unfold execSentOverdueExpiry at h
  split at h
  · split at h
    · exact .of_next_ite h (writeOff_frame _ _ s)
    · exact .of_next_self h
  · exact .of_next_self h

theorem execTriggerDeadlineExpiry_frame {n : BitVec 16} {i : Fin 4} (h : execTriggerDeadlineExpiry n i s = .next t) :
    SameBut [.track, .outputs] s t := by
  unfold execTriggerDeadlineExpiry at h
  split at h
  · exact .of_next_ite h
      (((setEntry_frame _ _ _ s).mono (by decide)).trans ((askTrigger_frame _ _).mono (by decide)))
  · exact .of_next_self h

theorem execVerdictDeadlineExpiry_frame {n : BitVec 16} {i : Fin 4} (h : execVerdictDeadlineExpiry n i s = .next t) :
    SameBut [.track] s t := by
  unfold execVerdictDeadlineExpiry at h
  split at h
  · exact .of_next_ite h (setEntry_frame _ _ _ s)
  · exact .of_next_self h

theorem execGateDeadlineExpiry_frame (h : execGateDeadlineExpiry s = .next t) : SameBut [.track, .outputs] s t := by
  unfold execGateDeadlineExpiry at h
  split at h
  · exact .of_next_ite h (depart_frame _ _ s)
  · exact .of_next_self h

theorem execWindowEndExpiry_frame (h : execWindowEndExpiry s = .next t) : SameBut trackParts s t :=
  .of_next_ite h ((((State.onTrack_frame _ s).mono (by decide)).trans ((holdEnds_frame _).mono (by decide))).trans
    ((postAll_frame _ _).mono (by decide)))

theorem execAskTimeoutExpiry_frame {k : Fin 4} (h : execAskTimeoutExpiry k s = .next t) :
    SameBut ([.grants] ++ stationParts) s t := .of_next_ite h (endGrant_frame k _ s)

theorem execExpiryMtExpiry_frame {k : Fin 4} (h : execExpiryMtExpiry k s = .next t) :
    SameBut ([.grants] ++ stationParts) s t := .of_next_ite h (endGrant_frame k _ s)

theorem execWarningTimeExpiry_frame {k : Fin 4} (h : execWarningTimeExpiry k s = .next t) :
    SameBut ([.grants] ++ allLinks) s t :=
  .of_next_ite h (((State.onSlot_frame k _ s).mono (by decide)).trans ((postAll_frame _ _).mono (by decide)))

theorem execPulseEndExpiry_frame {o : Fin 8} (h : execPulseEndExpiry o s = .next t) : SameBut [.outputs] s t :=
  .of_next_ite h (State.onOutput_frame o _ s)

theorem execFeedInstant_frame {o : Fin 8} (h : execFeedInstant o s = .next t) : SameBut [.outputs] s t := by
  unfold execFeedInstant at h
  dsimp only at h
  split at h
  · exact .of_next_ite h (State.onOutput_frame o _ s)
  · exact .of_next_self h

theorem execLossOfAlignment_frame (h : execLossOfAlignment s = .next t) : SameBut [.fabric] s t :=
  .of_next_ite h (State.onFabric_frame _ s)

theorem execAlignmentRegained_frame (h : execAlignmentRegained s = .next t) : SameBut [.fabric] s t := by
  unfold execAlignmentRegained at h
  split at h
  · exact .of_next_ite h (State.onFabric_frame _ s)
  · exact .of_next_self h

theorem execOutboundMessageSent_frame (h : execOutboundMessageSent s = .next t) : SameBut [.fabric] s t := by
  unfold execOutboundMessageSent at h
  split at h
  · cases h; exact State.onFabric_frame _ s
  · exact .of_next_self h

theorem execTrainingComplete_frame (h : execTrainingComplete s = .next t) :
    SameBut ([.fabric] ++ allLinks) s t := by
  cases h
  exact .ite _ (.refl _ s) (linkUp_frame s)

theorem execAlignmentLossExpiry_frame (h : execAlignmentLossExpiry s = .next t) : SameBut lossParts s t :=
  .of_next_ite h (linkLost_frame s)

theorem execRestartSignal_frame (h : execRestartSignal s = .next t) : SameBut lossParts s t :=
  .of_next_ite h (linkLost_frame s)

theorem takeWrite_frame (l : Link) (bs : List Byte) (s : State) : SameBut allLinks s (takeWrite l bs s) :=
  .ite _ (State.onLink_frame_all l _ s) ((State.onLink_frame_all l _ s).trans (State.onLink_frame_all l _ _))

theorem execWrite_frame {l : Link} {bs : List Byte} (h : execWrite l bs s = .next t) : SameBut allLinks s t := by
  cases h
  exact takeWrite_frame l bs s

theorem execRead_frame {l : Link} {bs : List Byte} (h : execRead l bs s = .next t) : SameBut allLinks s t := by
  unfold execRead at h
  split at h <;> cases h
  · exact .refl _ s
  · exact .ite _ (takeWrite_frame l _ s) (State.onLink_frame_all l _ s)

theorem execWarmReset_frame (h : execWarmReset s = .next t) : SameBut warmParts s t :=
  Host.Outcome.next.inj h ▸ warm_frame _ s

end events

end Sys2Proof.Machine
end

section
/-! What each operation of the Time Unit makes of its record, what the links hear of it, and what else it changes. -/

namespace Sys2Proof.Machine

/-! ### Operations that change the Time Unit and post -/

/-- The state `t` differs from `s` in the Time Unit, which is `u`, and in what the links have heard at the MT of `s`:
the notices `ns`, in order. -/
structure Moved (u : TimeUnit) (ns : List Heard) (s t : State) : Prop where
  frame : SameBut ([.time] ++ allLinks) s t
  time : t.time = u
  heard : Hears ns s.now s t

theorem State.now_eq_of_time {s t : State} (h : t.time.mt = s.time.mt) : t.now = s.now := by
  rw [State.now, State.now, h]

theorem Moved.refl (s : State) : Moved s.time [] s s := ⟨.refl _ s, rfl, .nil _ s⟩

/-- An operation after one that left MT. -/
theorem Moved.trans {u v : TimeUnit} {ns ms : List Heard} {s t r : State} (h : Moved u ns s t)
    (k : Moved v ms t r) (hm : u.mt = s.time.mt) : Moved v (ns ++ ms) s r := by
  have hn : t.now = s.now := State.now_eq_of_time (by rw [h.time, hm])
  exact ⟨h.frame.trans k.frame, k.time, h.heard.trans (hn ▸ k.heard)⟩

theorem Moved.heard_at {u : TimeUnit} {ns : List Heard} {s t : State} {mt : Int} (h : Moved u ns s t)
    (hm : s.now = mt) : Hears ns mt s t := hm ▸ h.heard

theorem onTime_moved (f : TimeUnit → TimeUnit) (s : State) : Moved (f s.time) [] s (s.onTime f) :=
  ⟨(State.onTime_frame f s).mono (by decide), rfl, (State.onTime_frame f s).hears _ (by simp)⟩

/-- An update of the Time Unit after an operation. -/
theorem Moved.onTime {u : TimeUnit} {ns : List Heard} {s t : State} (h : Moved u ns s t)
    (f : TimeUnit → TimeUnit) : Moved (f u) ns s (t.onTime f) :=
  ⟨h.frame.trans (onTime_moved f t).frame, by rw [State.onTime_time, h.time], h.heard⟩

theorem postAll_moved (n : Notice) (s : State) : Moved s.time [toAll n] s (postAll n s) :=
  ⟨(postAll_frame n s).mono (by decide), rfl, postAll_hears n s⟩

/-- A post after an operation that left MT. -/
theorem Moved.post {u : TimeUnit} {ns : List Heard} {s t : State} (h : Moved u ns s t) (hm : u.mt = s.time.mt)
    (n : Notice) : Moved u (ns ++ [toAll n]) s (postAll n t) := h.time ▸ h.trans (postAll_moved n t) hm

/-! ### Distances of local time -/

theorem localMs_eq (n : Nat) : localMs n = n * 25000 := by unfold localMs localUs periodsPerUs; omega

theorem localSec_eq (n : Nat) : localSec n = n * 25000000 := by unfold localSec; rw [localMs_eq]; omega

theorem TimeConfig.syncLocal_eq (c : TimeConfig) : c.syncLocal = c.syncMs * 25000 := localMs_eq _

/-! ### Clock states (R9, R10) -/

@[simp] theorem TimeUnit.enterClock_mt (c : ClockState) (now : Int) (here : Nat) (u : TimeUnit) :
    (u.enterClock c now here).mt = u.mt := by
  unfold TimeUnit.enterClock; split <;> rfl

@[simp] theorem TimeUnit.enterClock_clock25 (c : ClockState) (now : Int) (here : Nat) (u : TimeUnit) :
    (u.enterClock c now here).clock25 = u.clock25 := by
  unfold TimeUnit.enterClock; split <;> rfl

@[simp] theorem TimeUnit.enterClock_clock (c : ClockState) (now : Int) (here : Nat) (u : TimeUnit) :
    (u.enterClock c now here).clock = c := by
  unfold TimeUnit.enterClock; split <;> rfl

@[simp] theorem TimeUnit.enterClock_selected (c : ClockState) (now : Int) (here : Nat) (u : TimeUnit) :
    (u.enterClock c now here).selected = u.selected := by
  unfold TimeUnit.enterClock; split <;> rfl

/-- A clock state other than HOLDOVER is entered with no holdover deadline (R10). -/
theorem TimeUnit.enterClock_of_ne {c : ClockState} (h : c ≠ .holdover) (now : Int) (here : Nat) (u : TimeUnit) :
    u.enterClock c now here =
      { u with clock := c, lockRun := 0, everLocked := u.everLocked || (c == ClockState.locked)
               holdoverDeadline := none } := by
  simp [TimeUnit.enterClock, h]

/-- DEGRADED is entered from HOLDOVER, the deadline of which is no longer held (R10). -/
theorem TimeUnit.enterClock_degraded (now : Int) (here : Nat) (u : TimeUnit) :
    u.enterClock .degraded now here = { u with clock := .degraded, lockRun := 0, holdoverDeadline := none } := by
  simp [TimeUnit.enterClock]

/-- HOLDOVER is entered with its deadline and the record of its entry (R10). -/
theorem TimeUnit.enterClock_holdover (now : Int) (here : Nat) (u : TimeUnit) :
    u.enterClock .holdover now here =
      { u with clock := .holdover, lockRun := 0, holdoverDeadline := some (here + localSec u.config.holdoverS)
               holdoverMt := some now, holdoverLocal := some here } := by
  simp [TimeUnit.enterClock]

@[simp] theorem enterClock_time (c : ClockState) (s : State) :
    (enterClock c s).time = s.time.enterClock c s.now s.localNow := rfl

@[simp] theorem postClock_time (s : State) : (postClock s).time = s.time := rfl

@[simp] theorem postSelected_time (s : State) : (postSelected s).time = s.time := rfl

theorem enterClock_moved (c : ClockState) (s : State) :
    Moved (s.time.enterClock c s.now s.localNow) [] s (enterClock c s) := onTime_moved _ s

theorem postClock_moved (s : State) :
    Moved s.time [toAll (noticeTimeSource s.time.selected s.time.clock.reason)] s (postClock s) := postAll_moved _ s

theorem postSelected_moved (s : State) :
    Moved s.time [toAll (noticeTimeSource s.time.selected 1)] s (postSelected s) := postAll_moved _ s

theorem changeClock_moved (c : ClockState) (s : State) :
    Moved (s.time.enterClock c s.now s.localNow) [toAll (noticeTimeSource s.time.selected c.reason)] s
      (changeClock c s) := by
  have h := (enterClock_moved c s).trans (postClock_moved (enterClock c s)) (by simp)
  simpa [changeClock] using h

/-! ### Selection (R8) -/

@[simp] theorem TimeUnit.enterClock_choice (c : ClockState) (now : Int) (here : Nat) (u : TimeUnit) :
    (u.enterClock c now here).choice = u.choice := by
  unfold TimeUnit.enterClock; split <;> rfl

@[simp] theorem TimeUnit.select_choice (src : Source) (u : TimeUnit) : (u.select src).choice = u.choice := rfl

@[simp] theorem TimeUnit.select_mt (src : Source) (u : TimeUnit) : (u.select src).mt = u.mt := rfl

@[simp] theorem TimeUnit.select_selected (src : Source) (u : TimeUnit) : (u.select src).selected = src := rfl

/-- The Time Unit after selection is re-evaluated, by the model's table of clock states (R8, R9). -/
def TimeUnit.reselected (now : Int) (here : Nat) (u : TimeUnit) : TimeUnit :=
  let c := u.clock.atSelection u.everLocked u.choice
  if u.choice = u.selected then u
  else if c = u.clock then { u.select u.choice with lockRun := 0 }
  else (u.select u.choice).enterClock c now here

theorem reselect_time (s : State) : (reselect s).time = s.time.reselected s.now s.time.clock25 := by
  unfold reselect TimeUnit.reselected
  dsimp only
  split
  · rfl
  split
  · rfl
  · split <;> rfl

/-- LOCAL is selected exactly in FREE-RUN, HOLDOVER and DEGRADED, and HOLDOVER alone holds its deadline (R9, R10). -/
def TimeUnit.ClockAgrees (u : TimeUnit) : Prop :=
  (u.selected = .localOsc ↔ u.clock = .freeRun ∨ u.clock = .holdover ∨ u.clock = .degraded) ∧
  (u.holdoverDeadline.isSome = true ↔ u.clock = .holdover)

/-- A source other than LOCAL is disciplined in ACQUIRING or LOCKED (R9). -/
theorem TimeUnit.ClockAgrees.running {u : TimeUnit} (h : u.ClockAgrees) (hs : u.selected ≠ .localOsc) :
    u.clock = .acquiring ∨ u.clock = .locked := by
  have hn := fun hc => hs (h.1.2 hc)
  cases hc : u.clock <;> simp [hc] at hn ⊢

theorem TimeUnit.clockAt_source {src : Source} (h : src ≠ .localOsc) (u : TimeUnit) : u.clockAt src = .acquiring :=
  if_pos h

theorem TimeUnit.clockAt_local (u : TimeUnit) :
    u.clockAt .localOsc = if u.clock = .locked ∨ u.everLocked = true then .holdover else .freeRun := rfl

theorem ClockState.atSelection_source {src : Source} (h : src ≠ .localOsc) (c : ClockState) (b : Bool) :
    c.atSelection b src = .acquiring := by
  cases src <;> first | rfl | exact absurd rfl h

/-- Where the clock state agrees with the selection, the model's table of clock states is that of R9. -/
theorem TimeUnit.ClockAgrees.atSelection_eq {u : TimeUnit} (h : u.ClockAgrees) {src : Source}
    (hs : src ≠ u.selected) : u.clock.atSelection u.everLocked src = u.clockAt src := by
  by_cases hl : src = .localOsc
  · subst hl
    rw [TimeUnit.clockAt_local]
    obtain hc | hc := h.running hs.symm <;> simp [ClockState.atSelection, hc]
  · rw [ClockState.atSelection_source hl, TimeUnit.clockAt_source hl]

/-- A change of selection that keeps the clock state keeps ACQUIRING, which holds no holdover deadline. -/
theorem TimeUnit.ClockAgrees.stays_acquiring {u : TimeUnit} (h : u.ClockAgrees) {src : Source}
    (hs : src ≠ u.selected) (hc : u.clockAt src = u.clock) :
    src ≠ .localOsc ∧ u.clock = .acquiring ∧ u.holdoverDeadline = none := by
  have hl : src ≠ .localOsc := by
    rintro rfl
    rw [TimeUnit.clockAt_local] at hc
    obtain hk | hk := h.running hs.symm <;> rw [hk] at hc <;> split at hc <;> cases hc
  have ha : u.clock = .acquiring := hc.symm.trans (TimeUnit.clockAt_source hl u)
  have hd := h.2
  rw [ha] at hd
  exact ⟨hl, ha, by simpa using hd⟩

theorem TimeUnit.clockAt_ne_locked (src : Source) (u : TimeUnit) : u.clockAt src ≠ .locked := by
  unfold TimeUnit.clockAt
  split
  · decide
  · split <;> decide

/-- Where the clock state agrees with the selection, the re-evaluation is that of R8 to R10. -/
theorem TimeUnit.ClockAgrees.reselected_eq {u : TimeUnit} (h : u.ClockAgrees) (now : Int) (here : Nat) :
    u.reselected now here = u.reevaluated now here := by
  by_cases hs : u.choice = u.selected
  · simp [TimeUnit.reselected, TimeUnit.reevaluated, hs]
  by_cases hc : u.clockAt u.choice = u.clock
  · obtain ⟨-, ha, hd⟩ := h.stays_acquiring hs hc
    simp only [TimeUnit.reselected, TimeUnit.reevaluated, h.atSelection_eq hs, hc]
    simp [hs, TimeUnit.select, ha, ← hd]
  by_cases hh : u.clockAt u.choice = .holdover
  · have hn : ClockState.holdover ≠ u.clock := hh ▸ hc
    simp [TimeUnit.reselected, TimeUnit.reevaluated, h.atSelection_eq hs, hs, hh, hn, TimeUnit.select,
      TimeUnit.enterClock_holdover, localSec_eq]
  · have hk := TimeUnit.clockAt_ne_locked u.choice u
    simp [TimeUnit.reselected, TimeUnit.reevaluated, h.atSelection_eq hs, hs, hc, hh, hk, TimeUnit.select,
      TimeUnit.enterClock_of_ne]

/-- What the links hear of a re-evaluation of selection (R8, R9; log entry 17). -/
theorem reselect_hears {s : State} (h : s.time.ClockAgrees) :
    Hears s.time.selectionHeard s.now s (reselect s) := by
  unfold reselect TimeUnit.selectionHeard
  dsimp only
  split
  · exact .nil _ s
  next hs =>
  rw [h.atSelection_eq hs]
  split
  · exact ((onTime_moved _ s).trans (onTime_moved _ _) rfl |>.trans (postSelected_moved _) rfl).heard
  next hc =>
  have he := (onTime_moved (·.select s.time.choice) s).trans
    (enterClock_moved (s.time.clockAt s.time.choice) _) (by simp)
  split
  · have hp := (he.trans (postSelected_moved _) (by simp)).trans (postClock_moved _) (by simp)
    simpa using hp.heard
  · have hp := (he.trans (postClock_moved _) (by simp)).trans (postSelected_moved _) (by simp)
    simpa using hp.heard

/-- The re-evaluation of selection (R8 to R10). -/
theorem reselect_moved {s : State} (h : s.time.ClockAgrees) :
    Moved (s.time.reevaluated s.now s.time.clock25) s.time.selectionHeard s (reselect s) :=
  ⟨reselect_frame s, (reselect_time s).trans (h.reselected_eq _ _), reselect_hears h⟩

end Sys2Proof.Machine
end

section
/-! What each operation makes of the Time Unit's record, continued: faults, arrivals, samples and TIME-CONFIG. -/

namespace Sys2Proof.Machine

/-! ### Health records (R3 to R6) -/

@[simp] theorem TimeUnit.onHealth_mt (src : TimedSource) (f : Health → Health) (u : TimeUnit) :
    (u.onHealth src f).mt = u.mt := by cases src <;> rfl

@[simp] theorem TimeUnit.onHealth_clock25 (src : TimedSource) (f : Health → Health) (u : TimeUnit) :
    (u.onHealth src f).clock25 = u.clock25 := by cases src <;> rfl

@[simp] theorem TimeUnit.onHealth_selected (src : TimedSource) (f : Health → Health) (u : TimeUnit) :
    (u.onHealth src f).selected = u.selected := by cases src <;> rfl

/-- The health records play no part in the agreement of clock state and selection. -/
theorem TimeUnit.ClockAgrees.onHealth {u : TimeUnit} (h : u.ClockAgrees) (src : TimedSource) (f : Health → Health) :
    (u.onHealth src f).ClockAgrees := by cases src <;> exact h

theorem faultSource_moved (src : TimedSource) (s : State) :
    Moved (s.time.onHealth src Health.fault) [toAll (noticeSourceFault src false)] s (faultSource src s) :=
  (onTime_moved (·.onHealth src Health.fault) s).post (by simp) _

/-- The notice of an arrival that makes its source HEALTHY. -/
def recoveryHeard (src : TimedSource) (recovers : Bool) : List Heard :=
  if recovers then [toAll (noticeSourceFault src true)] else []

/-- An arrival, before selection is re-evaluated. -/
theorem arrival_eq (src : TimedSource) (b : Bool) (d : Nat) (x : Stamp) (s : State) :
    ∃ r, arrival src b d x s = reselect r ∧
      Moved (s.time.onHealth src (·.arrive b s.time.config.q d x))
        (recoveryHeard src ((s.time.health src).recovers b s.time.config.q)) s r := by
  refine ⟨_, rfl, ?_⟩
  have h := onTime_moved (·.onHealth src (·.arrive b s.time.config.q d x)) s
  unfold recoveryHeard
  split
  · exact h.post (by simp) _
  · exact h

theorem arrival_time (src : TimedSource) (b : Bool) (d : Nat) (x : Stamp) (s : State) :
    (arrival src b d x s).time =
      (s.time.onHealth src (·.arrive b s.time.config.q d x)).reselected s.now s.time.clock25 := by
  obtain ⟨r, e, h⟩ := arrival_eq src b d x s
  have hn : r.now = s.now := State.now_eq_of_time (by rw [h.time, TimeUnit.onHealth_mt])
  rw [e, reselect_time, h.time, hn, TimeUnit.onHealth_clock25]

/-- An accepted arrival: its record, its recovery and the re-evaluation of selection (R3, R5, R8). -/
theorem arrival_moved (src : TimedSource) (b : Bool) (d : Nat) (x : Stamp) {s : State} (h : s.time.ClockAgrees) :
    let u := s.time.onHealth src (·.arrive b s.time.config.q d x)
    Moved (u.reevaluated s.now s.time.clock25)
      (recoveryHeard src ((s.time.health src).recovers b s.time.config.q) ++ u.selectionHeard) s
      (arrival src b d x s) := by
  intro u
  obtain ⟨r, e, hr⟩ := arrival_eq src b d x s
  have ha : r.time.ClockAgrees := hr.time ▸ h.onHealth _ _
  have hn : r.now = s.now := State.now_eq_of_time (by rw [hr.time, TimeUnit.onHealth_mt])
  have hk := hr.trans (reselect_moved ha) (by simp)
  rwa [← e, hr.time, hn, TimeUnit.onHealth_clock25] at hk

/-! ### Samples (R12 to R18) -/

@[simp] theorem shiftDeadlines_time (d : Int) (s : State) : (shiftDeadlines d s).time = s.time := rfl

theorem stepTime_time (src : TimedSource) (o : Int) (s : State) :
    (stepTime src o s).time =
      { s.time with
        mt := s.time.mt.stepped o, pTerm := 0
        lastStep := some { applied := (s.time.mt.stepped o).toTime - s.now, mtAfter := (s.time.mt.stepped o).toTime } } :=
  rfl

/-! ### TIME-CONFIG (R21) -/

/-- TIME-CONFIG before selection is re-evaluated: the configuration replaced, and the items of R21. -/
def reconfigure (c : TimeConfig) (s : State) : State :=
  doWhen (s.time.config.holdoverS ≠ c.holdoverS) newHoldover <|
    doWhen (s.time.config.edge ≠ c.edge) newEdge <|
      doWhen (s.time.config.syncMs ≠ c.syncMs) newInterval <|
        doWhen (s.time.config.gmPort ≠ c.gmPort) newPort (s.onTime fun t => { t with config := c })

theorem configureTime_eq (c : TimeConfig) (s : State) : configureTime c s = reselect (reconfigure c s) := rfl

theorem newPort_time (s : State) : (newPort s).time = s.time.portItem.1 := by
  unfold newPort TimeUnit.portItem
  by_cases h : s.time.gm.state = .healthy
  · simp [h, faultSource, TimeUnit.onHealth, Health.fault, TimeUnit.gmFaults]
  · simp [h]

theorem newInterval_time {s : State} {here : Nat} (hl : s.time.clock25 = here) :
    (newInterval s).time = (s.time.intervalItem here).1 := by
  subst hl
  unfold newInterval TimeUnit.intervalItem
  cases s.time.gm.state with
  | faulted => rfl
  | healthy =>
    cases s.time.gm.lastLocal with
    | none => rfl
    | some last =>
      dsimp only
      rw [TimeConfig.syncLocal_eq, State.localNow]
      split <;> rfl

theorem newEdge_time (s : State) : (newEdge s).time = s.time.edgeItem.1 := rfl

theorem newHoldover_time {s : State} {here : Nat} (hl : s.time.clock25 = here) :
    (newHoldover s).time = (s.time.holdoverItem here).1 := by
  subst hl
  unfold newHoldover TimeUnit.holdoverItem
  cases hc : s.time.clock with
  | freeRun | acquiring | locked | degraded => rfl
  | holdover =>
    cases hl : s.time.holdoverLocal with
    | none => rfl
    | some entry =>
      dsimp only
      rw [localSec_eq, State.localNow]
      split
      · simp [changeClock, TimeUnit.enterClock_degraded, hl]
      · simp [hc, hl]

end Sys2Proof.Machine
end

section
/-! TIME-CONFIG as a whole. -/

namespace Sys2Proof.Machine

theorem newPort_moved (s : State) : Moved s.time.portItem.1 s.time.portItem.2 s (newPort s) := by
  refine ⟨newPort_frame s, newPort_time s, ?_⟩
  unfold newPort TimeUnit.portItem
  dsimp only
  by_cases h : s.time.gm.state = .healthy
  · rw [if_pos h, if_pos (by simp [h])]
    exact ((onTime_moved _ s).trans (faultSource_moved .grandmaster _) rfl).heard
  · rw [if_neg h, if_neg (by simp [h])]
    exact (onTime_moved _ s).heard

theorem newInterval_moved {s : State} {here : Nat} (hl : s.time.clock25 = here) :
    Moved (s.time.intervalItem here).1 (s.time.intervalItem here).2 s (newInterval s) := by
  refine ⟨newInterval_frame s, newInterval_time hl, ?_⟩
  subst hl
  unfold newInterval TimeUnit.intervalItem
  cases s.time.gm.state with
  | faulted => exact .nil _ s
  | healthy =>
    cases s.time.gm.lastLocal with
    | none => exact .nil _ s
    | some last =>
      dsimp only
      rw [TimeConfig.syncLocal_eq, State.localNow]
      split
      · exact (faultSource_moved .grandmaster s).heard
      · exact (onTime_moved _ s).heard

theorem newEdge_moved (s : State) : Moved s.time.edgeItem.1 s.time.edgeItem.2 s (newEdge s) :=
  ⟨newEdge_frame s, rfl, (onTime_moved _ s).heard⟩

/-- In HOLDOVER the selection that TIME-SOURCE names is LOCAL. -/
theorem newHoldover_moved {s : State} {here : Nat} (h : s.time.ClockAgrees) (hl : s.time.clock25 = here) :
    Moved (s.time.holdoverItem here).1 (s.time.holdoverItem here).2 s (newHoldover s) := by
  refine ⟨newHoldover_frame s, newHoldover_time hl, ?_⟩
  subst hl
  unfold newHoldover TimeUnit.holdoverItem
  cases hc : s.time.clock with
  | freeRun | acquiring | locked | degraded => exact .nil _ s
  | holdover =>
    have hsel : s.time.selected = .localOsc := h.1.2 (.inr (.inl hc))
    cases s.time.holdoverLocal with
    | none => exact .nil _ s
    | some entry =>
      dsimp only
      rw [localSec_eq, State.localNow]
      split
      · exact hsel ▸ (changeClock_moved .degraded s).heard
      · exact (onTime_moved _ s).heard

/-! ### What the items of R21 leave -/

/-- A fault deadline is held exactly while the source is HEALTHY (section 1.2). -/
def Health.Agrees (h : Health) : Prop := h.deadline.isSome = true ↔ h.state = .healthy

theorem Health.fault_agrees (h : Health) : h.fault.Agrees := by simp [Health.Agrees, Health.fault]

/-- Both health records hold their deadlines as they should. -/
def TimeUnit.HealthAgrees (u : TimeUnit) : Prop := u.gm.Agrees ∧ u.hp.Agrees

/-- MT, local time, the configuration and the servo's terms are those of `u`, and so is what agrees in its records. -/
structure TimeUnit.Follows (u v : TimeUnit) : Prop where
  mt : v.mt = u.mt
  clock25 : v.clock25 = u.clock25
  config : v.config = u.config
  iTerm : v.iTerm = u.iTerm
  rate : v.rate = u.rate
  agrees : u.ClockAgrees → v.ClockAgrees
  health : u.HealthAgrees → v.HealthAgrees

theorem TimeUnit.Follows.trans {u v w : TimeUnit} (h : u.Follows v) (k : v.Follows w) : u.Follows w :=
  ⟨k.mt.trans h.mt, k.clock25.trans h.clock25, k.config.trans h.config, k.iTerm.trans h.iTerm, k.rate.trans h.rate,
    k.agrees ∘ h.agrees, k.health ∘ h.health⟩

theorem TimeUnit.portItem_follows (u : TimeUnit) : u.Follows u.portItem.1 := by
  unfold TimeUnit.portItem
  dsimp only
  split
  · exact ⟨rfl, rfl, rfl, rfl, rfl, id, fun h => ⟨Health.fault_agrees _, h.2⟩⟩
  · exact ⟨rfl, rfl, rfl, rfl, rfl, id, id⟩

theorem TimeUnit.intervalItem_follows (here : Nat) (u : TimeUnit) : u.Follows (u.intervalItem here).1 := by
  unfold TimeUnit.intervalItem
  dsimp only
  split
  next hg _ =>
    split
    · exact ⟨rfl, rfl, rfl, rfl, rfl, id, fun h => ⟨Health.fault_agrees _, h.2⟩⟩
    · exact ⟨rfl, rfl, rfl, rfl, rfl, id, fun h => ⟨by simp [Health.Agrees, hg], h.2⟩⟩
  · exact ⟨rfl, rfl, rfl, rfl, rfl, id, id⟩

theorem TimeUnit.edgeItem_follows (u : TimeUnit) : u.Follows u.edgeItem.1 := ⟨rfl, rfl, rfl, rfl, rfl, id, id⟩

theorem TimeUnit.holdoverItem_follows (here : Nat) (u : TimeUnit) : u.Follows (u.holdoverItem here).1 := by
  unfold TimeUnit.holdoverItem
  dsimp only
  split
  next hc _ =>
    split
    · exact ⟨rfl, rfl, rfl, rfl, rfl, fun h => ⟨by simp [h.1, hc], by simp⟩, id⟩
    · exact ⟨rfl, rfl, rfl, rfl, rfl, fun h => ⟨h.1, by simp [hc]⟩, id⟩
  · exact ⟨rfl, rfl, rfl, rfl, rfl, id, id⟩

theorem thenItem_follows {c : Prop} [Decidable c] {item : TimeUnit → TimeUnit × List Heard} {u : TimeUnit}
    {x : TimeUnit × List Heard} (h : u.Follows x.1) (hi : ∀ v : TimeUnit, v.Follows (item v).1) :
    u.Follows (thenItem c item x).1 := by
  unfold thenItem
  split
  · exact h.trans (hi _)
  · exact h

/-! ### The items in their order -/

theorem doWhen_time {c c' : Prop} [Decidable c] [Decidable c'] {f : State → State}
    {item : TimeUnit → TimeUnit × List Heard} {x : TimeUnit × List Heard} {s : State} (hc : c ↔ c')
    (hx : s.time = x.1) (hf : (f s).time = (item s.time).1) : (doWhen c f s).time = (thenItem c' item x).1 := by
  unfold doWhen thenItem
  by_cases h : c
  · rw [if_pos h, if_pos (hc.1 h), hf, hx]
  · rw [if_neg h, if_neg (hc.not.1 h), hx]

theorem Moved.doWhen {c c' : Prop} [Decidable c] [Decidable c'] {f : State → State}
    {item : TimeUnit → TimeUnit × List Heard} {x : TimeUnit × List Heard} {s t : State} (h : Moved x.1 x.2 s t)
    (hc : c ↔ c') (hm : x.1.mt = s.time.mt) (hf : Moved (item t.time).1 (item t.time).2 t (f t)) :
    Moved (thenItem c' item x).1 (thenItem c' item x).2 s (doWhen c f t) := by
  unfold Machine.doWhen thenItem
  by_cases hk : c
  · rw [if_pos hk, if_pos (hc.1 hk)]
    exact h.trans (h.time ▸ hf) hm
  · rw [if_neg hk, if_neg (hc.not.1 hk)]
    exact h

/-- The Time Unit after items 1 to 3 of R21. -/
def TimeUnit.threeItems (c : TimeConfig) (here : Nat) (u : TimeUnit) : TimeUnit × List Heard :=
  thenItem (c.edge ≠ u.config.edge) (·.edgeItem) <|
    thenItem (c.syncMs ≠ u.config.syncMs) (·.intervalItem here) <|
      thenItem (c.gmPort ≠ u.config.gmPort) (·.portItem) ({ u with config := c }, [])

theorem TimeUnit.reconfigured_eq (c : TimeConfig) (here : Nat) (u : TimeUnit) :
    u.reconfigured c here = thenItem (c.holdoverS ≠ u.config.holdoverS) (·.holdoverItem here) (u.threeItems c here) :=
  rfl

section items
variable (c : TimeConfig) (here : Nat) (u : TimeUnit)

theorem TimeUnit.portDone_follows :
    TimeUnit.Follows { u with config := c } (thenItem (c.gmPort ≠ u.config.gmPort) (·.portItem) ({ u with config := c }, [])).1 :=
  thenItem_follows ⟨rfl, rfl, rfl, rfl, rfl, id, id⟩ portItem_follows

theorem TimeUnit.intervalDone_follows :
    TimeUnit.Follows { u with config := c } (thenItem (c.syncMs ≠ u.config.syncMs) (·.intervalItem here) <|
      thenItem (c.gmPort ≠ u.config.gmPort) (·.portItem) ({ u with config := c }, [])).1 :=
  thenItem_follows (portDone_follows c u) (intervalItem_follows here)

theorem TimeUnit.threeItems_follows : TimeUnit.Follows { u with config := c } (u.threeItems c here).1 :=
  thenItem_follows (intervalDone_follows c here u) edgeItem_follows

theorem TimeUnit.reconfigured_follows : TimeUnit.Follows { u with config := c } (u.reconfigured c here).1 :=
  thenItem_follows (threeItems_follows c here u) (holdoverItem_follows here)

end items

/-- Items 1 to 4 of R21 on the Time Unit. -/
theorem reconfigure_time (c : TimeConfig) (s : State) :
    (reconfigure c s).time = (s.time.reconfigured c s.time.clock25).1 := by
  have f1 := TimeUnit.portDone_follows c s.time
  have f3 := TimeUnit.threeItems_follows c s.time.clock25 s.time
  have h1 := doWhen_time (c := s.time.config.gmPort ≠ c.gmPort) (item := (·.portItem))
    (x := ({ s.time with config := c }, [])) ne_comm rfl (newPort_time (s.onTime fun t => { t with config := c }))
  have h2 := doWhen_time (c := s.time.config.syncMs ≠ c.syncMs) (item := (·.intervalItem s.time.clock25)) ne_comm h1
    (newInterval_time (h1 ▸ f1.clock25))
  have h3 := doWhen_time (c := s.time.config.edge ≠ c.edge) (item := (·.edgeItem)) ne_comm h2 (newEdge_time _)
  exact doWhen_time (c := s.time.config.holdoverS ≠ c.holdoverS) (item := (·.holdoverItem s.time.clock25)) ne_comm h3
    (newHoldover_time (h3 ▸ f3.clock25))

/-- Items 1 to 4 of R21, with what is heard of them. -/
theorem reconfigure_moved (c : TimeConfig) {s : State} (h : s.time.ClockAgrees) :
    Moved (s.time.reconfigured c s.time.clock25).1 (s.time.reconfigured c s.time.clock25).2 s (reconfigure c s) := by
  have f1 := TimeUnit.portDone_follows c s.time
  have f2 := TimeUnit.intervalDone_follows c s.time.clock25 s.time
  have f3 := TimeUnit.threeItems_follows c s.time.clock25 s.time
  have h0 : Moved (Prod.fst ({ s.time with config := c }, ([] : List Heard))) [] s
      (s.onTime fun t => { t with config := c }) := onTime_moved (fun t => { t with config := c }) s
  have h1 := h0.doWhen (c := s.time.config.gmPort ≠ c.gmPort) (item := (·.portItem))
    (x := ({ s.time with config := c }, [])) ne_comm rfl (newPort_moved _)
  have h2 := h1.doWhen (c := s.time.config.syncMs ≠ c.syncMs) (item := (·.intervalItem s.time.clock25)) ne_comm f1.mt
    (newInterval_moved (h1.time ▸ f1.clock25))
  have h3 := h2.doWhen (c := s.time.config.edge ≠ c.edge) (item := (·.edgeItem)) ne_comm f2.mt (newEdge_moved _)
  exact h3.doWhen (c := s.time.config.holdoverS ≠ c.holdoverS) (item := (·.holdoverItem s.time.clock25)) ne_comm f3.mt
    (newHoldover_moved (h3.time ▸ f3.agrees h) (h3.time ▸ f3.clock25))

theorem configureTime_time (c : TimeConfig) (s : State) :
    (configureTime c s).time =
      (s.time.reconfigured c s.time.clock25).1.reselected s.now s.time.clock25 := by
  have h := reconfigure_time c s
  have f := TimeUnit.reconfigured_follows c s.time.clock25 s.time
  rw [configureTime_eq, reselect_time, State.now_eq_of_time (h ▸ f.mt), h, f.clock25]

/-- An accepted TIME-CONFIG (R21, R8 to R10). -/
theorem configureTime_moved (c : TimeConfig) {s : State} (h : s.time.ClockAgrees) :
    let x := s.time.reconfigured c s.time.clock25
    Moved (x.1.reevaluated s.now s.time.clock25) (x.2 ++ x.1.selectionHeard) s (configureTime c s) := by
  intro x
  have f := TimeUnit.reconfigured_follows c s.time.clock25 s.time
  have hm := reconfigure_moved c h
  have hn : (reconfigure c s).now = s.now := State.now_eq_of_time (by rw [hm.time, f.mt])
  have hk := hm.trans (reselect_moved (hm.time ▸ f.agrees h)) f.mt
  rw [hn, hm.time, f.clock25] at hk
  exact hk

end Sys2Proof.Machine
end

section
/-! What one step can do to the Time Unit. -/

namespace Sys2Proof.Machine

/-- `v` differs from `u` in nothing that MT, the servo, the clock state or the selection rest on. -/
structure TimeUnit.Notes (u v : TimeUnit) : Prop where
  mt : v.mt = u.mt
  config : v.config = u.config
  clock : v.clock = u.clock
  iTerm : v.iTerm = u.iTerm
  rate : v.rate = u.rate
  selected : v.selected = u.selected
  holdoverDeadline : v.holdoverDeadline = u.holdoverDeadline
  gmState : v.gm.state = u.gm.state
  gmDeadline : v.gm.deadline = u.gm.deadline
  hpState : v.hp.state = u.hp.state
  hpDeadline : v.hp.deadline = u.hp.deadline

/-- A change that one operation makes to the Time Unit. -/
inductive TimeUnit.Update (u : TimeUnit) : TimeUnit → Prop where
  /-- The advance of MT (R2). -/
  | advance : Update u { u with mt := u.mt.advance u.rate, clock25 := u.clock25 + periodsPerUs }
  /-- A power-on reset (R26). -/
  | powerOn : Update u { TimeUnit.powerOn with clock25 := u.clock25 }
  /-- A record that nothing of the clock rests on: counts, flags, stamps, the armed second, the last offset. -/
  | note {v : TimeUnit} (h : u.Notes v) : Update u v
  /-- An accepted arrival, with the re-evaluation of selection (R3, R5, R8). -/
  | arrival (src : TimedSource) (b : Bool) (d : Nat) (x : Stamp) (now : Int) (here : Nat) :
      Update u ((u.onHealth src (·.arrive b u.config.q d x)).reselected now here)
  /-- A fault, with the re-evaluation of selection (R4, R6, R8). -/
  | fault (src : TimedSource) (now : Int) (here : Nat) :
      Update u ((u.onHealth src Health.fault).reselected now here)
  /-- A step of MT (R17). -/
  | step (o : Int) (r : StepRecord) : Update u { u with mt := u.mt.stepped o, pTerm := 0, lastStep := some r }
  /-- The servo (R14). -/
  | servo (o : Int) (ms : Nat) : Update u (u.discipline o ms)
  /-- A full lock run (R16). -/
  | lock (now : Int) (here : Nat) (h : u.clock = .acquiring ∨ u.clock = .locked) :
      Update u (u.enterClock u.clock.afterRun now here)
  /-- The end of holdover (R10). -/
  | degrade (now : Int) (here : Nat) (h : u.clock = .holdover) : Update u (u.enterClock .degraded now here)
  /-- TIME-CONFIG (R21). -/
  | configure (c : TimeConfig) (now : Int) (here : Nat) : Update u ((u.reconfigured c here).1.reselected now here)

/-- Changes one after the other. -/
abbrev TimeUnit.Updates : TimeUnit → TimeUnit → Prop := Relation.ReflTransGen TimeUnit.Update

theorem SameBut.updates {ps : List Part} {s t : State} (h : SameBut ps s t) (hp : Part.time ∉ ps := by decide) :
    s.time.Updates t.time := h.time hp ▸ .refl

/-! ### The operations of the Time Unit -/

theorem lockStage_updates (o : Int) (s : State) : s.time.Updates (lockStage o s).time := by
  unfold lockStage
  dsimp only
  split
  next hc =>
    repeat' split
    · exact .single (.lock _ _ hc)
    · exact .single (.note (by constructor <;> rfl))
    · exact .single (.note (by constructor <;> rfl))
  · exact .refl

theorem sample_updates (src : TimedSource) (o : Int) (ms : Nat) (mt : Int) (s : State) :
    s.time.Updates (sample src o ms mt s).time := by
  have hr : ∀ o', s.time.Update (recordOffset o' src mt s).time := fun o' => .note (by constructor <;> rfl)
  unfold sample
  dsimp only
  split
  · exact (Relation.ReflTransGen.single (hr _)).tail (.step o _)
  · refine .trans ?_ (lockStage_updates _ _)
    exact (Relation.ReflTransGen.single (hr _)).tail (.servo _ ms)

theorem samplePulse_updates (mt : Int) (s : State) : s.time.Updates (samplePulse mt s).time :=
  (Relation.ReflTransGen.single (.note (by constructor <;> rfl))).trans (sample_updates ..)

theorem arrival_updates (src : TimedSource) (b : Bool) (d : Nat) (x : Stamp) (s : State) :
    s.time.Updates (arrival src b d x s).time := arrival_time src b d x s ▸ .single (.arrival ..)

theorem takeSync_updates (q : Byte) (sec : BitVec 48) (ns : BitVec 32) (x : Stamp) (s : State) :
    s.time.Updates (takeSync q sec ns x s).time := by
  have hs : s.time.Update (s.onTime fun t => { t with lastSeq := some q }).time := .note (by constructor <;> rfl)
  have ha := fun b d => (Relation.ReflTransGen.single hs).trans (arrival_updates .grandmaster b d x _)
  unfold takeSync
  dsimp only
  repeat' split
  · exact .refl
  · exact .refl
  · exact .trans (ha _ _) (sample_updates ..)
  · exact ha _ _

theorem execPulseEdge_updates {e : PulseEdge} {x : Option Stamp} {s t : State} (h : execPulseEdge e s x = .next t) :
    s.time.Updates t.time := by
  unfold execPulseEdge at h
  dsimp only at h
  split at h
  · cases h; exact .refl
  split at h
  · cases h
    refine .single (.note ?_)
    constructor <;> first | rfl | (dsimp only [State.onTime_time, TimeUnit.onHealth]; split <;> rfl)
  · cases h
    split
    · exact (arrival_updates ..).trans (samplePulse_updates _ _)
    · exact arrival_updates ..

theorem configureTime_updates (c : TimeConfig) (s : State) : s.time.Updates (configureTime c s).time :=
  configureTime_time c s ▸ .single (.configure ..)

theorem Health.clearSticky_state (b : Bool) (h : Health) : (h.clearSticky b).state = h.state := by
  unfold Health.clearSticky; split <;> rfl

theorem Health.clearSticky_deadline (b : Bool) (h : Health) : (h.clearSticky b).deadline = h.deadline := by
  unfold Health.clearSticky; split <;> rfl

theorem ownTimeFaultClear_updates (v : Byte) (s : State) : s.time.Updates (ownTimeFaultClear v s).state.time := by
  unfold ownTimeFaultClear
  split
  · exact .single (.note ⟨rfl, rfl, rfl, rfl, rfl, rfl, rfl, Health.clearSticky_state .., Health.clearSticky_deadline ..,
      Health.clearSticky_state .., Health.clearSticky_deadline ..⟩)
  · exact .refl

theorem execFaultDeadlineExpiry_updates {src : TimedSource} {s t : State}
    (h : execFaultDeadlineExpiry src s = .next t) : s.time.Updates t.time := by
  unfold execFaultDeadlineExpiry at h
  cases h
  split
  · have hf := faultSource_moved src s
    rw [reselect_time, hf.time]
    exact .single (.fault ..)
  · exact .refl

theorem execHoldoverDeadlineExpiry_updates {s t : State} (h : execHoldoverDeadlineExpiry s = .next t) :
    s.time.Updates t.time := by
  cases h
  split
  next hc => exact .single (.degrade s.now s.localNow hc.1)
  · exact .refl

/-! ### Requests and messages -/

theorem owner_updates (r : Request) (l : Link) (s : State) : s.time.Updates (owner r l s).state.time := by
  cases r
  case timeConfig =>
    dsimp only [owner, ownTimeConfig]
    split
    · exact configureTime_updates _ s
    · exact .refl
  case timePulseSet =>
    dsimp only [owner, ownTimePulseSet]
    repeat' split
    · exact .single (.note (by constructor <;> rfl))
    · exact .single (.note (by constructor <;> rfl))
    · exact .refl
  case timeStepLock =>
    dsimp only [owner, ownTimeStepLock]
    split
    · exact .single (.note (by constructor <;> rfl))
    · exact .refl
  case timeFaultClear => exact ownTimeFaultClear_updates _ s
  all_goals exact (owner_frame _ l s).updates (by dsimp only [ownerParts]; decide)

theorem onLink_updates (l : Link) (f : LinkRec → LinkRec) (s : State) : s.time.Updates (s.onLink l f).time :=
  (State.onLink_frame_all l f s).updates

theorem ownerTakes_updates (l : Link) (tag : Byte) (r : Request) (s : State) :
    s.time.Updates (ownerTakes l tag r (owner r l) s).time :=
  (owner_updates r l s).trans (onLink_updates l _ _)

theorem request_updates (l : Link) (tag : Byte) (r : Request) (s : State) :
    s.time.Updates (request l tag r (owner r l) s).time := by
  have hb := onLink_updates l (fun k =>
    { k with spiOut := List.replicate ((requestBody r).length + 5) 0, overrun := k.overrun || !(k.slot == .idle) }) s
  unfold request
  dsimp only
  repeat' split
  · exact hb
  · exact (hb.trans (onLink_updates l _ _)).trans (ownerTakes_updates l tag r _)
  · exact hb.trans (onLink_updates l _ _)

/-- A cell message other than a SYNC leaves the Time Unit. -/
theorem takeCell_updates (p : Fin 24) (k : Byte) (c : Cell) (x : Stamp) (s : State) :
    s.time.Updates (takeCell p k c x s).time := by
  have away : ∀ own, (∀ i u, SameBut (everyPart.filter (· ≠ .time)) u (own i u)) →
      s.time.Updates (fromStation p k own s).time := fun own ho =>
    (fromStation_frame p k ho (by decide) s).updates
  cases c
  case badKind => exact (rejectCell_frame p _ s).updates
  case badLength => exact (rejectCell_frame p _ s).updates
  case sync =>
    dsimp only [takeCell]
    split
    · exact takeSync_updates ..
    · exact (rejectCell_frame p _ s).updates
  case fillDone => exact away _ fun i u => (takeFill_frame i _ _ _ _ _ u).mono (by decide)
  case verdict => exact away _ fun i u => (takeVerdict_frame i _ _ _ _ u).mono (by decide)
  case backoff => exact away _ fun _ u => (takeBackoff_frame p _ _ u).mono (by decide)
  case need => exact away _ fun i u => (takeNeed_frame i _ _ u).mono (by decide)

theorem takeInbound_updates (k : Byte) (m : Except Malformed Inbound) (s : State) :
    s.time.Updates (takeInbound k m s).time := by
  unfold takeInbound
  split
  · exact .refl
  cases m with
  | error why => exact (malformed_frame _ _ s).updates
  | ok m =>
    cases m with
    | enqueue => exact (takeEnqueue_frame _ _ _ s).updates
    | sent => exact (takeSent_frame _ _ s).updates
    | portState => exact (takePortState_frame _ _ _ _ s).updates
    | cellIn => exact takeCell_updates ..

theorem takeHeld_updates (l : Link) (s : State) : s.time.Updates (takeHeld l s).time := by
  unfold takeHeld
  split
  · exact ownerTakes_updates ..
  · exact .refl

/-! ### Commands and steps -/

/-- What a command can do to the Time Unit. -/
theorem exec_updates {c : Instr} {s t : State} (h : exec c s = .next t) : s.time.Updates t.time := by
  cases hr : c.asRequest with
  | some x =>
    obtain ⟨l, tag, r⟩ := x
    rw [exec_request hr] at h
    exact Host.Outcome.next.inj h ▸ request_updates l tag r s
  | none =>
    cases c
    case powerOnReset => exact Host.Outcome.next.inj h ▸ .single .powerOn
    case warmReset => exact (execWarmReset_frame h).updates
    case mtAdvance => exact Host.Outcome.next.inj h ▸ .single .advance
    case pulseEdge => exact execPulseEdge_updates h
    case write => exact (execWrite_frame h).updates
    case read => exact (execRead_frame h).updates
    case replyPlaced l =>
      exact Host.Outcome.next.inj h ▸ (takeHeld_updates l s).trans (onLink_updates l _ _)
    case trainingComplete => exact (execTrainingComplete_frame h).updates
    case alignmentLossExpiry => exact (execAlignmentLossExpiry_frame h).updates
    case restartSignal => exact (execRestartSignal_frame h).updates
    case outboundMessageSent => exact (execOutboundMessageSent_frame h).updates
    case faultDeadlineExpiry => exact execFaultDeadlineExpiry_updates h
    case holdoverDeadlineExpiry => exact execHoldoverDeadlineExpiry_updates h
    case stalenessDeadlineExpiry => exact (execStalenessDeadlineExpiry_frame h).updates
    case pacingQueueExpiry => exact (execPacingQueueExpiry_frame h).updates
    case release => exact (execRelease_frame h).updates
    case sentOverdueExpiry => exact (execSentOverdueExpiry_frame h).updates
    case triggerDeadlineExpiry => exact (execTriggerDeadlineExpiry_frame h).updates
    case verdictDeadlineExpiry => exact (execVerdictDeadlineExpiry_frame h).updates
    case gateDeadlineExpiry => exact (execGateDeadlineExpiry_frame h).updates
    case windowEndExpiry => exact (execWindowEndExpiry_frame h).updates
    case askTimeoutExpiry => exact (execAskTimeoutExpiry_frame h).updates
    case warningTimeExpiry => exact (execWarningTimeExpiry_frame h).updates
    case expiryMtExpiry => exact (execExpiryMtExpiry_frame h).updates
    case pulseEndExpiry => exact (execPulseEndExpiry_frame h).updates
    case feedInstant => exact (execFeedInstant_frame h).updates
    case lossOfAlignment => exact (execLossOfAlignment_frame h).updates
    case alignmentRegained => exact (execAlignmentRegained_frame h).updates
    case malformedMessage | enqueue | sent | portState | cellIn | sync | fillDone | verdict | backoff | need =>
      exact Host.Outcome.next.inj h ▸ takeInbound_updates ..
    all_goals cases hr

/-- What a step can do to the Time Unit. -/
theorem step_updates {s t : State} (h : step s = .next t) : s.time.Updates t.time := by
  unfold step at h
  split at h
  next rest _ => exact exec_updates (s := s.withQueue rest) h
  · exact Host.Outcome.next.inj h ▸ .refl

/-- A property of the Time Unit that each of its changes keeps, every step keeps. -/
theorem step_keeps {P : TimeUnit → Prop} (hP : ∀ {u v : TimeUnit}, u.Update v → P u → P v) {s t : State}
    (h : step s = .next t) (hs : P s.time) : P t.time := by
  have keep : ∀ v, s.time.Updates v → P v := fun v hv => by
    induction hv with
    | refl => exact hs
    | tail _ hv ih => exact hP hv ih
  exact keep _ (step_updates h)

end Sys2Proof.Machine
end

section
/-! The properties of the Time Unit that every step keeps. -/

namespace Sys2Proof.Machine

@[simp] theorem TimeUnit.enterClock_iTerm (c : ClockState) (now : Int) (here : Nat) (u : TimeUnit) :
    (u.enterClock c now here).iTerm = u.iTerm := by
  unfold TimeUnit.enterClock; split <;> rfl

@[simp] theorem TimeUnit.enterClock_rate (c : ClockState) (now : Int) (here : Nat) (u : TimeUnit) :
    (u.enterClock c now here).rate = u.rate := by
  unfold TimeUnit.enterClock; split <;> rfl

@[simp] theorem TimeUnit.enterClock_gm (c : ClockState) (now : Int) (here : Nat) (u : TimeUnit) :
    (u.enterClock c now here).gm = u.gm := by
  unfold TimeUnit.enterClock; split <;> rfl

@[simp] theorem TimeUnit.enterClock_hp (c : ClockState) (now : Int) (here : Nat) (u : TimeUnit) :
    (u.enterClock c now here).hp = u.hp := by
  unfold TimeUnit.enterClock; split <;> rfl

/-! ### The range of MT (R1) -/

/-- The fields of MT lie within their ranges (R1). -/
def MachineTime.InRange (m : MachineTime) : Prop := m.sec < 2 ^ 48 ∧ m.ns ≤ 999999999 ∧ m.frac < 65536

theorem mtInv_iff (s : State) : MtInv s ↔ s.time.mt.InRange := Iff.rfl

theorem TimeUnit.powerOn_mtInRange : TimeUnit.powerOn.mt.InRange := ⟨by decide, by decide, by decide⟩

theorem machineTimeAt_toTime {t : Int} (h : 0 ≤ t) (f : Nat) : (machineTimeAt t f).toTime = t := by
  simp only [machineTimeAt, MachineTime.toTime, nsPerSec]
  omega

theorem machineTimeAt_inRange {t : Int} (h : t ≤ maxTime) {f : Nat} (hf : f < 65536) :
    (machineTimeAt t f).InRange := by
  simp only [machineTimeAt, MachineTime.InRange, nsPerSec, maxTime] at *
  omega

theorem machineTimeOf_inRange (u : Int) : (machineTimeOf u).InRange := by
  unfold machineTimeOf
  refine machineTimeAt_inRange ?_ (Nat.mod_lt _ (by decide))
  simp only [maxTime]
  omega

theorem MachineTime.stepped_inRange (o : Int) {m : MachineTime} (h : m.InRange) : (m.stepped o).InRange := by
  unfold MachineTime.stepped
  split
  · exact ⟨by decide, by decide, by decide⟩
  split
  · exact machineTimeAt_inRange (le_refl _) (by decide)
  next hle => exact machineTimeAt_inRange (by omega) h.2.2

theorem TimeUnit.reselected_mt (now : Int) (here : Nat) (u : TimeUnit) : (u.reselected now here).mt = u.mt := by
  unfold TimeUnit.reselected
  dsimp only
  repeat' split
  all_goals simp

theorem TimeUnit.Update.keeps_mtInRange {u v : TimeUnit} (h : u.Update v) (hu : u.mt.InRange) : v.mt.InRange := by
  cases h with
  | advance => exact machineTimeOf_inRange _
  | powerOn => exact TimeUnit.powerOn_mtInRange
  | note h => rwa [h.mt]
  | arrival => simpa [TimeUnit.reselected_mt] using hu
  | fault => simpa [TimeUnit.reselected_mt] using hu
  | step o r => exact MachineTime.stepped_inRange o hu
  | servo => exact hu
  | lock => simpa using hu
  | degrade => simpa using hu
  | configure c now here => rwa [TimeUnit.reselected_mt, (TimeUnit.reconfigured_follows c here u).mt]

/-! ### The range of the rate (R15) -/

/-- R15. -/
def TimeUnit.RateInRange (u : TimeUnit) : Prop :=
  -200000 ≤ u.iTerm ∧ u.iTerm ≤ 200000 ∧ -200000 ≤ u.rate ∧ u.rate ≤ 200000

theorem rateInv_iff (s : State) : RateInv s ↔ s.time.RateInRange := Iff.rfl

theorem TimeUnit.powerOn_rateInRange : TimeUnit.powerOn.RateInRange := ⟨by decide, by decide, by decide, by decide⟩

theorem clampTo_rateLimit (v : Int) : -200000 ≤ clampTo rateLimit v ∧ clampTo rateLimit v ≤ 200000 := by
  simp only [clampTo, rateLimit]
  omega

theorem TimeUnit.discipline_rateInRange (o : Int) (ms : Nat) (u : TimeUnit) : (u.discipline o ms).RateInRange :=
  ⟨(clampTo_rateLimit _).1, (clampTo_rateLimit _).2, (clampTo_rateLimit _).1, (clampTo_rateLimit _).2⟩

theorem TimeUnit.select_rateInRange (src : Source) {u : TimeUnit} (h : u.RateInRange) :
    (u.select src).RateInRange := by
  obtain ⟨h1, h2, h3, h4⟩ := h
  unfold TimeUnit.select
  refine ⟨h1, h2, ?_, ?_⟩ <;> dsimp only <;> split <;> assumption

theorem TimeUnit.reselected_rateInRange (now : Int) (here : Nat) {u : TimeUnit} (h : u.RateInRange) :
    (u.reselected now here).RateInRange := by
  have hs := TimeUnit.select_rateInRange u.choice h
  unfold TimeUnit.reselected
  dsimp only
  repeat' split
  · exact h
  · exact hs
  · simpa [TimeUnit.RateInRange] using hs

theorem TimeUnit.onHealth_rateInRange (src : TimedSource) (f : Health → Health) {u : TimeUnit} (h : u.RateInRange) :
    (u.onHealth src f).RateInRange := by cases src <;> exact h

theorem TimeUnit.Update.keeps_rateInRange {u v : TimeUnit} (h : u.Update v) (hu : u.RateInRange) :
    v.RateInRange := by
  cases h with
  | advance => exact hu
  | powerOn => exact TimeUnit.powerOn_rateInRange
  | note h => rwa [TimeUnit.RateInRange, h.iTerm, h.rate]
  | arrival => exact TimeUnit.reselected_rateInRange _ _ (TimeUnit.onHealth_rateInRange _ _ hu)
  | fault => exact TimeUnit.reselected_rateInRange _ _ (TimeUnit.onHealth_rateInRange _ _ hu)
  | step => exact hu
  | servo => exact TimeUnit.discipline_rateInRange ..
  | lock => simpa [TimeUnit.RateInRange] using hu
  | degrade => simpa [TimeUnit.RateInRange] using hu
  | configure c now here =>
    have f := TimeUnit.reconfigured_follows c here u
    exact TimeUnit.reselected_rateInRange _ _ (by rwa [TimeUnit.RateInRange, f.iTerm, f.rate])

/-! ### Clock state, selection and deadlines (R8 to R10) -/

/-- The selection is the first HEALTHY source, and the clock state and the deadlines agree with it. -/
def TimeUnit.Sound (u : TimeUnit) : Prop := u.selected = u.choice ∧ u.ClockAgrees ∧ u.HealthAgrees

theorem clockInv_iff (s : State) : ClockInv s ↔ s.time.Sound := by
  unfold ClockInv TimeUnit.Sound TimeUnit.ClockAgrees TimeUnit.HealthAgrees Health.Agrees
  tauto

/-- The choice rests on the priority list and the health states alone. -/
theorem TimeUnit.choice_congr {u v : TimeUnit} (h1 : v.config.first = u.config.first)
    (h2 : v.config.second = u.config.second) (h3 : v.config.third = u.config.third)
    (hg : v.gm.state = u.gm.state) (hh : v.hp.state = u.hp.state) : v.choice = u.choice := by
  have hs : v.healthy = u.healthy := by
    funext src
    cases src <;> simp [TimeUnit.healthy, hg, hh]
  rw [TimeUnit.choice, TimeUnit.choice, h1, h2, h3, hs]

/-- A selection that is not LOCAL, with its clock state ACQUIRING. -/
theorem TimeUnit.clockAgrees_of_acquiring {u : TimeUnit} (hs : u.selected ≠ .localOsc) (hc : u.clock = .acquiring)
    (hd : u.holdoverDeadline = none) : u.ClockAgrees := by simp [TimeUnit.ClockAgrees, hs, hc, hd]

/-- A re-evaluation of selection leaves the Time Unit sound. -/
theorem TimeUnit.reevaluated_sound (now : Int) (here : Nat) {u : TimeUnit} (hc : u.ClockAgrees)
    (hh : u.HealthAgrees) : (u.reevaluated now here).Sound := by
  unfold TimeUnit.reevaluated
  dsimp only
  split
  next hs => exact ⟨hs.symm, hc, hh⟩
  next hs =>
  refine ⟨rfl, ?_, hh⟩
  by_cases hl : u.choice = .localOsc
  · rw [hl, TimeUnit.clockAt_local]
    split <;> simp [TimeUnit.ClockAgrees]
  · exact TimeUnit.clockAgrees_of_acquiring hl (TimeUnit.clockAt_source hl u) (by simp [TimeUnit.clockAt_source hl])

theorem TimeUnit.reselected_sound (now : Int) (here : Nat) {u : TimeUnit} (hc : u.ClockAgrees) (hh : u.HealthAgrees) :
    (u.reselected now here).Sound := hc.reselected_eq now here ▸ TimeUnit.reevaluated_sound now here hc hh

theorem Health.arrive_agrees (b : Bool) (q d : Nat) (x : Stamp) {h : Health} (hh : h.Agrees) :
    (h.arrive b q d x).Agrees := by
  unfold Health.arrive Health.Agrees
  dsimp only
  cases hs : h.state <;> cases b <;> dsimp only
  · simp
  · simp
  · simpa [Health.Agrees, hs] using hh
  · split
    · simp
    · simpa [Health.Agrees, hs] using hh

theorem TimeUnit.HealthAgrees.onHealth {u : TimeUnit} (h : u.HealthAgrees) (src : TimedSource) {f : Health → Health}
    (hf : ∀ k : Health, k.Agrees → (f k).Agrees) : (u.onHealth src f).HealthAgrees := by
  cases src
  · exact ⟨hf _ h.1, h.2⟩
  · exact ⟨h.1, hf _ h.2⟩

theorem ClockState.afterRun_running {c : ClockState} (h : c = .acquiring ∨ c = .locked) :
    c.afterRun = .acquiring ∨ c.afterRun = .locked := by
  obtain rfl | rfl := h
  · exact .inr rfl
  · exact .inl rfl

/-- A change between ACQUIRING and LOCKED keeps the Time Unit sound. -/
theorem TimeUnit.Sound.enterClock_running {u : TimeUnit} (h : u.Sound) {c : ClockState}
    (hu : u.clock = .acquiring ∨ u.clock = .locked) (hc : c = .acquiring ∨ c = .locked) (now : Int) (here : Nat) :
    (u.enterClock c now here).Sound := by
  obtain ⟨hs, hk, hh⟩ := h
  have hl : u.selected ≠ .localOsc := fun e => by
    have := hk.1.1 e
    obtain e' | e' := hu <;> simp [e'] at this
  refine ⟨by simpa using hs, ?_, by simpa [TimeUnit.HealthAgrees] using hh⟩
  obtain rfl | rfl := hc <;> simp [TimeUnit.ClockAgrees, TimeUnit.enterClock_of_ne, hl]

/-- The end of holdover keeps the Time Unit sound. -/
theorem TimeUnit.Sound.enterClock_degraded {u : TimeUnit} (h : u.Sound) (hu : u.clock = .holdover) (now : Int)
    (here : Nat) : (u.enterClock .degraded now here).Sound := by
  obtain ⟨hs, hk, hh⟩ := h
  have hl : u.selected = .localOsc := hk.1.2 (.inr (.inl hu))
  refine ⟨by simpa using hs, ?_, by simpa [TimeUnit.HealthAgrees] using hh⟩
  simp [TimeUnit.ClockAgrees, TimeUnit.enterClock_degraded, hl]

theorem TimeUnit.Notes.choice {u v : TimeUnit} (h : u.Notes v) : v.choice = u.choice :=
  TimeUnit.choice_congr (h.config ▸ rfl) (h.config ▸ rfl) (h.config ▸ rfl) h.gmState h.hpState

theorem TimeUnit.Notes.sound {u v : TimeUnit} (h : u.Notes v) (hu : u.Sound) : v.Sound := by
  simpa only [TimeUnit.Sound, TimeUnit.ClockAgrees, TimeUnit.HealthAgrees, Health.Agrees, h.selected, h.clock,
    h.holdoverDeadline, h.gmState, h.gmDeadline, h.hpState, h.hpDeadline, h.choice] using hu

theorem TimeUnit.powerOn_sound (n : Nat) : TimeUnit.Sound { TimeUnit.powerOn with clock25 := n } :=
  ⟨rfl, ⟨by simp [TimeUnit.powerOn], by simp [TimeUnit.powerOn]⟩,
    by simp [Health.Agrees, TimeUnit.powerOn, Health.powerOn],
    by simp [Health.Agrees, TimeUnit.powerOn, Health.powerOn]⟩

theorem TimeUnit.Update.keeps_sound {u v : TimeUnit} (h : u.Update v) (hu : u.Sound) : v.Sound := by
  obtain ⟨hs, hc, hh⟩ := hu
  cases h with
  | advance => exact ⟨hs, hc, hh⟩
  | powerOn => exact TimeUnit.powerOn_sound _
  | note h => exact h.sound ⟨hs, hc, hh⟩
  | arrival src b d x =>
    exact TimeUnit.reselected_sound _ _ (hc.onHealth _ _) (hh.onHealth src fun _ => Health.arrive_agrees b _ d x)
  | fault src => exact TimeUnit.reselected_sound _ _ (hc.onHealth _ _) (hh.onHealth src fun k _ => k.fault_agrees)
  | step => exact ⟨hs, hc, hh⟩
  | servo => exact ⟨hs, hc, hh⟩
  | lock _ _ hr => exact TimeUnit.Sound.enterClock_running ⟨hs, hc, hh⟩ hr (ClockState.afterRun_running hr) _ _
  | degrade _ _ hd => exact TimeUnit.Sound.enterClock_degraded ⟨hs, hc, hh⟩ hd _ _
  | configure c now here =>
    have f := TimeUnit.reconfigured_follows c here u
    exact TimeUnit.reselected_sound _ _ (f.agrees hc) (f.health hh)

/-- Settles O55: each change that a step makes to the Time Unit keeps the range of MT, and each leaves the selection, the
clock state and the deadlines in agreement, as those that may disturb them end with a re-evaluation of selection. -/
theorem everyStepKeepsTheClock : Obligations.EveryStepKeepsTheClock := by
  unfold Obligations.EveryStepKeepsTheClock
  intro s t h
  refine ⟨fun hm => ?_, fun hc => ?_⟩
  · exact step_keeps (P := fun u => u.mt.InRange) TimeUnit.Update.keeps_mtInRange h hm
  · exact (clockInv_iff t).2 (step_keeps TimeUnit.Update.keeps_sound h ((clockInv_iff s).1 hc))

/-- Settles O56: each change that a step makes to the Time Unit keeps I and r within ± 200,000 ppb. -/
theorem rateStaysWithinItsRange : Obligations.RateStaysWithinItsRange := by
  unfold Obligations.RateStaysWithinItsRange
  refine ⟨fun s t h hr => ?_, ⟨by decide, by decide, by decide, by decide⟩, fun s o ms => ?_, fun _ => rfl, fun s => ?_⟩
  · exact step_keeps TimeUnit.Update.keeps_rateInRange h hr
  · obtain ⟨h1, h2, h3, h4⟩ := TimeUnit.discipline_rateInRange o ms s.time
    exact ⟨h2, h1, h4, h3⟩
  · exact ⟨_, rfl, rfl, rfl⟩

end Sys2Proof.Machine
end

section
/-! The deadlines of the Time Unit. -/

namespace Sys2Proof.Machine

theorem localReached_some {d n : Nat} : localReached (some d) n = true ↔ d ≤ n := decide_eq_true_iff

theorem not_localReached {x : Option Nat} {n : Nat} (h : ∀ d, x = some d → n < d) : localReached x n ≠ true := by
  cases x with
  | none => simp [localReached]
  | some d => have := h d rfl; simp [localReached]; omega

theorem TimeUnit.HealthAgrees.health {u : TimeUnit} (h : u.HealthAgrees) (src : TimedSource) :
    (u.health src).Agrees := by
  cases src
  · exact h.1
  · exact h.2

/-- An expiry of a fault deadline that is held and reached (R4, R6). -/
theorem execFaultDeadlineExpiry_due {src : TimedSource} {s : State} (hs : s.time.Sound) {d : Nat}
    (hd : (s.time.health src).deadline = some d) (hl : d ≤ s.time.clock25) :
    ∃ t, execFaultDeadlineExpiry src s = .next t ∧
      Moved ((s.time.onHealth src Health.fault).reevaluated s.now s.time.clock25)
        ([toAll (noticeSourceFault src false)] ++ (s.time.onHealth src Health.fault).selectionHeard) s t := by
  obtain ⟨-, hc, hh⟩ := hs
  have hst : (s.time.health src).state = .healthy := (hh.health src).1 (by rw [hd]; rfl)
  have hf := faultSource_moved src s
  have hn : (faultSource src s).now = s.now := State.now_eq_of_time (by rw [hf.time]; simp)
  have hr := hf.trans (reselect_moved (hf.time ▸ hc.onHealth src _)) (by simp)
  rw [hf.time, hn, TimeUnit.onHealth_clock25] at hr
  refine ⟨_, rfl, ?_⟩
  rw [hd, if_pos ⟨hst, localReached_some.2 hl⟩]
  exact hr

theorem execFaultDeadlineExpiry_early {src : TimedSource} {s : State}
    (h : ∀ d, (s.time.health src).deadline = some d → s.time.clock25 < d) :
    execFaultDeadlineExpiry src s = .next s := by
  unfold execFaultDeadlineExpiry
  exact congrArg _ (if_neg fun hc => not_localReached h hc.2)

/-- An expiry of the holdover deadline that is held and reached (R10). -/
theorem execHoldoverDeadlineExpiry_due {s : State} (hs : s.time.Sound) {d : Nat}
    (hd : s.time.holdoverDeadline = some d) (hl : d ≤ s.time.clock25) :
    ∃ t, execHoldoverDeadlineExpiry s = .next t ∧
      Moved { s.time with clock := .degraded, lockRun := 0, holdoverDeadline := none }
        [toAll (noticeTimeSource .localOsc 6)] s t := by
  obtain ⟨-, hc, -⟩ := hs
  have hk : s.time.clock = .holdover := hc.2.1 (by rw [hd]; rfl)
  have hsel : s.time.selected = .localOsc := hc.1.2 (.inr (.inl hk))
  have hm := changeClock_moved .degraded s
  rw [TimeUnit.enterClock_degraded] at hm
  refine ⟨_, rfl, ?_⟩
  rw [hd, if_pos ⟨hk, localReached_some.2 hl⟩]
  exact ⟨hm.frame, hm.time, hsel ▸ hm.heard⟩

theorem execHoldoverDeadlineExpiry_early {s : State} (h : ∀ d, s.time.holdoverDeadline = some d → s.time.clock25 < d) :
    execHoldoverDeadlineExpiry s = .next s :=
  congrArg _ (if_neg fun hc => not_localReached h hc.2)

/-- Settles O14: a held deadline stands for a HEALTHY source or for HOLDOVER, so its expiry acts once it is reached, and
only then. -/
theorem timeDeadlinesExpire : Obligations.TimeDeadlinesExpire := by
  unfold Obligations.TimeDeadlinesExpire
  intro s hs
  have hs := (clockInv_iff s).1 hs
  refine ⟨fun src => ⟨fun d hd hl => ?_, fun h => ⟨s, execFaultDeadlineExpiry_early h, rfl⟩⟩, fun d hd hl => ?_,
    fun h => ⟨s, execHoldoverDeadlineExpiry_early h, rfl⟩⟩
  · obtain ⟨t, ht, hm⟩ := execFaultDeadlineExpiry_due hs hd hl
    exact ⟨t, ht, hm.frame, hm.time, hm.heard⟩
  · obtain ⟨t, ht, hm⟩ := execHoldoverDeadlineExpiry_due hs hd hl
    exact ⟨t, ht, hm.frame, hm.time, hm.heard⟩

end Sys2Proof.Machine
end

section
/-! TIME-CONFIG: what its fields read as, and what an accepted one does. -/

namespace Sys2Proof.Machine

/-! ### Fields (R20, section 11.2) -/

theorem sourceOf_eq_some {b : Byte} {x : Source} : sourceOf b = some x ↔ b = x.code := by
  unfold sourceOf
  cases x <;> simp only [Source.code] <;> (repeat' split) <;> simp_all

theorem edgeOf_eq_some {b : Byte} {x : PulseEdge} : edgeOf b = some x ↔ b = edgeCode x := by
  unfold edgeOf
  cases x <;> simp only [edgeCode] <;> (repeat' split) <;> simp_all

theorem inRange_eq_some {lo hi w n : Nat} {v : BitVec w} :
    inRange lo hi v = some n ↔ v.toNat = n ∧ lo ≤ n ∧ n ≤ hi := by
  unfold inRange
  split
  · simp only [Option.some.injEq]; omega
  · simp only [reduceCtorEq, false_iff]; omega

theorem number_eq_some {n : Nat} {b : Byte} {i : Fin n} : number n b = some i ↔ b.toNat = i.1 := by
  unfold number
  split
  · rw [Option.some.injEq, Fin.ext_iff]
  · simp only [reduceCtorEq, false_iff]; omega

theorem number_eq_none {n : Nat} {b : Byte} : number n b = none ↔ n ≤ b.toNat := by
  unfold number
  split <;> simp <;> omega

theorem syncOf_eq_some {v : BitVec 16} {n : Nat} :
    syncOf v = some n ↔ v.toNat = n ∧ (n = 125 ∨ n = 250 ∨ n = 500 ∨ n = 1000) := by
  unfold syncOf
  have e : (v = 125 ∨ v = 250 ∨ v = 500 ∨ v = 1000) ↔
      (v.toNat = 125 ∨ v.toNat = 250 ∨ v.toNat = 500 ∨ v.toNat = 1000) := by
    simp only [← BitVec.toNat_inj]
    rfl
  simp only [e]
  split
  · simp only [Option.some.injEq]; omega
  · simp only [reduceCtorEq, false_iff]; omega

theorem readPriority_eq_some {a b c : Byte} {x y z : Source} :
    readPriority a b c = some (x, y, z) ↔
      (a = x.code ∧ b = y.code ∧ c = z.code) ∧ x ≠ y ∧ x ≠ z ∧ y ≠ z := by
  simp only [readPriority, Option.bind_eq_bind, Option.bind_eq_some_iff, sourceOf_eq_some]
  constructor
  · rintro ⟨x', hx, y', hy, z', hz, h⟩
    split at h
    · cases h
    · cases h; tauto
  · rintro ⟨⟨hx, hy, hz⟩, h⟩
    exact ⟨x, hx, y, hy, z, hz, if_neg (by tauto)⟩

/-- The fields of a TIME-CONFIG stand for the configuration `c` (R20). -/
structure FieldsOf (c : TimeConfig) (a b z : Byte) (ms : BitVec 16) (pd ud : BitVec 32) (kp ki : Byte)
    (st : BitVec 16) (lk : BitVec 32) (q : Byte) (h : BitVec 32) (g e : Byte) : Prop where
  first : a = c.first.code
  second : b = c.second.code
  third : z = c.third.code
  syncMs : ms.toNat = c.syncMs
  pathDelay : pd.toNat = c.pathDelay
  pulseDelay : ud.toNat = c.pulseDelay
  kp : kp.toNat = c.kp
  ki : ki.toNat = c.ki
  stepUs : st.toNat = c.stepUs
  lockNs : lk.toNat = c.lockNs
  q : q.toNat = c.q
  holdoverS : h.toNat = c.holdoverS
  gmPort : g.toNat = c.gmPort.1
  edge : e = edgeCode c.edge

theorem readTimeConfig_of_fields {c : TimeConfig} (hc : TimeConfigInRange c) {a b z : Byte} {ms : BitVec 16}
    {pd ud : BitVec 32} {kp ki : Byte} {st : BitVec 16} {lk : BitVec 32} {q : Byte} {h : BitVec 32} {g e : Byte}
    (f : FieldsOf c a b z ms pd ud kp ki st lk q h g e) :
    readTimeConfig a b z ms pd ud kp ki st lk q h g e = some c := by
  obtain ⟨h1, h2, h3, h4, h5, h6, h7, h8, h9, h10, h11, h12, h13, h14, h15, h16⟩ := hc
  have hp := readPriority_eq_some.2 ⟨⟨f.first, f.second, f.third⟩, h1, h2, h3⟩
  simp only [readTimeConfig, hp, syncOf_eq_some.2 ⟨f.syncMs, h4⟩, inRange_eq_some.2 ⟨f.pathDelay, Nat.zero_le _, h5⟩,
    inRange_eq_some.2 ⟨f.pulseDelay, Nat.zero_le _, h6⟩, inRange_eq_some.2 ⟨f.kp, Nat.zero_le _, h7⟩,
    inRange_eq_some.2 ⟨f.ki, Nat.zero_le _, h8⟩, inRange_eq_some.2 ⟨f.stepUs, h9, h10⟩,
    inRange_eq_some.2 ⟨f.lockNs, h11, h12⟩, inRange_eq_some.2 ⟨f.q, h13, h14⟩,
    inRange_eq_some.2 ⟨f.holdoverS, h15, h16⟩, number_eq_some.2 f.gmPort, edgeOf_eq_some.2 f.edge]
  rfl

theorem fields_of_readTimeConfig {c : TimeConfig} {a b z : Byte} {ms : BitVec 16}
    {pd ud : BitVec 32} {kp ki : Byte} {st : BitVec 16} {lk : BitVec 32} {q : Byte} {h : BitVec 32} {g e : Byte}
    (hr : readTimeConfig a b z ms pd ud kp ki st lk q h g e = some c) :
    TimeConfigInRange c ∧ FieldsOf c a b z ms pd ud kp ki st lk q h g e := by
  simp only [readTimeConfig, Option.bind_eq_bind, Option.bind_eq_some_iff, Prod.exists, readPriority_eq_some,
    syncOf_eq_some, inRange_eq_some, number_eq_some, edgeOf_eq_some] at hr
  obtain ⟨x, y, w, ⟨⟨ha, hb, hz⟩, n1, n2, n3⟩, t, ⟨ht, rt⟩, p, ⟨hpd, -, rp⟩, u, ⟨hud, -, ru⟩, i, ⟨hkp, -, ri⟩, j,
    ⟨hki, -, rj⟩, k, ⟨hst, rk, rk'⟩, m, ⟨hlk, rm, rm'⟩, n, ⟨hq, rn, rn'⟩, o, ⟨hh, ro, ro'⟩, v, hg, r, he, hc⟩ := hr
  cases hc
  exact ⟨⟨n1, n2, n3, rt, rp, ru, ri, rj, rk, rk', rm, rm', rn, rn', ro, ro'⟩,
    ⟨ha, hb, hz, ht, hpd, hud, hkp, hki, hst, hlk, hq, hh, hg, he⟩⟩

/-- The fields that a configuration in range is sent in. -/
theorem fieldsOf_ofNat {c : TimeConfig} (hc : TimeConfigInRange c) :
    FieldsOf c c.first.code c.second.code c.third.code (BitVec.ofNat 16 c.syncMs)
      (BitVec.ofNat 32 c.pathDelay) (BitVec.ofNat 32 c.pulseDelay) (BitVec.ofNat 8 c.kp) (BitVec.ofNat 8 c.ki)
      (BitVec.ofNat 16 c.stepUs) (BitVec.ofNat 32 c.lockNs) (BitVec.ofNat 8 c.q) (BitVec.ofNat 32 c.holdoverS)
      (BitVec.ofNat 8 c.gmPort.1) (edgeCode c.edge) := by
  obtain ⟨-, -, -, h4, h5, h6, h7, h8, h9, h10, h11, h12, h13, h14, h15, h16⟩ := hc
  have hg := c.gmPort.2
  constructor <;> first | rfl | (rw [BitVec.toNat_ofNat]; omega)

/-! ### The request -/

/-- A configuration that changes nothing of R21, and no place of the priority list, is only replaced. -/
theorem configureTime_unchanged {c : TimeConfig} {s : State} (h1 : c.first = s.time.config.first)
    (h2 : c.second = s.time.config.second) (h3 : c.third = s.time.config.third)
    (hm : c.syncMs = s.time.config.syncMs) (hg : c.gmPort = s.time.config.gmPort) (he : c.edge = s.time.config.edge)
    (hh : c.holdoverS = s.time.config.holdoverS) (hs : s.time.selected = s.time.choice) :
    configureTime c s = s.onTime fun t => { t with config := c } := by
  have hr : reconfigure c s = s.onTime fun t => { t with config := c } := by
    simp [reconfigure, doWhen, hm, hg, he, hh]
  have hc : (s.onTime fun t => { t with config := c }).time.choice = s.time.choice :=
    TimeUnit.choice_congr h1 h2 h3 rfl rfl
  rw [configureTime_eq, hr, reselect]
  exact if_pos (hc.trans hs.symm)

theorem TimeUnit.reselected_config (now : Int) (here : Nat) (u : TimeUnit) :
    (u.reselected now here).config = u.config := by
  unfold TimeUnit.reselected TimeUnit.enterClock
  dsimp only
  repeat' split
  all_goals rfl

theorem configureTime_config (c : TimeConfig) (s : State) : (configureTime c s).time.config = c := by
  rw [configureTime_time, TimeUnit.reselected_config, (TimeUnit.reconfigured_follows c _ s.time).config]

@[simp] theorem held_time (l : Link) (tag : Byte) (r : Request) (s : State) : (held l tag r s).time = s.time := by
  cases l <;> rfl

/-- A request that is taken leaves the Time Unit that its owner leaves. -/
theorem request_time {l : Link} {tag : Byte} {r : Request} {own : State → Answer} {s : State} (h : Taken l r s)
    (hp : placedAtOnce r = false) : (request l tag r own s).time = (own (held l tag r s)).state.time := by
  rw [request_taken h hp]
  cases l <;> rfl

/-- The slot of a request that is taken holds its owner's answer. -/
theorem request_slot {l : Link} {tag : Byte} {r : Request} {own : State → Answer} {s : State} (h : Taken l r s)
    (hp : placedAtOnce r = false) :
    ((request l tag r own s).link l).slot = .workingAnswered
      { code := requestCode r, tag := tag, status := (own (held l tag r s)).status
        body := (own (held l tag r s)).body } := by
  rw [request_taken h hp]
  cases l <;> rfl

/-- A request that its owner refuses is answered so, and changes nothing else. -/
theorem request_onlyReplies {c : Instr} {l : Link} {tag : Byte} {r : Request} {own : State → Answer} {s : State}
    {st : Status} {body : List Byte} (hx : exec c s = .next (request l tag r own s)) (h : Taken l r s)
    (hp : placedAtOnce r = false) (ho : own (held l tag r s) = ⟨held l tag r s, st, body⟩) :
    OnlyReplies c l tag r st body s := by
  refine ⟨_, hx, request_replied h hp (by rw [ho]) (by rw [ho]) (by rw [ho]; exact .nil _ _), ?_⟩
  exact request_sameBut h hp (by simp) (by rw [ho]; exact .refl _ _)

theorem ownTimeConfig_of_fields {c : TimeConfig} (hc : TimeConfigInRange c) {a b z : Byte} {ms : BitVec 16}
    {pd ud : BitVec 32} {kp ki : Byte} {st : BitVec 16} {lk : BitVec 32} {q : Byte} {h : BitVec 32} {g e : Byte}
    (f : FieldsOf c a b z ms pd ud kp ki st lk q h g e) (s : State) :
    ownTimeConfig a b z ms pd ud kp ki st lk q h g e s = done [] (configureTime c s) := by
  rw [ownTimeConfig, readTimeConfig_of_fields hc f]

/-- Fields that stand for no configuration in range are refused. -/
theorem ownTimeConfig_refused {a b z : Byte} {ms : BitVec 16}
    {pd ud : BitVec 32} {kp ki : Byte} {st : BitVec 16} {lk : BitVec 32} {q : Byte} {h : BitVec 32} {g e : Byte}
    (hn : ∀ c, TimeConfigInRange c → ¬ FieldsOf c a b z ms pd ud kp ki st lk q h g e) (s : State) :
    ownTimeConfig a b z ms pd ud kp ki st lk q h g e s = refuse .refusedRange s := by
  have hr : readTimeConfig a b z ms pd ud kp ki st lk q h g e = none := by
    rw [Option.eq_none_iff_forall_ne_some]
    intro c hc
    obtain ⟨h1, h2⟩ := fields_of_readTimeConfig hc
    exact hn c h1 h2
  rw [ownTimeConfig, hr]

/-- Settles O15: a configuration in range is read back from its fields, the items of R21 act on the Time Unit one after the
other, and every other string of fields stands for no configuration in range. -/
theorem timeConfigReplacesTheConfiguration : Obligations.TimeConfigReplacesTheConfiguration := by
  unfold Obligations.TimeConfigReplacesTheConfiguration
  refine fun l tag s => ⟨fun c hc ht => ?_, fun a b z ms pd ud kp ki st lk q h g e ht hn => ?_⟩
  · have ho := ownTimeConfig_of_fields hc (fieldsOf_ofNat hc)
    refine ⟨⟨_, rfl, ?_, ?_, ?_⟩, fun hs => ?_, fun h1 h2 h3 hm hg he hh hs => ?_⟩
    · exact request_sameBut ht rfl (by cases l <;> decide) (by rw [ho]; exact configureTime_frame _ _)
    · rw [request_time ht rfl, ho]
      exact configureTime_config _ _
    · rw [request_slot ht rfl, ho]
      rfl
    · have hk := fun r => configureTime_moved c (s := held l tag r s) (by simpa using ((clockInv_iff s).1 hs).2.1)
      simp only [held_time, held_now] at hk
      refine ⟨_, rfl, ?_, request_replied ht rfl (by rw [ho]; rfl) (by rw [ho]; rfl) ?_⟩
      · rw [request_time ht rfl, ho]
        exact (hk _).time
      · rw [ho]
        exact (hk _).heard_at (held_now ..)
    · have hk := fun r => configureTime_unchanged (s := held l tag r s) (c := c) (by simpa using h1) (by simpa using h2)
        (by simpa using h3) (by simpa using hm) (by simpa using hg) (by simpa using he) (by simpa using hh)
        (by simpa using hs)
      refine ⟨_, rfl, ?_, request_replied ht rfl (by rw [ho]; rfl) (by rw [ho]; rfl) ?_⟩
      · rw [request_time ht rfl, ho]
        simp [done, hk]
      · rw [ho, done, hk]
        exact (State.onTime_frame _ _).hears _ (by simp)
  · refine request_onlyReplies rfl ht rfl (ownTimeConfig_refused (fun c hc f => hn ⟨c, hc, ?_⟩) _)
    exact ⟨f.first, f.second, f.third, f.syncMs, f.pathDelay, f.pulseDelay, f.kp, f.ki, f.stepUs, f.lockNs, f.q,
      f.holdoverS, f.gmPort, f.edge⟩

end Sys2Proof.Machine
end

section
/-! Samples: the step, the servo and the lock stage (R13 to R18). -/

namespace Sys2Proof.Machine

/-! ### The lock stage (R16) -/

/-- The Time Unit after the lock stage of a sample of offset `o`, in ACQUIRING or LOCKED (R16). -/
def TimeUnit.lockStaged (o now : Int) (here : Nat) (u : TimeUnit) : TimeUnit :=
  if u.counts o then
    if u.config.q ≤ u.lockRun + 1 then u.enterClock u.clock.afterRun now here
    else { u with lockRun := u.lockRun + 1 }
  else { u with lockRun := 0 }

/-- What the links hear of a change from clock state `a` to `b` with `src` selected (R9). -/
def clockHeard (src : Source) (a b : ClockState) : List Heard :=
  if b = a then [] else [toAll (noticeTimeSource src b.reason)]

theorem clockHeard_self (src : Source) (a : ClockState) : clockHeard src a a = [] := if_pos rfl

theorem ClockState.afterRun_ne {c : ClockState} (h : c = .acquiring ∨ c = .locked) : c.afterRun ≠ c := by
  obtain rfl | rfl := h <;> decide

theorem lockStage_moved (o : Int) {s : State} (h : s.time.clock = .acquiring ∨ s.time.clock = .locked) :
    Moved (s.time.lockStaged o s.now s.localNow)
      (clockHeard s.time.selected s.time.clock (s.time.lockStaged o s.now s.localNow).clock) s (lockStage o s) := by
  unfold lockStage TimeUnit.lockStaged
  dsimp only
  rw [if_pos h]
  split
  · split
    · have hc := changeClock_moved s.time.clock.afterRun s
      rwa [TimeUnit.enterClock_clock, clockHeard, if_neg (ClockState.afterRun_ne h)]
    · exact clockHeard_self s.time.selected s.time.clock ▸ onTime_moved (fun t => { t with lockRun := t.lockRun + 1 }) s
  · exact clockHeard_self s.time.selected s.time.clock ▸ onTime_moved (fun t => { t with lockRun := 0 }) s

/-- A sample counts toward the change of its clock state: within the lock threshold in ACQUIRING, beyond it in LOCKED. -/
theorem TimeUnit.counts_iff (o : Int) {u : TimeUnit} (h : u.clock = .acquiring ∨ u.clock = .locked) :
    u.counts o = true ↔
      if u.clock = .acquiring then o.natAbs ≤ u.config.lockNs else u.config.lockNs < o.natAbs := by
  obtain h | h := h <;> simp [TimeUnit.counts, h]

/-- The servo on an offset, with the sample's record. -/
def TimeUnit.servoed (o : Int) (ms : Nat) (src : TimedSource) (mt : Int) (u : TimeUnit) : TimeUnit :=
  TimeUnit.discipline o ms { u with lastOffset := some { offset := o, source := src, mt := mt } }

theorem ClockState.afterRun_eq {c : ClockState} (h : c = .acquiring ∨ c = .locked) :
    c.afterRun = if c = .acquiring then .locked else .acquiring := by
  obtain rfl | rfl := h <;> rfl

theorem TimeUnit.enterClock_afterRun {u : TimeUnit} (h : u.clock = .acquiring ∨ u.clock = .locked) (now : Int)
    (here : Nat) :
    u.enterClock u.clock.afterRun now here =
      { u with
        clock := if u.clock = .acquiring then .locked else .acquiring, lockRun := 0
        everLocked := u.everLocked || decide ((if u.clock = .acquiring then ClockState.locked else .acquiring) = .locked)
        holdoverDeadline := none } := by
  rw [ClockState.afterRun_eq h]
  split <;> rw [TimeUnit.enterClock_of_ne (by decide)] <;> rfl

/-- The servo and the lock stage are those of R14 and R16. -/
theorem TimeUnit.lockStaged_disciplined (o : Int) (ms : Nat) (src : TimedSource) (mt now : Int) (here : Nat)
    {u : TimeUnit} (h : u.clock = .acquiring ∨ u.clock = .locked) (hl : u.clock = .locked → u.everLocked = true) :
    Disciplined o ms src mt u ((u.servoed o ms src mt).lockStaged o now here) := by
  have hcount : (u.servoed o ms src mt).counts o = true ↔
      if u.clock = .acquiring then o.natAbs ≤ u.config.lockNs else u.config.lockNs < o.natAbs :=
    TimeUnit.counts_iff o h
  have hever : u.everLocked = (u.everLocked || decide (u.clock = .locked)) := by
    by_cases e : u.clock = .locked <;> simp [e, hl]
  unfold TimeUnit.lockStaged
  by_cases hc : (u.servoed o ms src mt).counts o = true
  · rw [if_pos hc]
    by_cases hq : u.config.q ≤ u.lockRun + 1
    · have hq' : (u.servoed o ms src mt).config.q ≤ (u.servoed o ms src mt).lockRun + 1 := hq
      have hne : (if u.clock = .acquiring then ClockState.locked else .acquiring) ≠ u.clock :=
        ClockState.afterRun_eq h ▸ ClockState.afterRun_ne h
      rw [if_pos hq', TimeUnit.enterClock_afterRun (u := u.servoed o ms src mt) h]
      refine ⟨rfl, rfl, rfl, rfl, ⟨fun n => absurd (hcount.1 hc) n, fun _ hn => absurd hq (Nat.not_le.2 hn),
        fun _ _ => ⟨rfl, rfl⟩⟩, rfl, ?_⟩
      dsimp only [TimeUnit.servoed, TimeUnit.discipline]
      congr 1
      exact (if_neg hne).symm
    · have hq' : ¬ (u.servoed o ms src mt).config.q ≤ (u.servoed o ms src mt).lockRun + 1 := hq
      rw [if_neg hq']
      exact ⟨rfl, rfl, rfl, rfl, ⟨fun n => absurd (hcount.1 hc) n, fun _ _ => ⟨rfl, rfl⟩, fun _ hn => absurd hn hq⟩,
        hever, by simp only [TimeUnit.servoed, TimeUnit.discipline, if_true]⟩
  · rw [if_neg hc]
    exact ⟨rfl, rfl, rfl, rfl, ⟨fun _ => ⟨rfl, rfl⟩, fun n => absurd (hcount.2 n) hc, fun n => absurd (hcount.2 n) hc⟩,
      hever, by simp only [TimeUnit.servoed, TimeUnit.discipline, if_true]⟩

/-! ### A step (R17, R18) -/

theorem MachineTime.stepped_toTime (o : Int) (m : MachineTime) :
    (m.stepped o).toTime = max 0 (min maxTime (m.toTime + o)) := by
  have hm : 0 ≤ maxTime := by decide
  unfold MachineTime.stepped
  split
  next hneg =>
    rw [max_eq_left (by omega)]
    rfl
  split
  · rw [machineTimeAt_toTime hm]; omega
  · rw [machineTimeAt_toTime (by omega)]; omega

theorem MachineTime.stepped_frac (o : Int) (m : MachineTime) :
    (m.stepped o).frac = if m.toTime + o < 0 then 0 else if maxTime < m.toTime + o then 65535 else m.frac := by
  unfold MachineTime.stepped
  repeat' split
  all_goals rfl

/-- The shift of the deadlines of the other blocks by `d`, from a state that differs from `s` in the Time Unit and the links
alone (R18). -/
theorem deadlinesMoved_of_shift {s r : State} (h : SameBut ([.time] ++ allLinks) s r) (d : Int) (n : Notice) :
    DeadlinesMoved d s (postAll n (shiftDeadlines d r)) := by
  refine ⟨((h.mono (by decide)).trans ((shiftDeadlines_frame d r).mono (by decide))).trans
    ((postAll_frame n _).mono (by decide)), ?_, ?_, fun p => ?_, fun k => ?_, ?_, ?_, fun x => ?_⟩
  · rw [← h.track]; rfl
  · rw [← h.store, ← h.streams]; rfl
  · rw [← h.ports]; exact Tbl.get_map _ _ _
  · rw [← h.grants]
    refine (Tbl.get_map r.grants.slots (·.shift d) k).trans ?_
    unfold GrantSlot.shift
    dsimp only
    cases e : (r.grants.slots.get k).state <;> simp
  · rw [← h.grants]; rfl
  · rw [← h.grants]; rfl
  · rw [← h.outputs]; exact Tbl.get_map _ _ _

end Sys2Proof.Machine
end

section
/-! A sample as a whole, and what an arrival leaves of the health records. -/

namespace Sys2Proof.Machine

theorem clampTo_eq (m v : Int) : clampTo m v = max (-m) (min m v) := rfl

theorem TimeConfig.stepNs_eq (c : TimeConfig) : (c.stepNs : Int) = (c.stepUs : Int) * 1000 := by
  simp [TimeConfig.stepNs]

/-- A sample above the step threshold with step lock OFF: MT steps (R17, R18). -/
theorem sample_step {src : TimedSource} {o mt : Int} {ms : Nat} {ns : List Heard} {v : TimeUnit} {s r : State}
    (h : Moved v ns s r) (hm : v.mt = s.time.mt) (hl : v.stepLock = false) (ho : v.config.stepNs < o.natAbs) :
    let t := sample src o ms mt r
    let d := t.now - s.now
    Stepped o src mt s.now v t.time ∧ DeadlinesMoved d s t ∧
      ∀ m, t.link m =
        hear [toAll (noticeTimeStepped src (if d = 0 then Config.zeroStepIsForward else decide (0 < d)))] t.now m
          (hear ns s.now m (s.link m)) := by
  have hr : sample src o ms mt r = stepTime src o (recordOffset o src mt r) := by
    rw [sample, h.time, if_pos ⟨hl, ho⟩]
  have hn : (recordOffset o src mt r).now = s.now := State.now_eq_of_time (by rw [← hm, ← h.time]; rfl)
  have hs : s.now = v.mt.toTime := by rw [hm]; rfl
  have hf : SameBut ([.time] ++ allLinks) s (recordOffset o src mt r) :=
    h.frame.trans ((recordOffset_frame o src mt r).mono (by decide))
  rw [hr]
  intro t d
  have htime : t.time = { v with
      mt := v.mt.stepped o, pTerm := 0, lastOffset := some { offset := o, source := src, mt := mt }
      lastStep := some { applied := (v.mt.stepped o).toTime - s.now, mtAfter := (v.mt.stepped o).toTime } } := by
    rw [← h.time, ← hn]; rfl
  have hd : d = (v.mt.stepped o).toTime - s.now := by
    have : t.now = (v.mt.stepped o).toTime := by rw [State.now, htime]
    rw [← this]
  have ha : d = ((recordOffset o src mt r).time.mt.stepped o).toTime - (recordOffset o src mt r).now := by
    rw [hd, hn, ← h.time]; rfl
  refine ⟨⟨?_, ?_, ?_⟩, ?_, fun m => ?_⟩
  · rw [htime, hs]; exact MachineTime.stepped_toTime o v.mt
  · rw [htime, hs]; exact MachineTime.stepped_frac o v.mt
  · rw [htime]
  · rw [ha]
    exact deadlinesMoved_of_shift (hf.trans ((State.onTime_frame _ _).mono (by decide))) _ _
  · rw [ha]
    refine (postAll_hears _ _ m).trans ?_
    rw [← h.heard m]
    rfl

/-- A sample within the step threshold, or with step lock ON: the servo and the lock stage (R14, R16). -/
theorem sample_servo {src : TimedSource} {o mt : Int} {ms : Nat} {ns : List Heard} {v : TimeUnit} {s r : State}
    (h : Moved v ns s r) (hm : v.mt = s.time.mt) (hn : ¬ (v.stepLock = false ∧ v.config.stepNs < o.natAbs))
    (hrun : v.clock = .acquiring ∨ v.clock = .locked) (hl : v.clock = .locked → v.everLocked = true) :
    let o' := clampTo v.config.stepNs o
    Moved ((v.servoed o' ms src mt).lockStaged o' s.now r.localNow)
      (ns ++ clockHeard v.selected v.clock ((v.servoed o' ms src mt).lockStaged o' s.now r.localNow).clock) s
      (sample src o ms mt r) ∧
    Disciplined o' ms src mt v ((v.servoed o' ms src mt).lockStaged o' s.now r.localNow) := by
  intro o'
  refine ⟨?_, TimeUnit.lockStaged_disciplined o' ms src mt _ _ hrun hl⟩
  have he : sample src o ms mt r = lockStage o' ((recordOffset o' src mt r).onTime (·.discipline o' ms)) := by
    rw [sample, h.time, if_neg hn]
  have h2 : Moved (v.servoed o' ms src mt) ns s ((recordOffset o' src mt r).onTime (·.discipline o' ms)) :=
    (h.onTime fun t => { t with lastOffset := some { offset := o', source := src, mt := mt } }).onTime _
  have hk := h2.trans (lockStage_moved o' (h2.time ▸ hrun)) hm
  rw [← he, h2.time, State.now_eq_of_time ((congrArg _ h2.time).trans hm)] at hk
  exact hk

/-- The Time Unit from which a sample of `src` is taken: one of HALL-PULSE consumes the armed second (R12). -/
def TimeUnit.sampling (src : TimedSource) (u : TimeUnit) : TimeUnit :=
  if src = .hallPulse then { u with armed := none } else u

/-- The sample interval of a source (R14). -/
def TimeUnit.interval (src : TimedSource) (u : TimeUnit) : Nat := if src = .hallPulse then 1000 else u.config.syncMs

/-- A sample of the selected source, in ACQUIRING or LOCKED (R12 to R18). -/
theorem sample_sampled {src : TimedSource} {o mt : Int} {ns : List Heard} {u : TimeUnit} {s r : State}
    (h : Moved (u.sampling src) ns s r) (hm : u.mt = s.time.mt) (hsel : u.selected = sourceOfTimed src)
    (hrun : u.clock = .acquiring ∨ u.clock = .locked) (hl : u.clock = .locked → u.everLocked = true) :
    Sampled src o mt ns u s (sample src o (u.interval src) mt r) := by
  have hv : (u.sampling src).mt = u.mt ∧ (u.sampling src).config = u.config ∧
      (u.sampling src).stepLock = u.stepLock ∧ (u.sampling src).clock = u.clock ∧
      (u.sampling src).everLocked = u.everLocked ∧ (u.sampling src).selected = u.selected := by
    unfold TimeUnit.sampling
    split <;> exact ⟨rfl, rfl, rfl, rfl, rfl, rfl⟩
  obtain ⟨vmt, vcfg, vlock, vclk, vever, vsel⟩ := hv
  have hlim : ((u.config.stepUs : Int) * 1000).natAbs = u.config.stepNs := by
    rw [← TimeConfig.stepNs_eq, Int.natAbs_natCast]
  unfold Sampled
  dsimp only
  rw [hlim]
  split
  next hs =>
    have ho : (u.sampling src).config.stepNs < o.natAbs := by rw [vcfg]; exact hs.1
    exact sample_step h (vmt.trans hm) (vlock.trans hs.2) ho
  next hs =>
    obtain ⟨hmv, hd⟩ := sample_servo (o := o) (ms := u.interval src) (mt := mt) (src := src) h (vmt.trans hm)
      (by rw [vlock, vcfg]; tauto) (vclk ▸ hrun) (by rw [vclk, vever]; exact hl)
    rw [vcfg, clampTo_eq, TimeConfig.stepNs_eq] at hmv hd
    refine ⟨hmv.frame, hmv.time ▸ hd, ?_⟩
    have hh := hmv.heard
    rw [vclk, vsel, hsel, ← hmv.time] at hh
    exact hh

end Sys2Proof.Machine
end

section
/-! Arrivals: pulse edges and SYNCs (R3, R5). -/

namespace Sys2Proof.Machine

/-! ### What an arrival makes of its health record -/

section arrive
variable {h : Health} {q d : Nat} {x : Stamp}

theorem Health.arrive_healthy (hs : h.state = .healthy) (b : Bool) :
    h.arrive b q d x =
      { h with lastMt := some x.mt, lastLocal := some x.localTime, deadline := some (x.localTime + d) } := by
  simp [Health.arrive, hs]

theorem Health.arrive_late (hs : h.state = .faulted) :
    h.arrive false q d x = { h with lastMt := some x.mt, lastLocal := some x.localTime, qual := 0 } := by
  simp [Health.arrive, hs]

theorem Health.arrive_counted (hs : h.state = .faulted) (hq : h.qual + 1 < q) :
    h.arrive true q d x = { h with lastMt := some x.mt, lastLocal := some x.localTime, qual := h.qual + 1 } := by
  simp [Health.arrive, hs, Nat.not_le.2 hq]

theorem Health.arrive_risen (hs : h.state = .faulted) (hq : q ≤ h.qual + 1) :
    h.arrive true q d x =
      { h with
        lastMt := some x.mt, lastLocal := some x.localTime, state := .healthy, qual := h.qual + 1
        deadline := some (x.localTime + d) } := by
  simp [Health.arrive, hs, hq]

theorem Health.recovers_healthy (hs : h.state = .healthy) (b : Bool) : h.recovers b q = false := by
  simp [Health.recovers, hs]

theorem Health.recovers_late : h.recovers false q = false := by simp [Health.recovers]

theorem Health.recovers_counted (hq : h.qual + 1 < q) (b : Bool) : h.recovers b q = false := by
  simp [Health.recovers, hq]

theorem Health.recovers_risen (hs : h.state = .faulted) (hq : q ≤ h.qual + 1) : h.recovers true q = true := by
  simp [Health.recovers, hs, hq]

/-- An arrival that does not make its source HEALTHY leaves the health state. -/
theorem Health.arrive_state {b : Bool} (hr : h.recovers b q = false) : (h.arrive b q d x).state = h.state := by
  cases hs : h.state with
  | healthy => rw [Health.arrive_healthy hs]; exact hs
  | faulted =>
    cases b with
    | false => rw [Health.arrive_late hs]; exact hs
    | true =>
      have hq : h.qual + 1 < q := by simpa [Health.recovers, hs] using hr
      rw [Health.arrive_counted hs hq]; exact hs

end arrive

/-- The choice of a source does not change with a health record that keeps its state. -/
theorem TimeUnit.onHealth_choice {src : TimedSource} {f : Health → Health} {u : TimeUnit}
    (hf : (f (u.health src)).state = (u.health src).state) : (u.onHealth src f).choice = u.choice := by
  cases src
  · exact TimeUnit.choice_congr rfl rfl rfl hf rfl
  · exact TimeUnit.choice_congr rfl rfl rfl rfl hf

/-- An arrival that does not make its source HEALTHY changes its record alone, where the selection is settled. -/
theorem arrival_steady {src : TimedSource} {b : Bool} {d : Nat} {x : Stamp} {s : State}
    (hr : (s.time.health src).recovers b s.time.config.q = false) (hs : s.time.selected = s.time.choice) :
    arrival src b d x s = s.onTime (·.onHealth src (·.arrive b s.time.config.q d x)) := by
  have hc : (s.time.onHealth src (·.arrive b s.time.config.q d x)).choice =
      (s.time.onHealth src (·.arrive b s.time.config.q d x)).selected := by
    rw [TimeUnit.onHealth_choice (Health.arrive_state hr), TimeUnit.onHealth_selected, hs]
  unfold arrival
  dsimp only
  rw [hr]
  exact if_pos hc

/-! ### What a re-evaluation and a sample leave -/

/-- The health records, the last sequence byte and the armed second are those of `u`. -/
structure TimeUnit.Spares (u v : TimeUnit) : Prop where
  gm : v.gm = u.gm
  hp : v.hp = u.hp
  lastSeq : v.lastSeq = u.lastSeq
  armed : v.armed = u.armed

theorem TimeUnit.Spares.refl (u : TimeUnit) : u.Spares u := ⟨rfl, rfl, rfl, rfl⟩

theorem TimeUnit.Spares.trans {u v w : TimeUnit} (h : u.Spares v) (k : v.Spares w) : u.Spares w :=
  ⟨k.gm.trans h.gm, k.hp.trans h.hp, k.lastSeq.trans h.lastSeq, k.armed.trans h.armed⟩

theorem TimeUnit.enterClock_spares (c : ClockState) (now : Int) (here : Nat) (u : TimeUnit) :
    u.Spares (u.enterClock c now here) := by
  unfold TimeUnit.enterClock
  dsimp only
  split <;> exact ⟨rfl, rfl, rfl, rfl⟩

theorem TimeUnit.reselected_spares (now : Int) (here : Nat) (u : TimeUnit) : u.Spares (u.reselected now here) := by
  unfold TimeUnit.reselected
  dsimp only
  repeat' split
  · exact .refl u
  · exact ⟨rfl, rfl, rfl, rfl⟩
  · exact .trans (v := u.select u.choice) ⟨rfl, rfl, rfl, rfl⟩ (TimeUnit.enterClock_spares ..)

/-- An arrival changes its own health record, and no other of these. -/
theorem arrival_spares (src : TimedSource) (b : Bool) (d : Nat) (x : Stamp) (s : State) :
    (s.time.onHealth src (·.arrive b s.time.config.q d x)).Spares (arrival src b d x s).time :=
  arrival_time src b d x s ▸ TimeUnit.reselected_spares ..

theorem lockStage_spares (o : Int) (s : State) : s.time.Spares (lockStage o s).time := by
  unfold lockStage
  dsimp only
  repeat' split
  · exact TimeUnit.enterClock_spares ..
  all_goals exact ⟨rfl, rfl, rfl, rfl⟩

theorem sample_spares (src : TimedSource) (o : Int) (ms : Nat) (mt : Int) (s : State) :
    s.time.Spares (sample src o ms mt s).time := by
  unfold sample
  dsimp only
  split
  · exact ⟨rfl, rfl, rfl, rfl⟩
  · refine .trans ?_ (lockStage_spares _ _)
    exact ⟨rfl, rfl, rfl, rfl⟩

theorem TimeUnit.reevaluated_selected (now : Int) (here : Nat) (u : TimeUnit) :
    (u.reevaluated now here).selected = u.choice := by
  unfold TimeUnit.reevaluated
  dsimp only
  split
  next h => exact h.symm
  · rfl

theorem TimeUnit.reevaluated_mt (now : Int) (here : Nat) (u : TimeUnit) : (u.reevaluated now here).mt = u.mt := by
  unfold TimeUnit.reevaluated
  dsimp only
  split <;> rfl

theorem TimeUnit.reevaluated_config (now : Int) (here : Nat) (u : TimeUnit) :
    (u.reevaluated now here).config = u.config := by
  unfold TimeUnit.reevaluated
  dsimp only
  split <;> rfl

theorem TimeUnit.reevaluated_armed (now : Int) (here : Nat) (u : TimeUnit) :
    (u.reevaluated now here).armed = u.armed := by
  unfold TimeUnit.reevaluated
  dsimp only
  split <;> rfl

/-- The recovery of a source that was not selected: where it is selected now, in ACQUIRING, the arrival is a sample. -/
theorem recovered_of_moved {src : TimedSource} {o mt : Int} {u : TimeUnit} {s r t : State}
    (h : Moved (u.reevaluated s.now s.time.clock25) ([toAll (noticeSourceFault src true)] ++ u.selectionHeard) s r)
    (hm : u.mt = s.time.mt) (hne : u.selected ≠ sourceOfTimed src)
    (hs : r.time.selected = sourceOfTimed src → ∃ r', t = sample src o (u.interval src) mt r' ∧
      Moved ((u.reevaluated s.now s.time.clock25).sampling src)
        ([toAll (noticeSourceFault src true)] ++ u.selectionHeard) s r')
    (hn : r.time.selected ≠ sourceOfTimed src → t = r) : Recovered src o mt u s t := by
  have hsel : r.time.selected = u.choice := by rw [h.time, TimeUnit.reevaluated_selected]
  unfold Recovered
  dsimp only
  split
  next hc =>
    obtain ⟨r', rfl, hr'⟩ := hs (hsel.trans hc)
    have hl : u.choice ≠ .localOsc := by rw [hc]; cases src <;> decide
    have hclk : (u.reevaluated s.now s.time.clock25).clock = .acquiring := by
      have hu : u.choice ≠ u.selected := fun e => hne (e.symm.trans hc)
      simp [TimeUnit.reevaluated, hu, TimeUnit.clockAt_source hl]
    have hi : u.interval src = (u.reevaluated s.now s.time.clock25).interval src := by
      rw [TimeUnit.interval, TimeUnit.interval, TimeUnit.reevaluated_config]
    rw [hi]
    exact sample_sampled hr' ((TimeUnit.reevaluated_mt ..).trans hm) ((TimeUnit.reevaluated_selected ..).trans hc)
      (.inl hclk) (by rw [hclk]; exact fun e => by cases e)
  next hc =>
    rw [hn fun e => hc (hsel.symm.trans e)]
    exact ⟨h.frame, h.time, h.heard⟩

/-! ### Pulse edges (R5, R12) -/

theorem State.stampedAt_eq (s : State) (x : Option Stamp) : s.stampedAt x = s.stampOf x := by cases x <;> rfl

theorem halfSecond_eq : halfSecond = 12500000 := localMs_eq 500

theorem TimeUnit.glitch_iff (here : Nat) (u : TimeUnit) :
    u.glitch here = true ↔ ∃ x, u.hp.lastLocal = some x ∧ here < x + 12500000 := by
  unfold TimeUnit.glitch TimeUnit.edgeGap
  rw [halfSecond_eq]
  cases u.hp.lastLocal with
  | none => simp
  | some x => simp; omega

theorem TimeUnit.not_glitch {here : Nat} {u : TimeUnit} (h : gapAtLeast 12500000 u.hp.lastLocal here) :
    u.glitch here = false := by
  rw [← Bool.not_eq_true, TimeUnit.glitch_iff]
  rintro ⟨x, hx, hl⟩
  have := h x hx
  omega

theorem TimeUnit.edgeOnTime_iff {here : Nat} {u : TimeUnit} (h : gapAtLeast 12500000 u.hp.lastLocal here) :
    u.edgeOnTime here = true ↔ ∃ x, u.hp.lastLocal = some x ∧ here ≤ x + 37500000 := by
  unfold TimeUnit.edgeOnTime TimeUnit.edgeGap
  rw [halfSecond_eq]
  cases hx : u.hp.lastLocal with
  | none => simp
  | some x =>
    have := h x hx
    simp; omega

theorem TimeUnit.edgeOnTime_late {here : Nat} {u : TimeUnit}
    (h : ∀ x, u.hp.lastLocal = some x → x + 37500000 < here) : u.edgeOnTime here = false := by
  unfold TimeUnit.edgeOnTime TimeUnit.edgeGap
  rw [halfSecond_eq]
  cases hx : u.hp.lastLocal with
  | none => rfl
  | some x =>
    have := h x hx
    simp; omega

/-- The second nearest to an MT: a nanosecond part of half a second or more rounds up (R12). -/
theorem nearestSecond_eq (mt : Int) :
    nearestSecond mt = if 500000000 ≤ mt % 1000000000 then mt / 1000000000 + 1 else mt / 1000000000 := by
  unfold nearestSecond nsPerSec
  split <;> omega

/-- The offset of a pulse edge, from the armed second and the configuration alone. -/
theorem edgeOffset_eq {s : State} {u : TimeUnit} (ha : u.armed = s.time.armed) (hc : u.config = s.time.config)
    (mt : Int) : u.second mt * nsPerSec + (u.config.pulseDelay : Int) - mt = s.edgeOffset mt := by
  rw [TimeUnit.second, State.edgeOffset, ha, hc]
  cases s.time.armed with
  | none => rw [nearestSecond_eq]; rfl
  | some x => rfl

theorem samplePulse_eq {mt : Int} {s r : State} (ha : r.time.armed = s.time.armed)
    (hc : r.time.config = s.time.config) :
    samplePulse mt r = sample .hallPulse (s.edgeOffset mt) 1000 mt (r.onTime fun t => { t with armed := none }) := by
  rw [samplePulse, edgeOffset_eq ha hc]

/-- An edge of the selected polarity that is no glitch is an accepted arrival. -/
theorem execPulseEdge_accepted {x : Option Stamp} {s : State}
    (hg : gapAtLeast 12500000 s.time.hp.lastLocal (s.stampOf x).localTime) :
    execPulseEdge s.time.config.edge s x =
      let r := arrival .hallPulse (s.time.edgeOnTime (s.stampOf x).localTime) 75000000 (s.stampOf x) s
      .next (if r.time.selected = .hallPulse then samplePulse (s.stampOf x).mt r else r) := by
  unfold execPulseEdge
  dsimp only
  rw [if_neg (fun h => h rfl), TimeUnit.not_glitch hg, localSec_eq]
  rfl

end Sys2Proof.Machine
end

section
/-! Pulse edges: the statements. -/

namespace Sys2Proof.Machine

/-- An accepted edge that neither selects HALL-PULSE nor finds it selected changes the health record alone. -/
theorem execPulseEdge_unselected {x : Option Stamp} {s : State} {k : Health}
    (hg : gapAtLeast 12500000 s.time.hp.lastLocal (s.stampOf x).localTime) (hn : s.time.selected ≠ .hallPulse)
    (hs : s.time.selected = s.time.choice)
    (hr : s.time.hp.recovers (s.time.edgeOnTime (s.stampOf x).localTime) s.time.config.q = false)
    (hk : s.time.hp.arrive (s.time.edgeOnTime (s.stampOf x).localTime) s.time.config.q 75000000 (s.stampOf x) = k) :
    Completes (.pulseEdge s.time.config.edge x) s fun t =>
      SameBut [.time] s t ∧ t.time = { s.time with hp := k } := by
  have ha := arrival_steady (src := .hallPulse) (b := s.time.edgeOnTime (s.stampOf x).localTime) (d := 75000000)
    (x := s.stampOf x) hr hs
  refine ⟨_, execPulseEdge_accepted hg, ?_⟩
  rw [ha, if_neg (by simpa using hn), ← hk]
  exact ⟨State.onTime_frame _ s, rfl⟩

/-- An edge that makes HALL-PULSE HEALTHY. -/
theorem execPulseEdge_risen {x : Option Stamp} {s : State}
    (hg : gapAtLeast 12500000 s.time.hp.lastLocal (s.stampOf x).localTime) (hn : s.time.selected ≠ .hallPulse)
    (hf : s.time.hp.state = .faulted) (hb : s.time.edgeOnTime (s.stampOf x).localTime = true)
    (hq : s.time.config.q ≤ s.time.hp.qual + 1) {k : Health}
    (hk : s.time.hp.arrive true s.time.config.q 75000000 (s.stampOf x) = k) :
    Completes (.pulseEdge s.time.config.edge x) s fun t => t.time.hp = k ∧
      (ClockInv s → Recovered .hallPulse (s.edgeOffset (s.stampOf x).mt) (s.stampOf x).mt { s.time with hp := k } s t) := by
  have hu : s.time.onHealth .hallPulse (·.arrive true s.time.config.q 75000000 (s.stampOf x)) =
      { s.time with hp := k } := by rw [← hk]; rfl
  refine ⟨_, execPulseEdge_accepted hg, ?_, fun hi => ?_⟩
  · rw [hb]
    have ha := hu ▸ arrival_spares .hallPulse true 75000000 (s.stampOf x) s
    split
    · exact (sample_spares .hallPulse _ _ _ _).hp.trans ha.hp
    · exact ha.hp
  · rw [hb]
    have hm := arrival_moved .hallPulse true 75000000 (s.stampOf x) ((clockInv_iff s).1 hi).2.1
    have hrec : (s.time.health .hallPulse).recovers true s.time.config.q = true := Health.recovers_risen hf hq
    rw [hu, hrec] at hm
    refine recovered_of_moved hm rfl hn (fun he => ?_) (fun he => if_neg he)
    refine ⟨_, (if_pos he).trans (samplePulse_eq ?_ ?_), hm.onTime fun t => { t with armed := none }⟩
    · rw [hm.time, TimeUnit.reevaluated_armed]
    · rw [hm.time, TimeUnit.reevaluated_config]

theorem execPulseEdge_glitch {x : Option Stamp} {s : State}
    (hg : ∃ y, s.time.hp.lastLocal = some y ∧ (s.stampOf x).localTime < y + 12500000) :
    Completes (.pulseEdge s.time.config.edge x) s fun t => SameBut [.time] s t ∧
      t.time = { s.time with
        hp := { s.time.hp with qual := if s.time.hp.state = .faulted then 0 else s.time.hp.qual } } := by
  have he : execPulseEdge s.time.config.edge s x =
      .next (s.onTime (·.onHealth .hallPulse fun h => if h.state = .faulted then { h with qual := 0 } else h)) := by
    unfold execPulseEdge
    dsimp only
    rw [if_neg (fun h => h rfl), if_pos ((TimeUnit.glitch_iff _ _).2 hg)]
  refine ⟨_, he, State.onTime_frame _ s, ?_⟩
  by_cases hf : s.time.hp.state = .faulted <;> simp [TimeUnit.onHealth, hf]

theorem execPulseEdge_otherEdge {e : PulseEdge} {s : State} (h : e ≠ s.time.config.edge) (x : Option Stamp) :
    Completes (.pulseEdge e x) s fun t => t = s := by
  refine ⟨s, ?_, rfl⟩
  change execPulseEdge e s x = _
  unfold execPulseEdge
  exact if_pos h

/-- Settles O10: the branches of an edge, by its polarity, its gap from the last accepted edge, the health of HALL-PULSE and
whether the edge is on time. -/
theorem pulseEdgeUpdatesItsHealthRecord : Obligations.PulseEdgeUpdatesItsHealthRecord := by
  unfold Obligations.PulseEdgeUpdatesItsHealthRecord
  intro edge x s
  rw [State.stampedAt_eq]
  refine ⟨fun h => execPulseEdge_otherEdge h x, fun h hg => h ▸ execPulseEdge_glitch hg, fun h hg hn hs => ?_⟩
  subst h
  refine ⟨fun hh => ?_, fun hf hl => ?_, fun hf hb hq => ?_, fun hf hb hq => ?_⟩
  · exact execPulseEdge_unselected hg hn hs (Health.recovers_healthy hh _) (Health.arrive_healthy hh _)
  · refine execPulseEdge_unselected hg hn hs ?_ ?_ <;> rw [TimeUnit.edgeOnTime_late hl]
    · exact Health.recovers_late
    · exact Health.arrive_late hf
  · refine execPulseEdge_unselected hg hn hs (Health.recovers_counted hq _) ?_
    rw [(TimeUnit.edgeOnTime_iff hg).2 hb]
    exact Health.arrive_counted hf hq
  · exact execPulseEdge_risen hg hn hf ((TimeUnit.edgeOnTime_iff hg).2 hb) hq (Health.arrive_risen hf hq)

/-- Settles O11: an edge of the selected HALL-PULSE leaves selection as it is, and is a sample. -/
theorem selectedPulseEdgeDisciplinesTime : Obligations.SelectedPulseEdgeDisciplinesTime := by
  unfold Obligations.SelectedPulseEdgeDisciplinesTime
  intro x s mt here h hh hg hsel hs hrun hl
  simp only [mt, here, h, State.stampedAt_eq] at *
  have ha := arrival_steady (src := .hallPulse) (b := s.time.edgeOnTime (s.stampOf x).localTime) (d := 75000000)
    (x := s.stampOf x) (Health.recovers_healthy hh _) hs
  refine ⟨_, execPulseEdge_accepted hg, ?_⟩
  rw [ha, if_pos (by simpa using hsel), samplePulse_eq (s := s) (by simp [TimeUnit.onHealth]) (by simp [TimeUnit.onHealth]),
    ← Health.arrive_healthy (q := s.time.config.q) hh (s.time.edgeOnTime (s.stampOf x).localTime)]
  have hm := (onTime_moved (·.onHealth .hallPulse (·.arrive (s.time.edgeOnTime (s.stampOf x).localTime) s.time.config.q
    75000000 (s.stampOf x))) s).onTime fun t => { t with armed := none }
  exact sample_sampled hm rfl hsel hrun hl

end Sys2Proof.Machine
end

section
/-! SYNCs (R3, R11): the statements. -/

namespace Sys2Proof.Machine

/-! ### The way of a SYNC to the Time Unit (R170 to R172) -/

theorem exec_sync {port code station seq : Byte} {sec : BitVec 48} {ns : BitVec 32} {x : Option Stamp} {s : State}
    (hup : s.fabric.up = true) (hp : port.toNat = s.time.config.gmPort.1) :
    exec (.sync port code station seq sec ns x) s = .next (takeSync seq sec ns (s.stampOf x) s) := by
  have hn : number 24 port = some s.time.config.gmPort := number_eq_some.2 hp
  change execSync port code station seq sec ns s x = _
  simp [execSync, takeInbound, hup, readCellIn, hn, handOn, takeCell]

theorem takeSync_range {seq : Byte} {sec : BitVec 48} {ns : BitVec 32} (h : 999999999 < ns.toNat) (x : Stamp)
    (s : State) : takeSync seq sec ns x s = postAll (noticeMessageError s.time.config.gmPort.1 .range) s := if_pos h

theorem takeSync_repeated {seq : Byte} {sec : BitVec 48} {ns : BitVec 32} {s : State} (h : ns.toNat ≤ 999999999)
    (hq : s.time.lastSeq = some seq) (x : Stamp) :
    takeSync seq sec ns x s = postAll (noticeMessageError s.time.config.gmPort.1 .repeated) s := by
  rw [takeSync, if_neg (Nat.not_lt.2 h), if_pos hq]

/-- The state in which an accepted SYNC arrives: its sequence byte is recorded (R3). -/
def State.sequenced (seq : Byte) (s : State) : State := s.onTime fun t => { t with lastSeq := some seq }

theorem takeSync_accepted {seq : Byte} {sec : BitVec 48} {ns : BitVec 32} {x : Stamp} {s : State}
    (h : ns.toNat ≤ 999999999) (hq : s.time.lastSeq ≠ some seq) :
    takeSync seq sec ns x s =
      let r := arrival .grandmaster (s.time.syncOnTime seq x.localTime) (3 * (s.time.config.syncMs * 25000)) x
        (s.sequenced seq)
      if r.time.selected = .grandmaster then
        sample .grandmaster (s.syncOffset sec ns x.mt) s.time.config.syncMs x.mt r
      else r := by
  rw [takeSync, if_neg (Nat.not_lt.2 h), if_neg hq, TimeConfig.syncLocal_eq]
  rfl

theorem TimeUnit.syncOnTime_iff {seq : Byte} {here : Nat} {u : TimeUnit} :
    u.syncOnTime seq here = true ↔ ∃ x q, u.gm.lastLocal = some x ∧
      2 * (here - x) ≤ 3 * (u.config.syncMs * 25000) ∧ u.lastSeq = some q ∧ seq = q + 1 := by
  unfold TimeUnit.syncOnTime
  rw [TimeConfig.syncLocal_eq]
  cases u.gm.lastLocal <;> cases u.lastSeq <;> simp

/-! ### Its effects -/

/-- An accepted SYNC that neither selects GRANDMASTER nor finds it selected changes the record of the source alone. -/
theorem takeSync_unselected {seq : Byte} {sec : BitVec 48} {ns : BitVec 32} {x : Stamp} {s : State} {k : Health}
    (h : ns.toNat ≤ 999999999) (hq : s.time.lastSeq ≠ some seq) (hn : s.time.selected ≠ .grandmaster)
    (hs : s.time.selected = s.time.choice)
    (hr : s.time.gm.recovers (s.time.syncOnTime seq x.localTime) s.time.config.q = false)
    (hk : s.time.gm.arrive (s.time.syncOnTime seq x.localTime) s.time.config.q (3 * (s.time.config.syncMs * 25000)) x =
      k) :
    SameBut [.time] s (takeSync seq sec ns x s) ∧
      (takeSync seq sec ns x s).time = { s.time with gm := k, lastSeq := some seq } := by
  have ha := arrival_steady (src := .grandmaster) (b := s.time.syncOnTime seq x.localTime)
    (d := 3 * (s.time.config.syncMs * 25000)) (x := x) (s := s.sequenced seq) hr hs
  rw [takeSync_accepted h hq, ha]
  dsimp only
  rw [if_neg (by simpa [State.sequenced] using hn), ← hk]
  exact ⟨(State.onTime_frame _ s).trans (State.onTime_frame _ _), rfl⟩

/-- A SYNC that makes GRANDMASTER HEALTHY. -/
theorem takeSync_risen {seq : Byte} {sec : BitVec 48} {ns : BitVec 32} {x : Stamp} {s : State} {k : Health}
    (h : ns.toNat ≤ 999999999) (hq : s.time.lastSeq ≠ some seq) (hn : s.time.selected ≠ .grandmaster)
    (hf : s.time.gm.state = .faulted) (hb : s.time.syncOnTime seq x.localTime = true)
    (hc : s.time.config.q ≤ s.time.gm.qual + 1)
    (hk : s.time.gm.arrive true s.time.config.q (3 * (s.time.config.syncMs * 25000)) x = k) :
    let t := takeSync seq sec ns x s
    t.time.lastSeq = some seq ∧ t.time.gm = k ∧
      (ClockInv s →
        Recovered .grandmaster (s.syncOffset sec ns x.mt) x.mt { s.time with gm := k, lastSeq := some seq } s t) := by
  have hu : (s.sequenced seq).time.onHealth .grandmaster
      (·.arrive true (s.sequenced seq).time.config.q (3 * (s.time.config.syncMs * 25000)) x) =
      { s.time with gm := k, lastSeq := some seq } := by rw [← hk]; rfl
  rw [takeSync_accepted h hq, hb]
  intro t
  have hspare : TimeUnit.Spares { s.time with gm := k, lastSeq := some seq } t.time := by
    have ha := arrival_spares .grandmaster true (3 * (s.time.config.syncMs * 25000)) x (s.sequenced seq)
    simp only [t, ← hu]
    split
    · exact ha.trans (sample_spares .grandmaster _ _ _ _)
    · exact ha
  refine ⟨hspare.lastSeq, hspare.gm, fun hi => ?_⟩
  have hm := arrival_moved .grandmaster true (3 * (s.time.config.syncMs * 25000)) x (s := s.sequenced seq)
    ((clockInv_iff s).1 hi).2.1
  have hrec : ((s.sequenced seq).time.health .grandmaster).recovers true (s.sequenced seq).time.config.q = true :=
    Health.recovers_risen hf hc
  rw [hrec] at hm
  have hm' := (onTime_moved (fun t => { t with lastSeq := some seq }) s).trans (hu ▸ hm) rfl
  refine recovered_of_moved hm' rfl hn (fun he => ⟨_, if_pos he, hm'⟩) (fun he => if_neg he)

/-- Settles O12: the branches of a SYNC of the grandmaster port, by its nanoseconds, its sequence byte, the health of
GRANDMASTER and whether the SYNC is on time. -/
theorem syncUpdatesItsHealthRecord : Obligations.SyncUpdatesItsHealthRecord := by
  unfold Obligations.SyncUpdatesItsHealthRecord
  intro port code station seq sec ns x s
  rw [State.stampedAt_eq]
  intro c h mt here stamped t3 hup hp
  have hx : exec c s = .next (takeSync seq sec ns (s.stampOf x) s) := exec_sync hup hp
  refine ⟨fun hr => ⟨_, hx, ?_⟩, fun hr hq => ⟨_, hx, ?_⟩, fun hr hq hn hs => ?_⟩
  · rw [takeSync_range hr, hp]
    exact ⟨postAll_frame _ s, postAll_hears _ s⟩
  · rw [takeSync_repeated hr hq, hp]
    exact ⟨postAll_frame _ s, postAll_hears _ s⟩
  refine ⟨fun hh => ⟨_, hx, ?_⟩, fun hf hb => ⟨_, hx, ?_⟩, fun hf hb hc => ⟨_, hx, ?_⟩, fun hf hb hc => ⟨_, hx, ?_⟩⟩
  · exact takeSync_unselected hr hq hn hs (Health.recovers_healthy hh _) (Health.arrive_healthy hh _)
  · have hb' : s.time.syncOnTime seq here = false := by
      rw [← Bool.not_eq_true, TimeUnit.syncOnTime_iff]
      exact hb
    exact takeSync_unselected hr hq hn hs (hb' ▸ Health.recovers_late) (hb' ▸ Health.arrive_late hf)
  · have hb' : s.time.syncOnTime seq here = true := TimeUnit.syncOnTime_iff.2 hb
    exact takeSync_unselected hr hq hn hs (Health.recovers_counted hc _) (hb' ▸ Health.arrive_counted hf hc)
  · exact takeSync_risen hr hq hn hf (TimeUnit.syncOnTime_iff.2 hb) hc (Health.arrive_risen hf hc)

/-- Settles O13: a SYNC of the selected GRANDMASTER leaves selection as it is, and is a sample. -/
theorem selectedSyncDisciplinesOrSteps : Obligations.SelectedSyncDisciplinesOrSteps := by
  unfold Obligations.SelectedSyncDisciplinesOrSteps
  intro port code station seq sec ns began s
  rw [State.stampedAt_eq]
  intro x hup hp hr hq hh hsel hs hrun hl
  have ha := arrival_steady (src := .grandmaster) (b := s.time.syncOnTime seq x.localTime)
    (d := 3 * (s.time.config.syncMs * 25000)) (x := x) (s := s.sequenced seq) (Health.recovers_healthy hh _) hs
  refine ⟨_, exec_sync hup hp, ?_⟩
  rw [takeSync_accepted hr hq, ha]
  dsimp only
  rw [if_pos (by simpa [State.sequenced] using hsel)]
  have hu : syncTaken seq x s.time = (s.sequenced seq).time.onHealth .grandmaster
      (·.arrive (s.time.syncOnTime seq x.localTime) s.time.config.q (3 * (s.time.config.syncMs * 25000)) x) := by
    rw [syncTaken, ← Health.arrive_healthy (q := s.time.config.q) hh (s.time.syncOnTime seq x.localTime)]
    rfl
  have hm := (onTime_moved (fun t => { t with lastSeq := some seq }) s).onTime (·.onHealth .grandmaster
    (·.arrive (s.time.syncOnTime seq x.localTime) s.time.config.q (3 * (s.time.config.syncMs * 25000)) x))
  exact sample_sampled (u := syncTaken seq x s.time) (hu.symm ▸ hm) rfl hsel hrun hl

end Sys2Proof.Machine
end

section
/-! The advance of MT, and the small time requests. -/

namespace Sys2Proof.Machine

/-! ### The advance of MT (R1, R2) -/

theorem maxUnits_eq : maxTime * 65536 + 65535 = topUnits := by decide

theorem machineTimeAt_units {t : Int} (h : 0 ≤ t) (f : Nat) : (machineTimeAt t f).units = t * 65536 + f := by
  rw [MachineTime.units, machineTimeAt_toTime h]
  rfl

theorem machineTimeOf_units {u : Int} (h : 0 ≤ u) : (machineTimeOf u).units = min u topUnits := by
  have htop : 0 ≤ topUnits := by decide
  unfold machineTimeOf
  rw [machineTimeAt_units (Int.natCast_nonneg _), maxUnits_eq]
  have hm : 0 ≤ min u topUnits := le_min h htop
  omega

theorem MachineTime.units_nonneg (m : MachineTime) : 0 ≤ m.units := by
  unfold MachineTime.units MachineTime.toTime
  omega

/-- F is the floor of r × 65,536 / 1,000,000 (R2). -/
theorem rateF_floor (r : Int) : rateF r * 1000000 ≤ r * 65536 ∧ r * 65536 < (rateF r + 1) * 1000000 := by
  unfold rateF
  omega

/-- Settles O9: with r in its range F lies between -13,108 and 13,107, so the sum is no time below 0. -/
theorem mtAdvanceAddsTheCorrectedMicrosecond : Obligations.MtAdvanceAddsTheCorrectedMicrosecond := by
  unfold Obligations.MtAdvanceAddsTheCorrectedMicrosecond
  intro s _ hr
  obtain ⟨hlo, hhi⟩ := rateF_floor s.time.rate
  obtain ⟨-, -, hr1, hr2⟩ := hr
  have hf1 : -13108 ≤ rateF s.time.rate := by omega
  have hf2 : rateF s.time.rate ≤ 13107 := by omega
  refine ⟨rateF s.time.rate, hlo, hhi, hf1, hf2, _, rfl, State.onTime_frame _ s, machineTimeOf_inRange _, rfl, ?_⟩
  have hu := s.time.mt.units_nonneg
  exact machineTimeOf_units (by omega)

/-! ### TIME-PULSE-SET and TIME-STEP-LOCK (R22, R23) -/

theorem ownTimePulseSet_set {op : Byte} (h : op = 0 ∨ op = 1) (x : BitVec 48) (s : State) :
    ownTimePulseSet op x s = done [] (s.onTime fun t => { t with armed := if op = 1 then some x else none }) := by
  obtain rfl | rfl := h <;> rfl

theorem ownTimePulseSet_refused {op : Byte} (h0 : op ≠ 0) (h1 : op ≠ 1) (x : BitVec 48) (s : State) :
    ownTimePulseSet op x s = refuse .refusedRange s := by
  rw [ownTimePulseSet, if_neg h1, if_neg h0]

theorem ownTimeStepLock_set {v : Byte} (h : v = 0 ∨ v = 1) (s : State) :
    ownTimeStepLock v s = done [] (s.onTime fun t => { t with stepLock := decide (v = 1) }) := by
  obtain rfl | rfl := h <;> rfl

theorem ownTimeStepLock_refused {v : Byte} (h0 : v ≠ 0) (h1 : v ≠ 1) (s : State) :
    ownTimeStepLock v s = refuse .refusedRange s := by
  rw [ownTimeStepLock, yesNo, if_neg h1, if_neg h0]

/-- A request whose owner changes the Time Unit by `f` and posts nothing. -/
theorem request_onTime {c : Instr} {l : Link} {tag : Byte} {r : Request} {own : State → Answer} {s : State}
    {body : List Byte} {f : TimeUnit → TimeUnit} (hx : exec c s = .next (request l tag r own s)) (h : Taken l r s)
    (hp : placedAtOnce r = false) (ho : own (held l tag r s) = done body ((held l tag r s).onTime f)) :
    Completes c s fun t =>
      Replied l tag r .done body [] s t ∧ SameBut [.time, .link l] s t ∧ t.time = f s.time := by
  refine ⟨_, hx, request_replied h hp (by rw [ho]; rfl) (by rw [ho]; rfl) ?_, ?_, ?_⟩
  · rw [ho]
    exact (onTime_moved f _).heard_at (held_now ..)
  · refine request_sameBut h hp (by simp) ?_
    rw [ho]
    exact (State.onTime_frame f _).mono (by simp)
  · rw [request_time h hp, ho]
    simp [done]

theorem armed_samplePulse (mt : Int) (s : State) : (samplePulse mt s).time.armed = none :=
  (sample_spares .hallPulse _ 1000 mt (s.onTime fun t => { t with armed := none })).armed

/-- Settles O16: each request is its owner's one write of the Time Unit, or a refusal; a sample leaves no second armed. -/
theorem pulseSetAndStepLockSetTheirFields : Obligations.PulseSetAndStepLockSetTheirFields := by
  unfold Obligations.PulseSetAndStepLockSetTheirFields
  refine ⟨fun l tag s hw hl => ?_, fun s => ⟨fun mt => armed_samplePulse mt s, ?_, _, rfl, rfl⟩⟩
  · subst hl
    refine ⟨fun op x h => ?_, fun op x h0 h1 => ?_, fun v h => ?_, fun v h0 h1 => ?_⟩
    · exact request_onTime rfl ⟨hw, rfl⟩ rfl (ownTimePulseSet_set h x _)
    · exact request_onlyReplies rfl ⟨hw, rfl⟩ rfl (ownTimePulseSet_refused h0 h1 x _)
    · exact request_onTime rfl ⟨hw, rfl⟩ rfl (ownTimeStepLock_set h _)
    · exact request_onlyReplies rfl ⟨hw, rfl⟩ rfl (ownTimeStepLock_refused h0 h1 _)
  · exact ⟨_, rfl, congrArg _ (warm_frame noticeWarmPin s).time⟩

/-! ### TIME-FAULT-CLEAR (R24) -/

theorem Health.clearSticky_eq (named : Bool) (h : Health) :
    h.clearSticky named = { h with sticky := h.sticky && !(named && h.state == .healthy) } := by
  obtain ⟨st, _, _, _, _, _⟩ := h
  unfold Health.clearSticky
  cases named <;> cases st <;> simp

theorem ownTimeFaultClear_set {v : Byte} (h1 : 1 ≤ v.toNat) (h7 : v.toNat ≤ 7) (s : State) :
    let gm := s.time.gm.sticky && !(v.getLsbD 0 && s.time.gm.state == .healthy)
    let hp := s.time.hp.sticky && !(v.getLsbD 1 && s.time.hp.state == .healthy)
    ownTimeFaultClear v s = done [if gm then 1 else 0, if hp then 1 else 0, 0]
      (s.onTime fun t => { t with
        gm := t.gm.clearSticky (v.getLsbD 0), hp := t.hp.clearSticky (v.getLsbD 1) }) := by
  intro gm hp
  simp only [ownTimeFaultClear, if_pos (And.intro h1 h7), State.onTime_time, Health.clearSticky_eq]
  rfl

theorem ownTimeFaultClear_refused {v : Byte} (h : v.toNat = 0 ∨ 7 < v.toNat) (s : State) :
    ownTimeFaultClear v s = refuse .refusedRange s := if_neg (by omega)

/-- Settles O17, by the sticky flag of each source after `Health.clearSticky`. -/
theorem faultClearClearsHealthySources : Obligations.FaultClearClearsHealthySources := by
  unfold Obligations.FaultClearClearsHealthySources
  refine fun l tag v s ht => ⟨fun h1 h7 => ?_, fun h => request_onlyReplies rfl ht rfl (ownTimeFaultClear_refused h _)⟩
  have ho := ownTimeFaultClear_set h1 h7 (held l tag (.timeFaultClear v) s)
  simp only [held_time] at ho
  obtain ⟨t, hx, hr, hb, htime⟩ := request_onTime (c := .timeFaultClear l tag v) rfl ht rfl ho
  refine ⟨t, hx, hr, hb, ?_⟩
  rw [htime, Health.clearSticky_eq, Health.clearSticky_eq]

end Sys2Proof.Machine
end

section
/-! The state after a power-on reset. -/

namespace Sys2Proof.Machine

/-! ### Its records -/

@[simp] theorem reset_stations (i : Fin 32) : State.reset.stations.get i = .powerOn := Tbl.get_fill _ i

@[simp] theorem reset_streams (i : Fin 128) : State.reset.streams.get i = .powerOn := Tbl.get_fill _ i

@[simp] theorem reset_ports (p : Fin 24) : State.reset.ports.get p = .powerOn := Tbl.get_fill _ p

@[simp] theorem reset_outputs (o : Fin 8) : State.reset.outputs.get o = .powerOn := Tbl.get_fill _ o

@[simp] theorem reset_slots (k : Fin 4) : State.reset.grants.slots.get k = .powerOn := Tbl.get_fill _ k

@[simp] theorem reset_store : State.reset.store = [] := rfl

/-! ### Its properties -/

theorem reset_linkInv : LinkInv .reset := by
  refine ⟨Nat.zero_le _, fun _ => ⟨rfl, rfl, rfl, fun p => ?_⟩⟩
  rw [reset_ports]
  exact ⟨rfl, rfl, rfl, rfl⟩

theorem reset_handleInv : HandleInv .reset := by
  refine ⟨Nat.zero_le _, List.nodup_nil, fun p => ?_, ?_, fun p e _ d hd => ?_⟩
  · rw [reset_ports]
    exact Nat.zero_le _
  · have h : State.reset.ports.xs.flatMap Port.handles = [] := by
      refine List.flatMap_eq_nil_iff.2 fun x hx => ?_
      obtain ⟨p, rfl⟩ := (Tbl.mem_xs _ x).1 hx
      rw [reset_ports]
      rfl
    rw [h]
    exact List.nodup_nil
  · rw [reset_store] at hd
    cases hd

theorem reset_streamInv : StreamInv .reset := by
  intro i
  rw [reset_streams]
  exact ⟨fun _ => rfl, fun h => absurd h (by decide), fun h => absurd rfl h, Nat.zero_le _⟩

theorem reset_creditInv : CreditInv .reset := by
  intro i
  rw [reset_streams]
  exact ⟨Nat.le_refl _, Nat.zero_le _, Nat.zero_le _, Nat.zero_le _, Nat.zero_le _, Nat.zero_le _, fun _ => Nat.zero_le _⟩

theorem reset_trackInv : TrackInv .reset :=
  ⟨Nat.zero_le _, List.Pairwise.nil, fun r hr => by cases hr⟩

theorem reset_holdInv : HoldInv .reset := by
  refine ⟨rfl, fun o => ?_, fun o o' h => ?_⟩
  · rw [reset_outputs]
    rfl
  · rw [reset_outputs] at h
    cases h

theorem reset_stationInv : StationInv .reset := by
  intro i j p h
  rw [State.stationPort, reset_stations] at h
  cases h

theorem reset_grantInv : GrantInv .reset := by
  refine ⟨fun k k' p h => ?_, fun k => ?_⟩
  · rw [reset_slots] at h
    cases h
  · rw [reset_slots]
    exact ⟨by decide, fun _ => rfl, fun h => absurd rfl h, fun a h => by cases h⟩

/-- Settles O60, property by property: after a reset every table is empty or at rest and no deadline is held. -/
theorem resetHasTheKeptProperties : Obligations.ResetHasTheKeptProperties :=
  ⟨TimeUnit.powerOn_mtInRange, TimeUnit.powerOn_rateInRange, (clockInv_iff _).2 (TimeUnit.powerOn_sound 0), reset_linkInv,
    reset_handleInv, reset_streamInv, reset_creditInv, reset_trackInv, reset_holdInv, reset_stationInv, reset_grantInv⟩

end Sys2Proof.Machine
end

section
/-! The reports that name no record. -/

namespace Sys2Proof.Machine

theorem ownTimeReport_refused {a : Byte} (h : 2 ≤ a.toNat) (s : State) :
    ownTimeReport a s = refuse .refusedRange s := by
  have h0 : a ≠ 0 := by bv_omega
  have h1 : a ≠ 1 := by bv_omega
  rw [ownTimeReport, if_neg h0, if_neg h1]

theorem ownStationReport_refused {a b : Byte} (h : ¬ (1 ≤ b.toNat ∧ b.toNat ≤ 8 ∧ a.toNat + b.toNat ≤ 32))
    (l : Link) (s : State) : ownStationReport l a b s = refuse .refusedRange s := if_pos (by omega)

theorem ownStreamReport_refused {a b : Byte} (h : a = 0 ∧ 128 ≤ b.toNat ∨ a = 1 ∧ 32 ≤ b.toNat ∨ 3 ≤ a.toNat)
    (l : Link) (s : State) : ownStreamReport l a b s = refuse .refusedRange s := by
  obtain ⟨rfl, hb⟩ | ⟨rfl, hb⟩ | ha := h
  · show reportStream l b s = _
    rw [reportStream, number_eq_none.2 hb]
  · show reportStation l b s = _
    rw [reportStation, number_eq_none.2 hb]
  · have h0 : a ≠ 0 := by bv_omega
    have h1 : a ≠ 1 := by bv_omega
    have h2 : a ≠ 2 := by bv_omega
    rw [ownStreamReport, if_neg h0, if_neg h1, if_neg h2]

theorem ownQueueReport_refused {a : Byte} (h : 8 ≤ a.toNat) (s : State) :
    ownQueueReport a s = refuse .refusedRange s := by rw [ownQueueReport, number_eq_none.2 h]

theorem ownOutputReport_refused {a : Byte} (h : 8 ≤ a.toNat) (s : State) :
    ownOutputReport a s = refuse .refusedRange s := by rw [ownOutputReport, number_eq_none.2 h]

theorem ownPortReport_refused {a : Byte} (h : 24 ≤ a.toNat) (s : State) :
    ownPortReport a s = refuse .refusedRange s := by rw [ownPortReport, number_eq_none.2 h]

/-- Settles O8, by the refusal of each report's own reading of its fields. -/
theorem reportsOfNoRecordAreRefused : Obligations.ReportsOfNoRecordAreRefused := by
  unfold Obligations.ReportsOfNoRecordAreRefused
  intro l tag a b s hw
  refine ⟨fun h => ?_, fun h => ?_, fun h => ?_, fun h => ⟨?_, ?_⟩, fun h => ?_⟩
  · exact request_onlyReplies rfl ⟨hw, rfl⟩ rfl (ownTimeReport_refused h _)
  · exact request_onlyReplies rfl ⟨hw, rfl⟩ rfl (ownStationReport_refused h l _)
  · exact request_onlyReplies rfl ⟨hw, rfl⟩ rfl (ownStreamReport_refused h l _)
  · exact request_onlyReplies rfl ⟨hw, rfl⟩ rfl (ownQueueReport_refused h _)
  · exact request_onlyReplies rfl ⟨hw, rfl⟩ rfl (ownOutputReport_refused h _)
  · exact request_onlyReplies rfl ⟨hw, rfl⟩ rfl (ownPortReport_refused h _)

end Sys2Proof.Machine
end

section
/-! The fields of reports: the layouts of chapter 11 against the machine's own bytes. -/

namespace Sys2Proof.Layout

open Sys2Proof.Machine

/-! ### Fields (R193, R194) -/

theorem num_eq (w v : Nat) : num w v = be w v := by
  induction w with
  | zero => rfl
  | succ w ih =>
    rw [be, ← ih, num, num, List.range_succ_eq_map, List.map_cons, List.map_map]
    congr 1
    refine List.map_congr_left fun k _ => ?_
    rw [Function.comp_apply, show w + 1 - 1 - k.succ = w - 1 - k by omega]

theorem num_field {n : Nat} (w : Nat) (v : BitVec n) : num w v.toNat = field w v := num_eq w _

theorem int_eq (w : Nat) (v : Int) : int w v = beSigned w v := num_eq w _

theorem orBlank_eq {α : Type} (w : Nat) (f : α → List Byte) (x : Option α) : orBlank w f x = orFF w (x.map f) := by
  cases x <;> rfl

theorem present_eq {α : Type} (w : Nat) (f : α → List Byte) (x : Option α) : present w f x = maybe w (x.map f) := by
  cases x <;> rfl

theorem bit_eq (b : Bool) : bit b = flag b := rfl

theorem time_eq (t : Int) : time t = timeBytes t := by
  simp only [time, timeBytes, num_eq]

theorem timeOr_eq (t : Option Int) : timeOr t = timeOrFF t := by
  rw [timeOr, orBlank_eq, funext time_eq]
  rfl

theorem numberOr_eq {n : Nat} (x : Option (Fin n)) : numberOr x = orFF 1 (x.map fun i => be 1 i.1) := by
  rw [numberOr, orBlank_eq]
  simp only [num_eq]

theorem be_one (v : Nat) : be 1 v = [BitVec.ofNat 8 v] := by simp [be]

theorem listed_eq (xs : List (List Byte)) : listed xs = counted xs := by
  rw [listed, num_eq, be_one]
  rfl

/-! ### Codes (section 11.2) -/

theorem source_eq (x : Source) : source x = [x.code] := by cases x <;> rfl

theorem link_eq (l : Link) : link l = [linkCode l] := by cases l <;> rfl

theorem place_edge (x : PulseEdge) : place [.rising, .falling] x = [edgeCode x] := by cases x <;> rfl

theorem place_health (x : HealthState) : place [.healthy, .faulted] x = [x.code] := by cases x <;> rfl

theorem place_clock (x : ClockState) :
    place [.freeRun, .acquiring, .locked, .holdover, .degraded] x = [x.code] := by cases x <;> rfl

theorem place_timed (x : TimedSource) : place [.grandmaster, .hallPulse] x = [(sourceOfTimed x).code] := by
  cases x <;> rfl

theorem place_role (x : Role) : place [.filler, .camera, .other] x = [x.code] := by cases x <;> rfl

theorem place_stationState (x : StationState) : place [.absent, .held, .run, .service] x = [x.code] := by
  cases x <;> rfl

theorem streamState_eq (x : Stream) : streamState x = [x.state.code] := by
  unfold streamState
  cases x.state <;> rfl

theorem place_class (x : StreamClass) : place [.time, .cyclic, .bulk, .service] x = [x.code] := by cases x <;> rfl

theorem place_closeReason (x : CloseReason) : place [.closed, .forced, .grantEnded] x = [x.code] := by
  cases x <;> rfl

theorem place_fillResult (x : FillResult) : place [.ok, .short, .over, .noContainer] x = [x.code] := by
  cases x <;> rfl

theorem place_disposition (x : Disposition) : place dispositions x = be 1 x.index.1 := by cases x <;> rfl

theorem entryState_eq (x : EntryState) : entryState x = [x.code] := by cases x <;> rfl

theorem place_mode (x : OutputMode) : place [.off, .feed, .trigger, .gate] x = [x.code] := by cases x <;> rfl

theorem place_activeLevel (x : ActiveLevel) : place [.high, .low] x = [x.code] := by cases x <;> rfl

theorem place_period (x : FeedPeriod) : place [.s1, .ms500, .ms100, .ms50, .ms10, .ms5, .ms1] x = [x.code] := by
  cases x <;> rfl

theorem place_outState (x : OutState) : place [.idle, .active, .stopped, .waitingTime, .heldActive] x = [x.code] := by
  cases x <;> rfl

theorem place_pin (b : Bool) : place [true, false] b = pinCode b := by cases b <;> rfl

theorem level_eq (x : GrantLevel) : level x = [x.code] := by cases x <;> rfl

theorem place_grantState (x : GrantState) : place [.free, .asked, .active] x = [x.code] := by cases x <;> rfl

theorem place_endReason (x : EndReason) :
    place [.declined, .timeout, .expired, .released, .revoked, .reset] x = [x.code] := by cases x <;> rfl

/-! ### Tables of counters -/

theorem xs_eq_map_get {α : Type} {n : Nat} (t : Tbl α n) : t.xs = (List.finRange n).map t.get := by
  refine List.ext_getElem (by simp [t.len]) fun i h1 h2 => ?_
  simp [Tbl.get]

theorem counters_eq {n : Nat} (t : Tbl Nat n) : counters t = (List.finRange n).flatMap fun i => be 4 (t.get i) := by
  rw [counters, xs_eq_map_get, List.flatMap_map]

theorem discards_eq (t : Tbl Nat 13) : discards t = counters t := by
  have hr : List.finRange 13 = reasons.map DiscardReason.index := by decide
  rw [counters_eq, hr, List.flatMap_map, discards]
  simp only [num_eq]

theorem dispositionCounts_eq (t : Tbl Nat 7) :
    (dispositions.flatMap fun d => num 4 (t.get d.index)) = counters t := by
  have hr : List.finRange 7 = dispositions.map Disposition.index := by decide
  rw [counters_eq, hr, List.flatMap_map]
  simp only [num_eq]

/-! ### The reports -/

theorem configPage_eq (c : TimeConfig) : configPage c = Machine.configPage c := by
  simp only [configPage, Machine.configPage, num_eq, source_eq, place_edge, List.append_assoc, List.cons_append,
    List.nil_append]

theorem health_eq (h : Health) : health h = healthBytes h := by
  simp only [health, healthBytes, num_eq, place_health, timeOr_eq, bit_eq]

theorem statePage_eq (t : TimeUnit) : statePage t = Machine.statePage t := by
  simp only [statePage, Machine.statePage, num_eq, int_eq, source_eq, place_clock, place_timed, timeOr_eq, time_eq,
    bit_eq, present_eq, health_eq, List.append_assoc, List.cons_append, List.nil_append]
  rfl

theorem station_eq (x : Station) : station x = stationEntry x := by
  simp only [station, stationEntry, num_eq, orBlank_eq, place_role, place_stationState, timeOr_eq, bit_eq]
  cases x.conf with
  | none => rfl
  | some c => by_cases h : c.role = .filler <;> simp [h, orFF, blank, absent]

theorem descriptor_eq (d : Descriptor) :
    num 2 d.handle.toNat ++ num 2 d.length ++ Layout.time d.arrival ++ timeOr d.staleAt = descriptorBytes d := by
  rw [descriptorBytes, num_field, num_eq, time_eq, timeOr_eq]

theorem stream_eq (s : State) (i : Fin 128) : stream s i = streamReport s i := by
  have hp : (s.store.filter fun d => d.stream == i && d.state == .pending) = s.pendingList i := rfl
  unfold stream streamReport streamRecordBytes
  rw [hp, funext descriptor_eq]
  generalize s.streams.get i = x
  obtain ⟨_, _, _, _, _, _, _, _, _, _, recovery⟩ := x
  simp only [num_eq, orBlank_eq, numberOr_eq, streamState_eq, funext link_eq, funext place_class,
    funext place_closeReason, bit_eq, discards_eq, listed_eq]
  cases recovery <;> simp only [Recovery.code, be_one] <;> rfl

end Sys2Proof.Layout
end

section
/-! The layouts of the reports of streams, queues, ports and the track, against the machine's own bytes. -/

namespace Sys2Proof.Layout

open Sys2Proof.Machine

/-! ### Streams, queues and ports -/

theorem live_eq (x : Machine.Stream) : (x.state != .free) = x.live := by
  unfold Stream.live
  cases x.state <;> rfl

theorem stationStreams_eq (s : State) (i : Fin 32) : stationStreams s i = Machine.stationStreams s i := by
  simp only [stationStreams, Machine.stationStreams, live_eq, listed_eq, num_eq, streamState_eq]

theorem store_eq (s : State) : store s = storeReport s := by
  simp only [store, storeReport, num_eq, discards_eq]

theorem queue_eq (s : State) (q : Fin 8) : queue s q = queueReport s q := by
  simp only [queue, queueReport, live_eq, num_eq, bit_eq, orBlank_eq]
  rfl

theorem outstanding_eq (e : Outstanding) :
    num 2 e.handle.toNat ++ num 1 e.stream.1 ++ Layout.time e.releaseMt ++ Layout.time e.overdue = outstandingBytes e := by
  rw [outstandingBytes, num_field, num_eq, time_eq, time_eq]

theorem port_eq (s : State) (p : Fin 24) : port s p = portReport s p := by
  unfold port portReport
  rw [funext outstanding_eq]
  simp only [num_eq, bit_eq, numberOr_eq, timeOr_eq, listed_eq, List.flatMap_cons, List.flatMap_nil, List.append_nil,
    List.append_assoc]
  rfl

/-! ### The track -/

theorem departure_eq (d : Departure) :
    num 2 d.seq.toNat ++ num 1 d.filler.1 ++ num 1 d.head ++ Layout.time d.gateTime ++
      place dispositions d.disposition ++ d.entries.xs.flatMap entryState = departureBytes d := by
  rw [departureBytes, num_field, num_eq, num_eq, time_eq, place_disposition, funext entryState_eq,
    List.map_eq_flatMap]

theorem track_eq (s : State) : track s = trackReport s := by
  unfold track trackReport
  dsimp only
  rw [funext departure_eq, dispositionCounts_eq]
  simp only [num_eq, timeOr_eq, bit_eq, present_eq]
  rfl

theorem trackRecord_eq (r : TrackRecord) : trackRecord r = recordBytes r := by
  unfold trackRecord recordBytes
  simp only [entryState_eq, num_eq, place_fillResult, time_eq, bit_eq, present_eq] <;> rfl

theorem trackList_eq (s : State) (start : Nat) :
    trackList s start = be 2 s.track.records.length ++ counted (((s.track.records.drop start).take 8).map recordBytes) := by
  rw [trackList, num_eq, listed_eq, funext trackRecord_eq]

end Sys2Proof.Layout
end

section
/-! The layouts of the reports of outputs, grants, the Fabric Port and the part, against the machine's own bytes. -/

namespace Sys2Proof.Layout

open Sys2Proof.Machine

/-! ### Outputs -/

theorem wanted_iff (x : Output) : (x.feedEnable = true ∨ x.needs ≠ []) ↔ x.wanted = true := by
  unfold Output.wanted
  cases x.needs <;> simp

theorem running_iff (c : ClockState) (x : Output) :
    x.running c = true ↔ x.wanted = true ∧ (c = .locked ∨ c = .holdover ∨ x.runAlways = true) := by
  simp [Output.running, or_assoc]

theorem outputState_eq (c : ClockState) (x : Output) : outputState c x = x.shown c := by
  have hr := running_iff c x
  simp only [outputState, Output.shown, wanted_iff]
  cases x.mode with
  | off => rfl
  | trigger => cases x.pulseEnd <;> rfl
  | gate => rfl
  | feed =>
    cases x.pulseEnd with
    | some t => rfl
    | none => by_cases hw : x.wanted = true <;> simp [hr, hw]

theorem outputHigh_eq (c : ClockState) (x : Output) : outputHigh c x = x.pinHigh c := by
  simp only [outputHigh, outputState_eq, Output.pinHigh, Output.driven]
  cases x.level <;> cases x.shown c <;> decide

theorem width_eq (x : Output) : min x.widthUs (halfPeriodUs x.period) = x.effectiveNs / nsPerUs := by
  have hp : x.period.ns / 2 = halfPeriodUs x.period * nsPerUs := by cases x.period <;> rfl
  rw [Output.effectiveNs, hp, Nat.mul_min_mul_right, Nat.mul_div_cancel _ (by decide)]

theorem output_eq (s : State) (o : Fin 8) : output s o = outputReport s o := by
  unfold output outputReport
  simp only [outputState_eq, outputHigh_eq, width_eq, num_eq, place_mode, place_activeLevel, place_period, place_outState,
    place_pin, bit_eq, timeOr_eq, numberOr_eq]
  rfl

/-! ### Grants -/

theorem slot_eq (g : GrantSlot) : slot g = slotBytes g := by
  simp only [slot, slotBytes, place_grantState, present_eq, orBlank_eq, num_eq, level_eq, timeOr_eq, bit_eq,
    funext place_endReason]
  rfl

theorem covers_iff (g : GrantSlot) (v : GrantLevel) (p : Fin 24) :
    g.covers v p = true ↔
      g.state = .active ∧ ∃ a, g.ask = some a ∧ v.rank ≤ a.level.rank ∧ a.base ≤ p ∧ p ≤ a.limit := by
  unfold GrantSlot.covers GrantAsk.holds
  cases g.state <;> cases g.ask <;> simp

/-- Some ACTIVE slot of level `v` exactly holds port `p` in its window. -/
def heldAt (s : State) (p : Fin 24) (v : GrantLevel) : Bool :=
  (numbers 4).any fun k => (s.grants.slots.get k).state == .active &&
    (s.grants.slots.get k).ask.any fun a => a.level == v && decide (a.base ≤ p ∧ p ≤ a.limit)

theorem coverage_eq_find (s : State) (p : Fin 24) :
    coverage s p = [.intervene, .configure, .observe].find? (heldAt s p) := rfl

theorem State.covered_iff_heldAt (s : State) (v : GrantLevel) (p : Fin 24) :
    s.covered v p = true ↔ ∃ w : GrantLevel, v.rank ≤ w.rank ∧ heldAt s p w = true := by
  simp only [State.covered, heldAt, Tbl.any_xs, any_numbers, covers_iff, Bool.and_eq_true, beq_iff_eq, Option.any_eq_true,
    decide_eq_true_eq]
  constructor
  · rintro ⟨k, ha, a, hk, hv, hb⟩
    exact ⟨a.level, hv, k, ha, a, hk, rfl, hb⟩
  · rintro ⟨_, hv, k, ha, a, hk, rfl, hb⟩
    exact ⟨k, ha, a, hk, hv, hb⟩

theorem exists_level_iff (P : GrantLevel → Prop) : (∃ v, P v) ↔ P .observe ∨ P .configure ∨ P .intervene := by
  constructor
  · rintro ⟨_ | _ | _, h⟩ <;> simp [h]
  · rintro (h | h | h) <;> exact ⟨_, h⟩

/-- The levels being in a total order, the highest one at which the port is covered is the first at which it is held. -/
theorem coverage_eq (s : State) (p : Fin 24) : coverage s p = s.coverage p := by
  simp only [coverage_eq_find, State.coverage, State.covered_iff_heldAt, exists_level_iff, GrantLevel.rank]
  cases hi : heldAt s p .intervene with
  | true => simp [hi]
  | false => cases hc : heldAt s p .configure <;> cases ho : heldAt s p .observe <;> simp [hi, hc, ho]

theorem reserves_eq (g : GrantSlot) (p : Fin 24) :
    (g.state != .free && g.ask.any fun a => a.level == .intervene && decide (a.base ≤ p ∧ p ≤ a.limit)) =
      g.reserves p := by
  unfold GrantSlot.reserves GrantSlot.intervenes GrantAsk.holds
  cases g.state <;> cases g.ask <;> rfl

theorem grants_eq (s : State) : grants s = grantReport s := by
  simp only [grants, grantReport, State.reserver, funext slot_eq, reserves_eq, coverage_eq, num_eq, orBlank_eq, numberOr_eq,
    funext level_eq]
  rfl

/-! ### The Fabric Port and the part -/

theorem fabric_eq (f : Fabric) : fabric f = fabricReport f := by
  simp only [fabric, fabricReport, num_eq, bit_eq, timeOr_eq]

theorem part_eq (l : Link) : part l = identification ++ [Config.revision, linkCode l] ++ capacities.flatMap (be 2) := by
  simp only [part, link_eq, funext (num_eq 2)]
  rfl

end Sys2Proof.Layout
end

section
/-! The reports are answered with their layouts. -/

namespace Sys2Proof.Machine

theorem number_ofNat {n : Nat} (hn : n ≤ 256) (i : Fin n) : number n (BitVec.ofNat 8 i.1) = some i := by
  have hi := i.2
  rw [number_eq_some, BitVec.toNat_ofNat]
  omega

/-! ### What each owner answers -/

theorem ownTimeReport_state (s : State) : ownTimeReport 0 s = done (Layout.statePage s.time) s := by
  rw [Layout.statePage_eq]
  rfl

theorem ownTimeReport_config (s : State) : ownTimeReport 1 s = done (Layout.configPage s.time.config) s := by
  rw [Layout.configPage_eq]
  rfl

/-- A report of what the SC link may be kept from. -/
def withheld (hidden : Bool) (body : List Byte) (s : State) : Answer :=
  ⟨s, if hidden then .refusedRights else .done, if hidden then [] else body⟩

theorem withheld_eq (hidden : Bool) (body : List Byte) (s : State) :
    (if hidden then refuse .refusedRights s else done body s) = withheld hidden body s := by
  cases hidden <;> rfl

theorem ownStreamReport_stream (l : Link) (i : Fin 128) (s : State) :
    ownStreamReport l 0 (BitVec.ofNat 8 i.1) s =
      withheld (s.hidden l (s.streams.get i).egress) (Layout.stream s i) s := by
  show reportStream l _ s = _
  rw [reportStream, number_ofNat (by decide), Layout.stream_eq]
  exact withheld_eq ..

theorem ownStreamReport_station (l : Link) (i : Fin 32) (s : State) :
    ownStreamReport l 1 (BitVec.ofNat 8 i.1) s =
      withheld (s.hidden l (s.stationPort i)) (Layout.stationStreams s i) s := by
  show reportStation l _ s = _
  rw [reportStation, number_ofNat (by decide), Layout.stationStreams_eq]
  exact withheld_eq ..

theorem ownStreamReport_store (l : Link) (num : Byte) (s : State) :
    ownStreamReport l 2 num s = withheld (decide (l = .sc)) (Layout.store s) s := by
  show reportStore l s = _
  rw [reportStore, Layout.store_eq, ← withheld_eq]
  simp only [decide_eq_true_eq]

theorem ownStationReport_range {first count : Byte} (h1 : 1 ≤ count.toNat) (h8 : count.toNat ≤ 8)
    (h : first.toNat + count.toNat ≤ 32) (l : Link) (s : State) :
    ownStationReport l first count s =
      withheld ((stationRange first.toNat count.toNat).any fun i => s.hidden l (s.stationPort i))
        ((stationRange first.toNat count.toNat).flatMap fun i => Layout.station (s.stations.get i)) s := by
  rw [ownStationReport, if_neg (by omega)]
  simp only [Layout.station_eq]
  exact withheld_eq ..

theorem ownQueueReport_queue (q : Fin 8) (s : State) :
    ownQueueReport (BitVec.ofNat 8 q.1) s = done (Layout.queue s q) s := by
  rw [ownQueueReport, number_ofNat (by decide), Layout.queue_eq]

theorem ownPortReport_port (p : Fin 24) (s : State) :
    ownPortReport (BitVec.ofNat 8 p.1) s = done (Layout.port s p) s := by
  rw [ownPortReport, number_ofNat (by decide), Layout.port_eq]

theorem ownOutputReport_output (o : Fin 8) (s : State) :
    ownOutputReport (BitVec.ofNat 8 o.1) s = done (Layout.output s o) s := by
  rw [ownOutputReport, number_ofNat (by decide), Layout.output_eq]

theorem ownTrackReport_keeping (l : Link) (s : State) : ownTrackReport l 0 s = done (Layout.track s) s := by
  rw [Layout.track_eq]
  rfl

theorem ownTrackList_start (start : Byte) (s : State) :
    ownTrackList start s = done (Layout.trackList s start.toNat) s := by
  rw [ownTrackList, Layout.trackList_eq]

theorem ownGrantReport_all (s : State) : ownGrantReport s = done (Layout.grants s) s := by
  rw [ownGrantReport, Layout.grants_eq]

theorem ownFabricReport_all (s : State) : ownFabricReport s = done (Layout.fabric s.fabric) s := by
  rw [ownFabricReport, Layout.fabric_eq]

theorem ownPartInfo_all (l : Link) (s : State) : ownPartInfo l s = done (Layout.part l) s := by
  rw [ownPartInfo, Layout.part_eq]

/-! ### The reports -/

/-- A report that is taken replies with what its owner answers on the state before it, where that answer does not read
the links. -/
theorem report_onlyReplies {c : Instr} {l : Link} {tag : Byte} {r : Request} {own : State → Answer} {s : State}
    {st : State → Status} {body : State → List Byte} (hx : exec c s = .next (request l tag r own s))
    (h : Taken l r s) (hp : placedAtOnce r = false) (ho : ∀ u, own u = ⟨u, st u, body u⟩)
    (hst : st (held l tag r s) = st s) (hb : body (held l tag r s) = body s) :
    OnlyReplies c l tag r (st s) (body s) s :=
  request_onlyReplies hx h hp (by rw [ho, hst, hb])

/-- Settles O7, by the bytes of each layout being those that the report's owner answers, on any link alike. -/
theorem reportsAnswerAndChangeNothing : Obligations.ReportsAnswerAndChangeNothing := by
  unfold Obligations.ReportsAnswerAndChangeNothing
  intro l tag s hw
  refine ⟨?_, ?_, fun first count h1 h8 h32 => ?_, fun i => ?_, fun i => ?_, fun num => ?_, fun q => ?_, fun p => ?_, ?_,
    fun start hl => ?_, fun o => ?_, ?_, ?_, ?_⟩
  · exact report_onlyReplies rfl ⟨hw, rfl⟩ rfl ownTimeReport_state rfl (by rw [held_time])
  · exact report_onlyReplies rfl ⟨hw, rfl⟩ rfl ownTimeReport_config rfl (by rw [held_time])
  · have hr := report_onlyReplies (c := .stationReport l tag first count) rfl ⟨hw, rfl⟩ rfl
      (ownStationReport_range h1 h8 h32 l) (by cases l <;> rfl) (by cases l <;> rfl)
    refine ⟨fun hseen => ?_, fun hkept => ?_⟩
    · have hany : ((stationRange first.toNat count.toNat).any fun i => s.hidden l (s.stationPort i)) = false :=
        List.any_eq_false.2 fun i hi => by simp [hseen i hi]
      simpa only [hany, Bool.false_eq_true, if_false] using hr
    · have hany : ((stationRange first.toNat count.toNat).any fun i => s.hidden l (s.stationPort i)) = true :=
        List.any_eq_true.2 hkept
      simpa only [hany, if_true] using hr
  · exact report_onlyReplies rfl ⟨hw, rfl⟩ rfl (ownStreamReport_stream l i)
      (by cases l <;> rfl) (by cases l <;> rfl)
  · exact report_onlyReplies rfl ⟨hw, rfl⟩ rfl (ownStreamReport_station l i)
      (by cases l <;> rfl) (by cases l <;> rfl)
  · have hr := report_onlyReplies (c := .streamReport l tag 2 num) rfl ⟨hw, rfl⟩ rfl (ownStreamReport_store l num) rfl
      (by cases l <;> rfl)
    simpa only [decide_eq_true_eq] using hr
  · exact report_onlyReplies rfl ⟨hw, rfl⟩ rfl (ownQueueReport_queue q) rfl (by cases l <;> rfl)
  · exact report_onlyReplies rfl ⟨hw, rfl⟩ rfl (ownPortReport_port p) rfl (by cases l <;> rfl)
  · exact report_onlyReplies rfl ⟨hw, rfl⟩ rfl (ownTrackReport_keeping l) rfl (by cases l <;> rfl)
  · have ha : allowed l (.trackList start) = true := bne_iff_ne.2 hl
    exact report_onlyReplies rfl ⟨hw, ha⟩ rfl (ownTrackList_start start) rfl (by cases l <;> rfl)
  · exact report_onlyReplies rfl ⟨hw, rfl⟩ rfl (ownOutputReport_output o) rfl (by cases l <;> rfl)
  · exact report_onlyReplies rfl ⟨hw, rfl⟩ rfl ownGrantReport_all rfl (by cases l <;> rfl)
  · exact report_onlyReplies rfl ⟨hw, rfl⟩ rfl ownFabricReport_all rfl (by cases l <;> rfl)
  · exact report_onlyReplies rfl ⟨hw, rfl⟩ rfl (ownPartInfo_all l) rfl rfl

end Sys2Proof.Machine
end

section
/-! The parts that a command may change, and relations of states that hold from one operation to the next. -/

namespace Sys2Proof.Machine

/-! ### The frame of a command -/

theorem execMtAdvance_frame {s t : State} (h : execMtAdvance s = .next t) : SameBut [.time] s t :=
  Host.Outcome.next.inj h ▸ State.onTime_frame _ s

theorem execPulseEdge_frame {e : PulseEdge} {x : Option Stamp} {s t : State} (h : execPulseEdge e s x = .next t) :
    SameBut stepParts s t := by
  unfold execPulseEdge at h
  dsimp only at h
  split at h
  · exact .of_next_self h
  split at h
  · exact Host.Outcome.next.inj h ▸ (State.onTime_frame _ s).mono (by decide)
  · have ha := (arrival_frame .hallPulse (s.time.edgeOnTime (s.stampOf x).localTime) (localSec 3) (s.stampOf x) s).mono
      (qs := stepParts) (by decide)
    exact Host.Outcome.next.inj h ▸ .ite _ (ha.trans (samplePulse_frame _ _)) ha

theorem execFaultDeadlineExpiry_frame {src : TimedSource} {s t : State}
    (h : execFaultDeadlineExpiry src s = .next t) : SameBut ([.time] ++ allLinks) s t :=
  .of_next_ite h ((faultSource_frame src s).trans (reselect_frame _))

theorem execHoldoverDeadlineExpiry_frame {s t : State} (h : execHoldoverDeadlineExpiry s = .next t) :
    SameBut ([.time] ++ allLinks) s t := .of_next_ite h (changeClock_frame _ s)

/-- The parts that a command other than a request may change. A power-on reset, a placed reply and a request may each
change anything but the queue. -/
def execParts : Instr → List Part
  | .write .. | .read .. => allLinks
  | .warmReset => warmParts
  | .mtAdvance => [.time]
  | .pulseEdge .. => stepParts
  | .malformedMessage .. | .enqueue .. | .sent .. | .portState .. | .cellIn .. | .sync .. | .fillDone .. | .verdict ..
  | .backoff .. | .need .. => inboundParts
  | .trainingComplete => [.fabric] ++ allLinks
  | .alignmentLossExpiry | .restartSignal => lossParts
  | .outboundMessageSent | .lossOfAlignment | .alignmentRegained => [.fabric]
  | .faultDeadlineExpiry .. | .holdoverDeadlineExpiry => [.time] ++ allLinks
  | .stalenessDeadlineExpiry .. => discardParts
  | .pacingQueueExpiry .. => [.queues, .streams]
  | .release .. => [.ports, .streams, .store, .fabric] ++ allLinks
  | .sentOverdueExpiry .. => [.ports, .streams, .store, .storeDiscards] ++ allLinks
  | .triggerDeadlineExpiry .. | .gateDeadlineExpiry => [.track, .outputs]
  | .verdictDeadlineExpiry .. => [.track]
  | .windowEndExpiry => trackParts
  | .askTimeoutExpiry .. | .expiryMtExpiry .. => [.grants] ++ stationParts
  | .warningTimeExpiry .. => [.grants] ++ allLinks
  | .pulseEndExpiry .. | .feedInstant .. => [.outputs]
  | _ => everyPart

/-- A command that is no request changes none but the parts listed for it. -/
theorem exec_frame {c : Instr} {s t : State} (hr : c.asRequest = none) (h : exec c s = .next t) :
    SameBut (execParts c) s t := by
  cases c
  case powerOnReset =>
    refine Host.Outcome.next.inj h ▸ fun p hp => ?_
    have hpending : p = .pending := by_contra fun hn => hp (mem_everyPart p hn)
    exact hpending ▸ rfl
  case replyPlaced l =>
    have hheld : SameBut everyPart s (takeHeld l s) := by
      unfold takeHeld
      split
      · exact (owner_sound _ l s).1.trans (State.onLink_frame_all l _ _).every
      · exact .refl _ s
    exact Host.Outcome.next.inj h ▸ hheld.trans (State.onLink_frame_all l _ _).every
  case write => exact execWrite_frame h
  case read => exact execRead_frame h
  case warmReset => exact execWarmReset_frame h
  case mtAdvance => exact execMtAdvance_frame h
  case pulseEdge => exact execPulseEdge_frame h
  case trainingComplete => exact execTrainingComplete_frame h
  case alignmentLossExpiry => exact execAlignmentLossExpiry_frame h
  case restartSignal => exact execRestartSignal_frame h
  case outboundMessageSent => exact execOutboundMessageSent_frame h
  case lossOfAlignment => exact execLossOfAlignment_frame h
  case alignmentRegained => exact execAlignmentRegained_frame h
  case faultDeadlineExpiry => exact execFaultDeadlineExpiry_frame h
  case holdoverDeadlineExpiry => exact execHoldoverDeadlineExpiry_frame h
  case stalenessDeadlineExpiry => exact execStalenessDeadlineExpiry_frame h
  case pacingQueueExpiry => exact execPacingQueueExpiry_frame h
  case release => exact execRelease_frame h
  case sentOverdueExpiry => exact execSentOverdueExpiry_frame h
  case triggerDeadlineExpiry => exact execTriggerDeadlineExpiry_frame h
  case verdictDeadlineExpiry => exact execVerdictDeadlineExpiry_frame h
  case gateDeadlineExpiry => exact execGateDeadlineExpiry_frame h
  case windowEndExpiry => exact execWindowEndExpiry_frame h
  case askTimeoutExpiry => exact execAskTimeoutExpiry_frame h
  case warningTimeExpiry => exact execWarningTimeExpiry_frame h
  case expiryMtExpiry => exact execExpiryMtExpiry_frame h
  case pulseEndExpiry => exact execPulseEndExpiry_frame h
  case feedInstant => exact execFeedInstant_frame h
  case malformedMessage | enqueue | sent | portState | cellIn | sync | fillDone | verdict | backoff | need =>
    exact Host.Outcome.next.inj h ▸ takeInbound_frame _ _ s
  all_goals cases hr

/-! ### Relations from one operation to the next -/

/-- A relation of states that composes, and that a change of the links alone keeps to. -/
structure Chains (R : State → State → Prop) : Prop where
  trans : ∀ {s t u}, R s t → R t u → R s u
  links : ∀ {s t}, SameBut allLinks s t → R s t

section chains
variable {R : State → State → Prop}

theorem Chains.refl (h : Chains R) (s : State) : R s s := h.links (.refl _ s)

theorem Chains.onLink (h : Chains R) (l : Link) (f : LinkRec → LinkRec) (s : State) : R s (s.onLink l f) :=
  h.links (State.onLink_frame_all l f s)

theorem Chains.setSlot (h : Chains R) (l : Link) (x : Slot) (s : State) : R s (s.setSlot l x) := h.onLink l _ s

theorem Chains.ite (h : Chains R) (c : Prop) [Decidable c] {s t : State} (k : R s t) : R s (if c then t else s) := by
  split
  · exact k
  · exact h.refl s

theorem Chains.ownerTakes (h : Chains R) {own : State → Answer} (ho : ∀ u, R u (own u).state) (l : Link) (tag : Byte)
    (r : Request) (s : State) : R s (ownerTakes l tag r own s) := h.trans (ho s) (h.setSlot l _ _)

/-- A request is related as its owner is: beside the owner it changes its link alone. -/
theorem Chains.request (h : Chains R) {own : State → Answer} (ho : ∀ u, R u (own u).state) (l : Link) (tag : Byte)
    (r : Request) (s : State) : R s (request l tag r own s) := by
  have hb : R s (beginWrite l ((requestBody r).length + 5) s) := h.onLink l _ s
  unfold Machine.request
  dsimp only
  split
  · exact hb
  split
  · exact h.trans hb (h.trans (h.setSlot l _ _) (h.ownerTakes ho l tag r _))
  · exact h.trans hb (h.setSlot l _ _)

/-- A placed reply is related as the owner of the request that may still be held is. -/
theorem Chains.replyPlaced (h : Chains R) (ho : ∀ r l u, R u (owner r l u).state) (l : Link) (s : State) :
    R s ((takeHeld l s).onLink l placeReply) := by
  refine h.trans ?_ (h.onLink l _ _)
  unfold takeHeld
  split
  · exact h.ownerTakes (ho _ l) l _ _ s
  · exact h.refl s

end chains

end Sys2Proof.Machine
end

section
/-! The ports of the stations: what each operation leaves of them. -/

namespace Sys2Proof.Machine

/-! ### The port of a station -/

/-- The port of a station record, where it is configured. -/
def Station.place (x : Station) : Option (Fin 24) := x.conf.map (·.port)

theorem stationPort_eq (s : State) (i : Fin 32) : s.stationPort i = (s.stations.get i).place := rfl

theorem SameBut.stationPort {ps : List Part} {s t : State} (h : SameBut ps s t)
    (hp : Part.stations ∉ ps := by decide) : t.stationPort = s.stationPort := by
  funext i
  rw [stationPort_eq, stationPort_eq, h.stations hp]

/-- A changed station record moves the port of its own number alone. -/
theorem onStation_stationPort (i : Fin 32) (f : Station → Station) (s : State) :
    (s.onStation i f).stationPort = Function.update s.stationPort i (f (s.stations.get i)).place := by
  funext j
  rw [stationPort_eq, State.onStation_stations, Tbl.get_upd, Function.update_apply]
  split <;> rfl

theorem onStation_stationPort_of_place {f : Station → Station} (hf : ∀ x, (f x).place = x.place) (i : Fin 32)
    (s : State) : (s.onStation i f).stationPort = s.stationPort := by
  rw [onStation_stationPort, hf]
  exact Function.update_eq_self i _

theorem forEach_stationPort {α : Type} {f : α → State → State} (hf : ∀ x s, (f x s).stationPort = s.stationPort)
    (xs : List α) (s : State) : (forEach xs f s).stationPort = s.stationPort := by
  induction xs generalizing s with
  | nil => rfl
  | cons x xs ih => exact (ih _).trans (hf x s)

theorem Station.isOn_iff {x : Station} {p : Fin 24} : x.isOn p = true ↔ x.place = some p := by
  unfold Station.isOn Station.place
  cases x.conf <;> simp

/-! ### Changes of state leave the ports -/

@[simp] theorem emitOrder_stationPort (i : Fin 32) (st : StationState) (s : State) :
    (emitOrder i st s).stationPort = s.stationPort := by
  unfold emitOrder
  split
  · split
    · rw [(handOver_frame _ _).stationPort, onStation_stationPort_of_place]
      exact fun _ => rfl
    · rfl
  · rfl

@[simp] theorem setStation_stationPort (i : Fin 32) (st : StationState) (s : State) :
    (setStation i st s).stationPort = s.stationPort :=
  onStation_stationPort_of_place (fun x => by simp [Station.place, Function.comp_def]) i s

@[simp] theorem turnStation_stationPort (i : Fin 32) (st : StationState) (b : Bool) (s : State) :
    (turnStation i st b s).stationPort = s.stationPort := by
  rw [turnStation, emitOrder_stationPort, (post_frame _ b _).stationPort, setStation_stationPort]

@[simp] theorem moveStation_stationPort (i : Fin 32) (st : StationState) (s : State) :
    (moveStation i st s).stationPort = s.stationPort := by
  rw [moveStation, changeStation, (tellOfState_frame i st _).stationPort, turnStation_stationPort]

@[simp] theorem portLinkChanged_stationPort (p : Fin 24) (up : Bool) (s : State) :
    (portLinkChanged p up s).stationPort = s.stationPort := by
  unfold portLinkChanged
  split
  · rfl
  split
  · rfl
  · exact moveStation_stationPort ..
  · exact moveStation_stationPort ..
  · rfl

@[simp] theorem moveWindow_stationPort (a : GrantAsk) (x y : StationState) (s : State) :
    (moveWindow a x y s).stationPort = s.stationPort :=
  forEach_stationPort (fun i => turnStation_stationPort i y true) _ s

@[simp] theorem enterWindow_stationPort (a : GrantAsk) (s : State) : (enterWindow a s).stationPort = s.stationPort := by
  rw [enterWindow, (serviceEntered_frame _ _).stationPort, moveWindow_stationPort]

@[simp] theorem allAbsent_stationPort (s : State) : (allAbsent s).stationPort = s.stationPort := by
  refine forEach_stationPort (fun i s => ?_) _ s
  split
  · rfl
  · rfl
  · exact moveStation_stationPort ..

@[simp] theorem warmStations_stationPort (s : State) : (warmStations s).stationPort = s.stationPort := by
  refine forEach_stationPort (fun i s => ?_) _ s
  split
  · rw [emitOrder_stationPort, setStation_stationPort]
  · rfl

@[simp] theorem linkChange_stationPort (p : Fin 24) (up : Bool) (s : State) :
    (linkChange p up s).stationPort = s.stationPort := by
  have hm : (portLinkChanged p up (postAt (noticePortLink p up) (some p) (s.onPort p fun x => { x with up := up }))
      ).stationPort = s.stationPort := by
    rw [portLinkChanged_stationPort, (postAt_frame _ _ _).stationPort, (State.onPort_frame _ _ _).stationPort]
  unfold linkChange
  dsimp only
  split
  · exact hm
  · rw [(portWentDown_frame _ _).stationPort, hm]

theorem takePortState_stationPort (p : Fin 24) (u z w : Bool) (s : State) :
    (takePortState p u z w s).stationPort = s.stationPort := by
  have hp : ((if (s.ports.get p).up = u then s else linkChange p u s).onPort p fun x =>
      { x with paused := z, high := w }).stationPort = s.stationPort := by
    rw [(State.onPort_frame _ _ _).stationPort]
    split
    · rfl
    · exact linkChange_stationPort ..
  unfold takePortState
  dsimp only
  split
  · rw [(watermarkHigh_frame _ _).stationPort, hp]
  · exact hp

theorem linkLost_stationPort (s : State) : (linkLost s).stationPort = s.stationPort := by
  unfold linkLost
  dsimp only
  rw [(postAll_frame _ _).stationPort, allAbsent_stationPort, (markPorts_frame _).stationPort,
    (drainAll_frame _).stationPort, (voidStore_frame _).stationPort, (State.onFabric_frame _ _).stationPort]

theorem warm_stationPort (n : Notice) (s : State) : (warm n s).stationPort = s.stationPort := by
  unfold warm
  rw [(postAll_frame _ _).stationPort, (clearLinks_frame _).stationPort, (idleSlots_frame _).stationPort,
    (warmGrants_frame _).stationPort, (warmTrack_frame _).stationPort, (warmPorts_frame _).stationPort,
    (warmStreams_frame _).stationPort, warmStations_stationPort, (warmFabric_frame _).stationPort]

@[simp] theorem withdraw_stationPort (a : GrantAsk) (s : State) : (withdraw a s).stationPort = s.stationPort := by
  have hm : (if a.level = .intervene then moveWindow a .service .held s else s).stationPort = s.stationPort := by
    split
    · exact moveWindow_stationPort ..
    · rfl
  unfold withdraw
  dsimp only
  split
  · rw [(closeEnded_frame _ _).stationPort, hm]
  · exact hm

theorem endGrant_stationPort (k : Fin 4) (why : EndReason) (s : State) :
    (endGrant k why s).stationPort = s.stationPort := by
  unfold endGrant
  dsimp only
  rw [(postAll_frame _ _).stationPort]
  split
  · rw [withdraw_stationPort, (State.onSlot_frame _ _ _).stationPort]
  · exact (State.onSlot_frame _ _ _).stationPort

theorem concur_stationPort (k : Fin 4) (a : GrantAsk) (s : State) : (concur k a s).stationPort = s.stationPort := by
  unfold concur
  dsimp only
  rw [(postAll_frame _ _).stationPort]
  split
  · rw [enterWindow_stationPort, (State.onSlot_frame _ _ _).stationPort]
  · exact (State.onSlot_frame _ _ _).stationPort

/-! ### Configuring and removing a station -/

theorem configure_stationPort (i : Fin 32) (r : Role) (p : Fin 24) (n : Nat) (s : State) :
    (configure i r p n s).stationPort = Function.update s.stationPort i (some p) := by
  unfold configure
  split
  · rw [configureNew, emitOrder_stationPort, postConfigured, (postStation_frame _ _ _).stationPort,
      onStation_stationPort]
    rfl
  split
  next hp =>
    rw [configureSame, postConfigured, (postStation_frame _ _ _).stationPort, onStation_stationPort, ← hp]
    rfl
  · have hm : ∀ u : State, u.stationPort = Function.update s.stationPort i (some p) → ∀ c : Prop, [Decidable c] →
        (if c then leaveNeeds i u else u).stationPort = Function.update s.stationPort i (some p) := by
      intro u hu c _
      split
      · rw [(leaveNeeds_frame _ _).stationPort, hu]
      · exact hu
    refine hm _ ?_ _
    rw [(clearStationField_frame _ _ _).stationPort, emitOrder_stationPort, postConfigured,
      (postStation_frame _ _ _).stationPort, onStation_stationPort]
    rfl

theorem remove_stationPort (i : Fin 32) (s : State) :
    (remove i s).stationPort = Function.update s.stationPort i none := by
  unfold remove
  dsimp only
  rw [(leaveNeeds_frame _ _).stationPort, (clearStationField_frame _ _ _).stationPort, onStation_stationPort,
    (postStation_frame _ _ _).stationPort]
  rfl

/-! ### No two stations share a port (R31) -/

/-- No two stations share a port. -/
def PortsApart (f : Fin 32 → Option (Fin 24)) : Prop := ∀ i j p, f i = some p → f j = some p → i = j

theorem stationInv_iff (s : State) : StationInv s ↔ PortsApart s.stationPort := Iff.rfl

/-- A station takes a port that no other holds. -/
theorem PortsApart.take {f : Fin 32 → Option (Fin 24)} (h : PortsApart f) {i : Fin 32} {p : Fin 24}
    (hp : ∀ j, j ≠ i → f j ≠ some p) : PortsApart (Function.update f i (some p)) := by
  intro j k q hj hk
  rw [Function.update_apply] at hj hk
  split at hj <;> split at hk
  next e1 e2 => rw [e1, e2]
  next e1 e2 => cases hj; exact absurd hk (hp k e2)
  next e1 e2 => cases hk; exact absurd hj (hp j e1)
  · exact h j k q hj hk

/-- A station leaves its port. -/
theorem PortsApart.leave {f : Fin 32 → Option (Fin 24)} (h : PortsApart f) (i : Fin 32) :
    PortsApart (Function.update f i none) := by
  intro j k q hj hk
  rw [Function.update_apply] at hj hk
  split at hj
  · cases hj
  split at hk
  · cases hk
  · exact h j k q hj hk

theorem portTaken_iff {s : State} {i : Fin 32} {p : Fin 24} :
    s.portTaken i p = true ↔ ∃ j, j ≠ i ∧ s.stationPort j = some p := by
  rw [State.portTaken, any_numbers]
  simp only [Bool.and_eq_true, bne_iff_ne, Station.isOn_iff, stationPort_eq]

/-- A property of an owner's answer, chosen by a check. -/
theorem answer_ite_of {P : State → Prop} {c : Prop} [Decidable c] {a b : Answer} (ha : P a.state)
    (hb : ¬ c → P b.state) : P (if c then a else b).state := by
  split
  · exact ha
  next hc => exact hb hc

theorem ownStationSet_stationInv {a b c d : Byte} {s : State} (h : StationInv s) :
    StationInv (ownStationSet a b c d s).state := by
  unfold ownStationSet
  split
  next i r p _ _ _ =>
    refine answer_ite_of h fun _ => answer_ite_of h fun _ => answer_ite_of h fun _ => answer_ite_of h fun hport =>
      answer_ite_of h fun _ => ?_
    show PortsApart (configure ..).stationPort
    rw [configure_stationPort]
    exact PortsApart.take h fun j hj hp => hport (portTaken_iff.2 ⟨j, hj, hp⟩)
  · exact h

theorem ownStationRemove_stationInv {a : Byte} {s : State} (h : StationInv s) :
    StationInv (ownStationRemove a s).state := by
  have hr (i : Fin 32) : StationInv (remove i s) := by
    rw [stationInv_iff, remove_stationPort]
    exact PortsApart.leave h i
  unfold ownStationRemove
  split
  · exact h
  split
  · exact answer_ite_of h fun _ => hr _
  · exact answer_ite_of h fun _ => hr _
  · exact h

end Sys2Proof.Machine
end

section
/-! The grant slots: what each operation leaves of their windows and deadlines. -/

namespace Sys2Proof.Machine

/-! ### One slot (R146) -/

/-- A slot holds the deadlines of its state alone, and a window whose base is not above its limit. -/
def GrantSlot.Sound (g : GrantSlot) : Prop :=
  (g.askTimeout.isSome = true ↔ g.state = .asked) ∧ (g.state ≠ .active → g.warning = none) ∧
    (g.state ≠ .free → g.ask.isSome = true) ∧ ∀ a, g.ask = some a → a.base ≤ a.limit

theorem grantInv_iff (s : State) :
    GrantInv s ↔
      (∀ k k' p, (s.grants.slots.get k).reserves p = true → (s.grants.slots.get k').reserves p = true → k = k') ∧
        ∀ k, (s.grants.slots.get k).Sound := Iff.rfl

/-- The slot `g'` reserves no port that `g` did not, and is sound where `g` was. -/
structure GrantSlot.Narrows (g g' : GrantSlot) : Prop where
  reserves : ∀ p, g'.reserves p = true → g.reserves p = true
  sound : g.Sound → g'.Sound

theorem GrantSlot.Narrows.refl (g : GrantSlot) : g.Narrows g := ⟨fun _ h => h, id⟩

theorem GrantSlot.reserves_free {g : GrantSlot} (h : g.state = .free) (p : Fin 24) : g.reserves p = false := by
  simp [GrantSlot.reserves, GrantSlot.intervenes, h]

/-- A slot that is not FREE reserves the ports of its window at INTERVENE. -/
theorem GrantSlot.reserves_taken {g : GrantSlot} {a : GrantAsk} (h : g.state ≠ .free) (ha : g.ask = some a)
    (p : Fin 24) : g.reserves p = (a.level == .intervene && a.holds p) := by
  unfold GrantSlot.reserves GrantSlot.intervenes
  rw [ha]
  cases hs : g.state with
  | free => exact absurd hs h
  | asked => rfl
  | active => rfl

theorem GrantSlot.narrows_of_free {g g' : GrantSlot} (h : g'.state = .free) (hs : g.Sound → g'.Sound) :
    g.Narrows g' := ⟨fun p hp => absurd hp (by simp [reserves_free h]), hs⟩

/-- A slot that keeps its ask, and is not FREE before nor after. -/
theorem GrantSlot.narrows_of_taken {g g' : GrantSlot} (h : g.state ≠ .free) (h' : g'.state ≠ .free)
    (ha : g'.ask = g.ask) (hs : g.Sound → g'.Sound) : g.Narrows g' := by
  refine ⟨fun p hp => ?_, hs⟩
  cases hk : g.ask with
  | none => simp [reserves, intervenes, ha, hk] at hp
  | some a =>
    rw [reserves_taken h' (ha.trans hk)] at hp
    rwa [reserves_taken h hk]

theorem GrantSlot.release_narrows (why : EndReason) (g : GrantSlot) : g.Narrows (g.release why) :=
  narrows_of_free rfl fun ⟨_, _, _, hwin⟩ => ⟨by simp [release], fun _ => rfl, fun h => absurd rfl h, hwin⟩

theorem GrantSlot.activate_narrows (a : GrantAsk) (now : Int) {g : GrantSlot} (h : g.state = .asked) :
    g.Narrows (g.activate a now) :=
  narrows_of_taken (by simp [h]) (by simp [activate]) rfl fun ⟨_, _, hask, hwin⟩ =>
    ⟨by simp [activate], fun hn => absurd rfl hn, fun _ => hask (by simp [h]), hwin⟩

theorem GrantSlot.extendTo_narrows (e now : Int) {g : GrantSlot} (h : g.state = .active) :
    g.Narrows (g.extendTo e now) := by
  unfold extendTo
  split
  · exact narrows_of_taken (by simp [h]) (by simp [h]) rfl fun ⟨hdue, _, hask, hwin⟩ =>
      ⟨hdue, fun hn => absurd h hn, hask, hwin⟩
  · exact narrows_of_taken (by simp [h]) (by simp [h]) rfl id

theorem GrantSlot.warned_narrows {g : GrantSlot} (h : g.state = .active) :
    g.Narrows { g with warned := true, warning := none } :=
  narrows_of_taken (by simp [h]) (by simp [h]) rfl fun ⟨hdue, _, hask, hwin⟩ => ⟨hdue, fun _ => rfl, hask, hwin⟩

theorem GrantSlot.shift_narrows (d : Int) (g : GrantSlot) : g.Narrows (g.shift d) := by
  unfold shift
  split
  · exact .refl g
  next h =>
    exact narrows_of_taken (by simp [h]) (by simp [h]) rfl fun ⟨hdue, hwarn, hask, hwin⟩ =>
      ⟨by simpa using hdue, hwarn, hask, hwin⟩
  next h =>
    exact narrows_of_taken (by simp [h]) (by simp [h]) rfl fun ⟨hdue, _, hask, hwin⟩ =>
      ⟨hdue, fun hn => absurd h hn, hask, hwin⟩

/-- A slot that takes an ask (R150). -/
def GrantSlot.taken (a : GrantAsk) (now : Int) (g : GrantSlot) : GrantSlot :=
  if a.level = .observe then { g with ask := some a, endReason := none }.activate a now
  else
    { g with
      state := .asked, ask := some a, endReason := none, askTimeout := some (now + askTimeoutNs)
      activation := none, expiry := none }

theorem GrantSlot.taken_state_ne_free (a : GrantAsk) (now : Int) (g : GrantSlot) : (g.taken a now).state ≠ .free := by
  unfold taken
  split <;> simp [activate]

theorem GrantSlot.taken_ask (a : GrantAsk) (now : Int) (g : GrantSlot) : (g.taken a now).ask = some a := by
  unfold taken
  split <;> rfl

theorem GrantSlot.taken_sound {a : GrantAsk} (hw : a.base ≤ a.limit) (now : Int) {g : GrantSlot} (h : g.Sound)
    (hf : g.state = .free) : (g.taken a now).Sound := by
  obtain ⟨-, hwarn, -, -⟩ := h
  have hwin : ∀ b, (g.taken a now).ask = some b → b.base ≤ b.limit := by
    intro b hb
    rw [taken_ask] at hb
    exact Option.some.inj hb ▸ hw
  refine ⟨?_, ?_, fun _ => by simp [taken_ask], hwin⟩
  · unfold taken
    split <;> simp [activate]
  · unfold taken
    split
    · exact fun hn => absurd rfl hn
    · exact fun _ => hwarn (by simp [hf])

/-! ### The slots (R150) -/

/-- Slots that narrow one by one. -/
theorem GrantInv.narrow {s t : State} (h : GrantInv s)
    (hn : ∀ k, (s.grants.slots.get k).Narrows (t.grants.slots.get k)) : GrantInv t := by
  obtain ⟨hapart, hsound⟩ := h
  exact ⟨fun k k' p hk hk' => hapart k k' p ((hn k).reserves p hk) ((hn k').reserves p hk'),
    fun k => (hn k).sound (hsound k)⟩

theorem upd_narrows {t : Tbl GrantSlot 4} {k : Fin 4} {f : GrantSlot → GrantSlot} (h : (t.get k).Narrows (f (t.get k)))
    (j : Fin 4) : (t.get j).Narrows ((t.upd k f).get j) := by
  rw [Tbl.get_upd]
  split
  next e => exact e ▸ h
  · exact .refl _

theorem map_narrows {t : Tbl GrantSlot 4} {f : GrantSlot → GrantSlot} (h : ∀ g : GrantSlot, g.Narrows (f g))
    (j : Fin 4) : (t.get j).Narrows ((t.map f).get j) := by
  rw [Tbl.get_map]
  exact h _

/-- A FREE slot takes an ask whose window, at INTERVENE, shares no port with that of another slot at INTERVENE. -/
theorem GrantInv.take {s t : State} (h : GrantInv s) {k : Fin 4} {a : GrantAsk} {now : Int}
    (ht : t.grants.slots = s.grants.slots.upd k (·.taken a now)) (hf : (s.grants.slots.get k).state = .free)
    (hw : a.base ≤ a.limit)
    (hp : a.level = .intervene → ∀ j p, a.holds p = true → (s.grants.slots.get j).reserves p = false) :
    GrantInv t := by
  obtain ⟨hapart, hsound⟩ := h
  have hnew : ∀ j p, ((s.grants.slots.get k).taken a now).reserves p = true →
      (s.grants.slots.get j).reserves p ≠ true := by
    intro j p hk
    rw [GrantSlot.reserves_taken (GrantSlot.taken_state_ne_free a now _) (GrantSlot.taken_ask a now _),
      Bool.and_eq_true, beq_iff_eq] at hk
    simp [hp hk.1 j p hk.2]
  refine (grantInv_iff t).2 ⟨fun i j p hi hj => ?_, fun j => ?_⟩
  · rw [ht, Tbl.get_upd] at hi hj
    split at hi <;> split at hj
    next e1 e2 => rw [e1, e2]
    · exact absurd hj (hnew j p hi)
    · exact absurd hi (hnew i p hj)
    · exact hapart i j p hi hj
  · rw [ht, Tbl.get_upd]
    split
    · exact GrantSlot.taken_sound hw now (hsound k) hf
    · exact hsound j

theorem takeAsk_slots (k : Fin 4) (a : GrantAsk) (s : State) :
    (takeAsk k a s).grants.slots = s.grants.slots.upd k (·.taken a s.now) := by
  unfold takeAsk GrantSlot.taken
  dsimp only
  split <;> rfl

theorem State.freeGrantSlot_state {s : State} {k : Fin 4} (h : s.freeGrantSlot = some k) :
    (s.grants.slots.get k).state = .free := by simpa using List.find?_some h

theorem readAsk_window {v x y : Byte} {n : BitVec 16} {l : GrantLevel} {b m : Fin 24} {t : Nat}
    (h : readAsk v x y n = some (l, b, m, t)) : b ≤ m := by
  simp only [readAsk, Option.bind_eq_bind, Option.bind_eq_some_iff] at h
  obtain ⟨l', -, b', -, m', -, t', -, h⟩ := h
  split at h
  · cases h
  next hle => cases h; exact Fin.not_lt.1 hle

/-- Windows that share a port overlap. -/
theorem GrantSlot.not_reserves_of_apart {g : GrantSlot} {b m p : Fin 24} (h : g.overlaps b m = false) (hb : b ≤ p)
    (hm : p ≤ m) : g.reserves p = false := by
  unfold overlaps at h
  unfold reserves
  cases ha : g.ask with
  | none => simp
  | some a =>
    rw [ha] at h
    simp only [Bool.and_eq_false_iff, decide_eq_false_iff_not, GrantAsk.holds] at h ⊢
    refine h.imp id fun hn hp => hn ⟨hp.1.trans hm, hb.trans hp.2⟩

theorem ownGrantAsk_grantInv {v x y : Byte} {n : BitVec 16} {s : State} (h : GrantInv s) :
    GrantInv (ownGrantAsk v x y n s).state := by
  unfold ownGrantAsk
  split
  · exact h
  next l b m t hr =>
  refine answer_ite_of h fun hclash => ?_
  split
  · exact h
  next k hk =>
  refine h.take (takeAsk_slots k _ s) (State.freeGrantSlot_state hk) (readAsk_window hr) fun hl j p hp => ?_
  have hj : (s.grants.slots.get j).overlaps b m = false := by
    rw [← Bool.not_eq_true]
    exact fun ho => hclash ⟨hl, (Tbl.any_xs _ _).2 ⟨j, ho⟩⟩
  obtain ⟨hb, hm⟩ := of_decide_eq_true hp
  exact GrantSlot.not_reserves_of_apart hj hb hm

end Sys2Proof.Machine
end

section
/-! What every step keeps of the stations and the grant slots. -/

namespace Sys2Proof.Machine

/-- From `s` to `t` the stations keep ports of their own, and the grant slots their windows and deadlines. -/
def Kept (s t : State) : Prop := (StationInv s → StationInv t) ∧ (GrantInv s → GrantInv t)

theorem Kept.trans {s t u : State} (h : Kept s t) (k : Kept t u) : Kept s u := ⟨k.1 ∘ h.1, k.2 ∘ h.2⟩

/-- The ports of the stations are the same, and the slots narrow. -/
theorem Kept.of_narrow {s t : State} (hp : t.stationPort = s.stationPort)
    (hn : ∀ k, (s.grants.slots.get k).Narrows (t.grants.slots.get k)) : Kept s t :=
  ⟨fun h => (stationInv_iff t).2 (hp ▸ h), fun h => h.narrow hn⟩

/-- The ports of the stations are the same, and so are the slots. -/
theorem Kept.of_same {s t : State} (hp : t.stationPort = s.stationPort) (hg : t.grants = s.grants) : Kept s t :=
  .of_narrow hp fun _ => hg ▸ .refl _

theorem SameBut.kept {ps : List Part} {s t : State} (h : SameBut ps s t)
    (hs : Part.stations ∉ ps := by decide) (hg : Part.grants ∉ ps := by decide) : Kept s t :=
  .of_same (h.stationPort hs) (h.grants hg)

theorem kept_chains : Chains Kept := ⟨Kept.trans, fun h => h.kept⟩

/-! ### Grants -/

/-- A slot that narrows, before or after changes of anything but the ports of the stations and the slots. -/
theorem Kept.of_slot {s t : State} {k : Fin 4} {f : GrantSlot → GrantSlot} (hp : t.stationPort = s.stationPort)
    (hg : t.grants.slots = s.grants.slots.upd k f)
    (hn : (s.grants.slots.get k).Narrows (f (s.grants.slots.get k))) : Kept s t :=
  .of_narrow hp fun j => hg ▸ upd_narrows hn j

theorem endGrant_slots (k : Fin 4) (why : EndReason) (s : State) :
    (endGrant k why s).grants.slots = s.grants.slots.upd k (·.release why) := by
  unfold endGrant
  dsimp only
  rw [(postAll_frame _ _).grants]
  split
  · rw [(withdraw_frame _ _).grants]
    rfl
  · rfl

theorem endGrant_kept (k : Fin 4) (why : EndReason) (s : State) : Kept s (endGrant k why s) :=
  .of_slot (endGrant_stationPort k why s) (endGrant_slots k why s) (GrantSlot.release_narrows why _)

theorem concur_slots (k : Fin 4) (a : GrantAsk) (s : State) :
    (concur k a s).grants.slots = s.grants.slots.upd k (·.activate a s.now) := by
  unfold concur
  dsimp only
  rw [(postAll_frame _ _).grants]
  split
  · rw [(enterWindow_frame _ _).grants]
    rfl
  · rfl

theorem answer_ite_kept {s : State} {c : Prop} [Decidable c] {a b : Answer} (ha : Kept s a.state)
    (hb : Kept s b.state) : Kept s (if c then a else b).state := answer_ite_of ha fun _ => hb

theorem ownGrantConcur_kept (a : Byte) (n : BitVec 16) (s : State) : Kept s (ownGrantConcur a n s).state := by
  unfold ownGrantConcur
  split
  · exact kept_chains.refl s
  dsimp only
  split
  next hasked _ =>
    exact answer_ite_kept (kept_chains.refl s)
      (.of_slot (concur_stationPort _ _ s) (concur_slots _ _ s) (GrantSlot.activate_narrows _ _ hasked))
  · exact kept_chains.refl s

theorem ownGrantDecline_kept (a : Byte) (n : BitVec 16) (s : State) : Kept s (ownGrantDecline a n s).state := by
  unfold ownGrantDecline
  split
  · exact kept_chains.refl s
  · exact answer_ite_kept (endGrant_kept _ _ s) (kept_chains.refl s)

theorem ownGrantRelease_kept (a : Byte) (n : BitVec 16) (s : State) : Kept s (ownGrantRelease a n s).state := by
  unfold ownGrantRelease
  split
  · exact kept_chains.refl s
  · exact answer_ite_kept (kept_chains.refl s) (endGrant_kept _ _ s)

theorem ownGrantRevoke_kept (a : Byte) (n : BitVec 16) (s : State) : Kept s (ownGrantRevoke a n s).state := by
  unfold ownGrantRevoke
  split
  · exact kept_chains.refl s
  · exact answer_ite_kept (kept_chains.refl s) (endGrant_kept _ _ s)

theorem ownGrantExtend_kept (a : Byte) (n x : BitVec 16) (s : State) : Kept s (ownGrantExtend a n x s).state := by
  unfold ownGrantExtend
  split
  · exact kept_chains.refl s
  next k _ =>
  dsimp only
  split
  · exact kept_chains.refl s
  split
  next hactive _ _ =>
    have hk : ∀ e', Kept s (s.onSlot k (·.extendTo e' s.now)) := fun e' =>
      .of_slot (State.onSlot_frame k _ s).stationPort rfl (GrantSlot.extendTo_narrows e' _ hactive)
    dsimp only [done]
    split
    · exact hk _
    · exact (hk _).trans (postAll_frame _ _).kept
  · exact kept_chains.refl s

theorem ownGrantPolicy_kept (x : BitVec 16) (s : State) : Kept s (ownGrantPolicy x s).state := by
  unfold ownGrantPolicy
  split
  · exact .of_narrow rfl fun _ => .refl _
  · exact kept_chains.refl s

theorem execAskTimeoutExpiry_kept {k : Fin 4} {s t : State} (h : execAskTimeoutExpiry k s = .next t) : Kept s t :=
  Host.Outcome.next.inj h ▸ kept_chains.ite _ (endGrant_kept k _ s)

theorem execExpiryMtExpiry_kept {k : Fin 4} {s t : State} (h : execExpiryMtExpiry k s = .next t) : Kept s t :=
  Host.Outcome.next.inj h ▸ kept_chains.ite _ (endGrant_kept k _ s)

theorem execWarningTimeExpiry_kept {k : Fin 4} {s t : State} (h : execWarningTimeExpiry k s = .next t) :
    Kept s t := by
  cases h
  split
  next hc =>
    refine .trans ?_ (postAll_frame _ _).kept
    exact .of_slot (f := fun g => { g with warned := true, warning := none }) (State.onSlot_frame k _ s).stationPort rfl
      (GrantSlot.warned_narrows hc.1)
  · exact kept_chains.refl s

/-! ### Resets and steps of MT -/

theorem execPowerOnReset_kept {s t : State} (h : execPowerOnReset s = .next t) : Kept s t := by
  cases h
  exact ⟨fun _ => reset_stationInv, fun _ => reset_grantInv⟩

theorem warm_slots (n : Notice) (s : State) : (warm n s).grants.slots = s.grants.slots.map (·.release .reset) := by
  unfold warm
  rw [(postAll_frame _ _).grants, (clearLinks_frame _).grants, (idleSlots_frame _).grants, warmGrants,
    (warmTrack_frame _).grants, (warmPorts_frame _).grants, (warmStreams_frame _).grants, (warmStations_frame _).grants,
    (warmFabric_frame _).grants]

theorem warm_kept (n : Notice) (s : State) : Kept s (warm n s) := by
  refine .of_narrow (warm_stationPort n s) fun k => ?_
  rw [warm_slots]
  exact map_narrows (GrantSlot.release_narrows _) k

theorem linkLost_kept (s : State) : Kept s (linkLost s) := .of_same (linkLost_stationPort s) (linkLost_frame s).grants

theorem stepTime_kept (src : TimedSource) (o : Int) (s : State) : Kept s (stepTime src o s) :=
  .of_narrow (stepTime_frame src o s).stationPort fun k => map_narrows (GrantSlot.shift_narrows _) k

theorem sample_kept (src : TimedSource) (o : Int) (ms : Nat) (mt : Int) (s : State) :
    Kept s (sample src o ms mt s) := by
  unfold sample
  dsimp only
  split
  · exact (recordOffset_frame _ _ _ s).kept.trans (stepTime_kept ..)
  · exact (((recordOffset_frame _ _ _ s).kept).trans (State.onTime_frame _ _).kept).trans (lockStage_frame _ _).kept

theorem takeSync_kept (q : Byte) (sec : BitVec 48) (ns : BitVec 32) (x : Stamp) (s : State) :
    Kept s (takeSync q sec ns x s) := by
  have ha := fun b d => (State.onTime_frame (fun t => { t with lastSeq := some q }) s).kept.trans
    (arrival_frame .grandmaster b d x _).kept
  unfold takeSync
  dsimp only
  split
  · exact (postAll_frame _ s).kept
  split
  · exact (postAll_frame _ s).kept
  split
  · exact (ha _ _).trans (sample_kept ..)
  · exact ha _ _

theorem execPulseEdge_kept {e : PulseEdge} {x : Option Stamp} {s t : State} (h : execPulseEdge e s x = .next t) :
    Kept s t := by
  have ha := fun b d y => (arrival_frame .hallPulse b d y s).kept
  unfold execPulseEdge at h
  dsimp only at h
  split at h
  · exact Host.Outcome.next.inj h ▸ kept_chains.refl s
  split at h
  · exact Host.Outcome.next.inj h ▸ (State.onTime_frame _ s).kept
  · cases h
    split
    · exact ((ha _ _ _).trans (State.onTime_frame _ _).kept).trans (sample_kept ..)
    · exact ha _ _ _

/-! ### Stations, and every request -/

theorem ownStationSet_kept (a b c d : Byte) (s : State) : Kept s (ownStationSet a b c d s).state :=
  ⟨ownStationSet_stationInv, fun h => h.narrow fun _ => (ownStationSet_frame s).grants ▸ .refl _⟩

theorem ownStationRemove_kept (a : Byte) (s : State) : Kept s (ownStationRemove a s).state :=
  ⟨ownStationRemove_stationInv, fun h => h.narrow fun _ => (ownStationRemove_frame s).grants ▸ .refl _⟩

theorem moveStation_kept (i : Fin 32) (st : StationState) (s : State) : Kept s (moveStation i st s) :=
  .of_same (moveStation_stationPort i st s) (moveStation_frame i st s).grants

theorem ownStationRun_kept (a : Byte) (s : State) : Kept s (ownStationRun a s).state := by
  unfold ownStationRun
  split
  · exact kept_chains.refl s
  · exact answer_ite_kept (moveStation_kept _ _ s) (kept_chains.refl s)

theorem ownStationHold_kept (a : Byte) (s : State) : Kept s (ownStationHold a s).state := by
  unfold ownStationHold
  split
  · exact kept_chains.refl s
  split
  · exact moveStation_kept _ _ s
  · exact kept_chains.refl s
  · exact kept_chains.refl s
  · exact kept_chains.refl s

theorem ownGrantAsk_kept (v x y : Byte) (n : BitVec 16) (s : State) : Kept s (ownGrantAsk v x y n s).state :=
  ⟨fun h => (stationInv_iff _).2 ((ownGrantAsk_frame s).stationPort ▸ h), ownGrantAsk_grantInv⟩

theorem owner_kept (r : Request) (l : Link) (s : State) : Kept s (owner r l s).state := by
  cases r
  case stationSet => exact ownStationSet_kept ..
  case stationRemove => exact ownStationRemove_kept ..
  case stationRun => exact ownStationRun_kept ..
  case stationHold => exact ownStationHold_kept ..
  case grantAsk => exact ownGrantAsk_kept ..
  case grantConcur => exact ownGrantConcur_kept ..
  case grantDecline => exact ownGrantDecline_kept ..
  case grantExtend => exact ownGrantExtend_kept ..
  case grantRelease => exact ownGrantRelease_kept ..
  case grantRevoke => exact ownGrantRevoke_kept ..
  case grantPolicy => exact ownGrantPolicy_kept ..
  case partReset => exact warm_kept _ s
  all_goals exact (owner_frame _ l s).kept (by dsimp only [ownerParts]; decide) (by dsimp only [ownerParts]; decide)

/-! ### Messages, commands and steps -/

theorem takeCell_kept (p : Fin 24) (k : Byte) (c : Cell) (x : Stamp) (s : State) : Kept s (takeCell p k c x s) := by
  have away : ∀ own, (∀ i u, SameBut (cellParts.filter (· ≠ .grants)) u (own i u)) → Kept s (fromStation p k own s) :=
    fun own ho => (fromStation_frame p k ho (by decide) s).kept
  cases c
  case badKind => exact (rejectCell_frame p _ s).kept
  case badLength => exact (rejectCell_frame p _ s).kept
  case sync =>
    dsimp only [takeCell]
    split
    · exact takeSync_kept ..
    · exact (rejectCell_frame p _ s).kept
  case fillDone => exact away _ fun i u => (takeFill_frame i _ _ _ _ _ u).mono (by decide)
  case verdict => exact away _ fun i u => (takeVerdict_frame i _ _ _ _ u).mono (by decide)
  case backoff => exact away _ fun _ u => (takeBackoff_frame p _ _ u).mono (by decide)
  case need => exact away _ fun i u => (takeNeed_frame i _ _ u).mono (by decide)

theorem takeInbound_kept (k : Byte) (m : Except Malformed Inbound) (s : State) : Kept s (takeInbound k m s) := by
  unfold takeInbound
  split
  · exact kept_chains.refl s
  cases m with
  | error why => exact (malformed_frame _ _ s).kept
  | ok m =>
    cases m with
    | enqueue => exact (takeEnqueue_frame _ _ _ s).kept
    | sent => exact (takeSent_frame _ _ s).kept
    | portState => exact .of_same (takePortState_stationPort ..) (takePortState_frame _ _ _ _ s).grants
    | cellIn => exact takeCell_kept ..

theorem exec_kept {c : Instr} {s t : State} (h : exec c s = .next t) : Kept s t := by
  cases hr : c.asRequest with
  | some x =>
    obtain ⟨l, tag, r⟩ := x
    rw [exec_request hr] at h
    exact Host.Outcome.next.inj h ▸ kept_chains.request (owner_kept r l) l tag r s
  | none =>
    have hframe := exec_frame hr h
    cases c
    case powerOnReset => exact execPowerOnReset_kept h
    case warmReset => exact Host.Outcome.next.inj h ▸ warm_kept _ s
    case pulseEdge => exact execPulseEdge_kept h
    case replyPlaced l => exact Host.Outcome.next.inj h ▸ kept_chains.replyPlaced owner_kept l s
    case alignmentLossExpiry => exact Host.Outcome.next.inj h ▸ kept_chains.ite _ (linkLost_kept s)
    case restartSignal => exact Host.Outcome.next.inj h ▸ kept_chains.ite _ (linkLost_kept s)
    case askTimeoutExpiry => exact execAskTimeoutExpiry_kept h
    case warningTimeExpiry => exact execWarningTimeExpiry_kept h
    case expiryMtExpiry => exact execExpiryMtExpiry_kept h
    case malformedMessage | enqueue | sent | portState | cellIn | sync | fillDone | verdict | backoff | need =>
      exact Host.Outcome.next.inj h ▸ takeInbound_kept ..
    case mtAdvance | write | read | trainingComplete | outboundMessageSent | faultDeadlineExpiry |
        holdoverDeadlineExpiry | stalenessDeadlineExpiry | pacingQueueExpiry | release | sentOverdueExpiry |
        triggerDeadlineExpiry | verdictDeadlineExpiry | gateDeadlineExpiry | windowEndExpiry | pulseEndExpiry |
        feedInstant | lossOfAlignment | alignmentRegained =>
      dsimp only [execParts] at hframe
      exact hframe.kept
    all_goals cases hr

/-- Settles O59: no operation but STATION-SET gives a station a port, and none but GRANT-ASK widens what a grant slot
reserves; the checks of these two keep ports and windows apart. -/
theorem everyStepKeepsStationsAndGrants : Obligations.EveryStepKeepsStationsAndGrants := by
  unfold Obligations.EveryStepKeepsStationsAndGrants
  intro s t h
  unfold step at h
  split at h
  next rest _ => exact exec_kept (s := s.withQueue rest) h
  · exact Host.Outcome.next.inj h ▸ kept_chains.refl s

end Sys2Proof.Machine
end

section
/-! The requests that run, hold and remove a station. -/

namespace Sys2Proof.Machine

/-! ### Requests that are performed -/

section held
variable (l : Link) (tag : Byte) (r : Request) (s : State)

@[simp] theorem held_stations : (held l tag r s).stations = s.stations := by cases l <;> rfl
@[simp] theorem held_streams : (held l tag r s).streams = s.streams := by cases l <;> rfl
@[simp] theorem held_ports : (held l tag r s).ports = s.ports := by cases l <;> rfl
@[simp] theorem held_points : (held l tag r s).points = s.points := by cases l <;> rfl
@[simp] theorem held_outputs : (held l tag r s).outputs = s.outputs := by cases l <;> rfl
@[simp] theorem held_fabric : (held l tag r s).fabric = s.fabric := by cases l <;> rfl

@[simp] theorem held_stationState : (held l tag r s).stationState = s.stationState := by cases l <;> rfl

@[simp] theorem held_stationPort : (held l tag r s).stationPort = s.stationPort := by cases l <;> rfl

@[simp] theorem held_stateByLink : (held l tag r s).stateByLink = s.stateByLink := by cases l <;> rfl

@[simp] theorem held_byPort : byPort (held l tag r s) = byPort s := by cases l <;> rfl

end held

/-- A request that its owner performs, with the effect `u`: it is answered with DONE, its links hear what the owner
posts, and beside its own link it leaves what the owner leaves. -/
theorem request_completes {c : Instr} {l : Link} {tag : Byte} {r : Request} {own : State → Answer} {s u : State}
    {body : List Byte} {ns : List Heard} (hx : exec c s = .next (request l tag r own s)) (h : Taken l r s)
    (hp : placedAtOnce r = false) (ho : own (held l tag r s) = done body u)
    (hh : Hears ns s.now (held l tag r s) u) :
    ∃ t, exec c s = .next t ∧ Replied l tag r .done body ns s t ∧ SameBut [.link l] u t ∧
      ∀ ps, SameBut (ps ++ allLinks) (held l tag r s) u → SameBut (ps ++ allLinks) s t := by
  refine ⟨_, hx, request_replied h hp (by rw [ho]; rfl) (by rw [ho]; rfl) (ho ▸ hh), ?_, fun ps hf => ?_⟩
  · rw [request_taken h hp, ho]
    exact State.setSlot_frame l _ u
  · exact request_sameBut h hp (List.mem_append_right _ (link_mem_allLinks l)) (ho ▸ hf)

/-! ### Records of a table -/

theorem OthersSame.trans {α : Type} {n : Nat} {i : Fin n} {a b c : Tbl α n} (h : OthersSame i a b)
    (k : OthersSame i b c) : OthersSame i a c := fun j hj => (k j hj).trans (h j hj)

theorem onStation_others (i : Fin 32) (f : Station → Station) (s : State) :
    OthersSame i s.stations (s.onStation i f).stations := fun _ hj => Tbl.get_upd_of_ne _ f hj

@[simp] theorem onStation_get_self (i : Fin 32) (f : Station → Station) (s : State) :
    (s.onStation i f).stations.get i = f (s.stations.get i) := Tbl.get_upd_self ..

/-! ### Orders (R30) -/

theorem handOver_fabric (m : OutMsg) (s : State) : (handOver m s).fabric = s.fabric.queued m := by
  unfold handOver Fabric.queued
  rw [State.onFabric_fabric]
  split <;> rfl

section orders
variable {i : Fin 32} {st : StationState} {s : State} {p : Fin 24} {o : Order}

theorem emitOrder_up (hp : s.stationPort i = some p) (ho : orderFor st = some o) (hu : s.fabric.up = true) :
    emitOrder i st s = handOver (.cellOut p i o ((s.stations.get i).orderSeq + 1))
      (s.onStation i fun x => { x with orderSeq := (s.stations.get i).orderSeq + 1 }) := by
  simp [emitOrder, hp, ho, hu]

theorem emitOrder_down (hu : s.fabric.up = false) : emitOrder i st s = s := by
  unfold emitOrder
  split
  · rw [if_neg (by simp [hu])]
  · rfl

theorem emitOrder_absent : emitOrder i .absent s = s := rfl

theorem emitOrder_hears (mt : Int) : Hears [] mt s (emitOrder i st s) :=
  (emitOrder_frame i st s).hears mt (by simp)

theorem emitOrder_fabric (hp : s.stationPort i = some p) (ho : orderFor st = some o) :
    (emitOrder i st s).fabric = s.fabric.ordered p i o ((s.stations.get i).orderSeq + 1) := by
  unfold Fabric.ordered
  cases hu : s.fabric.up with
  | false => rw [emitOrder_down hu]; rfl
  | true => rw [emitOrder_up hp ho hu, handOver_fabric]; rfl

theorem emitOrder_station (hp : s.stationPort i = some p) (ho : orderFor st = some o) :
    (emitOrder i st s).stations.get i =
      { s.stations.get i with orderSeq := s.fabric.nextSeq (s.stations.get i).orderSeq } := by
  unfold Fabric.nextSeq
  cases hu : s.fabric.up with
  | false => rw [emitOrder_down hu]; rfl
  | true => rw [emitOrder_up hp ho hu, (handOver_frame _ _).stations, onStation_get_self]; rfl

theorem emitOrder_others (i : Fin 32) (st : StationState) (s : State) :
    OthersSame i s.stations (emitOrder i st s).stations := by
  unfold emitOrder
  split
  · split
    · exact onStation_others i _ s
    · exact fun _ _ => rfl
  · exact fun _ _ => rfl

end orders

/-! ### STATION-RUN and STATION-HOLD (R29, R34, R35) -/

section turns
variable {i : Fin 32} {st : StationState} {b : Bool} {s : State} {x : StationConf} {o : Order}

theorem setStation_get_self (hc : (s.stations.get i).conf = some x) :
    (setStation i st s).stations.get i =
      { s.stations.get i with conf := some { x with state := st }, lastChange := some s.now } := by
  rw [setStation, onStation_get_self, hc]
  rfl

theorem stationPort_of_conf (hc : (s.stations.get i).conf = some x) : s.stationPort i = some x.port := by
  rw [State.stationPort, hc]
  rfl

theorem stationState_of_conf (hc : (s.stations.get i).conf = some x) : s.stationState i = some x.state := by
  rw [State.stationState, hc]
  rfl

theorem turnStation_hears : Hears [⟨noticeStation i st, b⟩] s.now s (turnStation i st b s) := by
  have hset : Hears [] s.now s (setStation i st s) := (setStation_frame i st s).hears _ (by simp)
  exact (hset.trans (post_hears _ b _)).trans (emitOrder_hears _)

theorem turnStation_others : OthersSame i s.stations (turnStation i st b s).stations :=
  (onStation_others i _ s).trans (emitOrder_others i st (post _ b (setStation i st s)))

theorem turnStation_station (hc : (s.stations.get i).conf = some x) (ho : orderFor st = some o) :
    (turnStation i st b s).stations.get i =
      { conf := some { x with state := st }
        orderSeq := s.fabric.nextSeq (s.stations.get i).orderSeq
        lastChange := some s.now } := by
  have hp : (post (noticeStation i st) b (setStation i st s)).stationPort i = some x.port := by
    rw [(post_frame _ b _).stationPort, setStation_stationPort, stationPort_of_conf hc]
  rw [turnStation, emitOrder_station hp ho, (post_frame _ b _).stations, setStation_get_self hc]
  rfl

theorem turnStation_fabric (hc : (s.stations.get i).conf = some x) (ho : orderFor st = some o) :
    (turnStation i st b s).fabric = s.fabric.ordered x.port i o ((s.stations.get i).orderSeq + 1) := by
  have hp : (post (noticeStation i st) b (setStation i st s)).stationPort i = some x.port := by
    rw [(post_frame _ b _).stationPort, setStation_stationPort, stationPort_of_conf hc]
  rw [turnStation, emitOrder_fabric hp ho, (post_frame _ b _).stations, setStation_get_self hc]
  rfl

/-- A turn to RUN or HELD tells no other block. -/
theorem turnStation_frame_narrow :
    SameBut ([.stations, .fabric] ++ allLinks) s (turnStation i st b s) :=
  (((setStation_frame i st s).mono (by decide)).trans ((post_frame _ b _).mono (by decide))).trans
    ((emitOrder_frame i st _).mono (by decide))

theorem moveStation_eq_turn (h : st = .run ∨ st = .held) :
    moveStation i st s = turnStation i st (s.coveredAt .observe (s.stationPort i)) s := by
  obtain rfl | rfl := h <;> rfl

/-- A request that moves a station to RUN or HELD (R29, R30). -/
theorem request_moves {c : Instr} {l : Link} {tag : Byte} {r : Request} {own : State → Answer}
    (hx : exec c s = .next (request l tag r own s)) (h : Taken l r s) (hp : placedAtOnce r = false)
    (hst : st = .run ∨ st = .held) (ho : orderFor st = some o) (hc : (s.stations.get i).conf = some x)
    (hown : own (held l tag r s) = done [] (moveStation i st (held l tag r s))) :
    Completes c s fun t =>
      Replied l tag r .done [] [byPort s (some x.port) (noticeStation i st)] s t ∧
      SameBut ([.stations, .fabric] ++ allLinks) s t ∧ OthersSame i s.stations t.stations ∧
      t.stations.get i =
        { conf := some { x with state := st }
          orderSeq := s.fabric.nextSeq (s.stations.get i).orderSeq
          lastChange := some s.now } ∧
      t.fabric = s.fabric.ordered x.port i o ((s.stations.get i).orderSeq + 1) := by
  have hch : ((held l tag r s).stations.get i).conf = some x := by rw [held_stations, hc]
  rw [moveStation_eq_turn hst, stationPort_of_conf hch] at hown
  have hheard : Hears [byPort s (some x.port) (noticeStation i st)] s.now (held l tag r s)
      (turnStation i st ((held l tag r s).coveredAt .observe (some x.port)) (held l tag r s)) := by
    have hturn := turnStation_hears (i := i) (st := st) (b := (held l tag r s).coveredAt .observe (some x.port))
      (s := held l tag r s)
    rw [held_now] at hturn
    exact held_byPort l tag r s ▸ hturn
  obtain ⟨t, ht, hreply, hown', hframe⟩ := request_completes hx h hp hown hheard
  refine ⟨t, ht, hreply, hframe _ turnStation_frame_narrow, ?_, ?_, ?_⟩
  · rw [hown'.stations (by simp), ← held_stations l tag r s]
    exact turnStation_others
  · rw [hown'.stations (by simp), turnStation_station hch ho, held_fabric, held_stations, held_now]
  · rw [hown'.fabric (by simp), turnStation_fabric hch ho, held_fabric, held_stations]

end turns

section
variable {b : Byte} {i : Fin 32} {s : State}

theorem ownStationRun_held (hb : b.toNat = i.1) (hs : s.stationState i = some .held) :
    ownStationRun b s = done [] (moveStation i .run s) := by
  rw [ownStationRun, number_eq_some.2 hb]
  exact if_pos hs

theorem ownStationRun_refused (hb : b.toNat = i.1) (hs : s.stationState i ≠ some .held) :
    ownStationRun b s = refuse .refusedState s := by
  rw [ownStationRun, number_eq_some.2 hb]
  exact if_neg hs

theorem ownStationRun_range (hb : 32 ≤ b.toNat) : ownStationRun b s = refuse .refusedRange s := by
  rw [ownStationRun, number_eq_none.2 hb]

theorem ownStationHold_range (hb : 32 ≤ b.toNat) : ownStationHold b s = refuse .refusedRange s := by
  rw [ownStationHold, number_eq_none.2 hb]

/-- STATION-HOLD by the state of the station it names (R35). -/
theorem ownStationHold_named (hb : b.toNat = i.1) :
    ownStationHold b s =
      if s.stationState i = some .run then done [] (moveStation i .held s)
      else if s.stationState i = some .held ∨ s.stationState i = some .absent then done [] s
      else refuse .refusedState s := by
  rw [ownStationHold, number_eq_some.2 hb]
  dsimp only
  cases s.stationState i with
  | none => rfl
  | some st => cases st <;> rfl

end

/-- Settles O20: STATION-RUN and STATION-HOLD by the state of the station they name; the moves are the turn to RUN and
the turn to HELD, which no other block hears of. -/
theorem runAndHoldOrderTheStation : Obligations.RunAndHoldOrderTheStation := by
  unfold Obligations.RunAndHoldOrderTheStation
  intro l tag b s hrun
  have hhold : Taken l (.stationHold b) s := hrun
  have hstate : ∀ r, (held l tag r s).stationState = s.stationState := fun r => held_stationState l tag r s
  refine ⟨fun hb => ⟨?_, ?_⟩, fun i hb => ⟨fun x hc => ?_, fun hc => ⟨?_, ?_⟩⟩⟩
  · exact request_onlyReplies rfl hrun rfl (ownStationRun_range hb)
  · exact request_onlyReplies rfl hhold rfl (ownStationHold_range hb)
  · have hx := stationState_of_conf hc
    refine ⟨fun hs => ?_, fun hs => ?_, fun hs => ?_, fun hs => ?_, fun hs => ?_⟩
    · exact request_moves rfl hrun rfl (.inl rfl) rfl hc (ownStationRun_held hb (by rw [hstate, hx, hs]))
    · refine request_onlyReplies rfl hrun rfl (ownStationRun_refused hb ?_)
      rw [hstate, hx]
      exact fun he => hs (Option.some.inj he)
    · refine request_moves rfl hhold rfl (.inr rfl) rfl hc ?_
      rw [ownStationHold_named hb, hstate, hx, hs]
      rfl
    · refine request_onlyReplies rfl hhold rfl ?_
      rw [ownStationHold_named hb, hstate, hx]
      obtain hs | hs := hs <;> rw [hs] <;> rfl
    · refine request_onlyReplies rfl hhold rfl ?_
      rw [ownStationHold_named hb, hstate, hx, hs]
      rfl
  · have hx : s.stationState i = none := by rw [State.stationState, hc]; rfl
    exact request_onlyReplies rfl hrun rfl (ownStationRun_refused hb (by simp [hx]))
  · have hx : s.stationState i = none := by rw [State.stationState, hc]; rfl
    refine request_onlyReplies rfl hhold rfl ?_
    rw [ownStationHold_named hb, hstate, hx]
    rfl

/-! ### STATION-REMOVE (R33, R59, R142) -/

theorem State.namedCamera_iff {s : State} {i : Fin 32} :
    s.namedCamera i = true ↔ ∃ k, (s.points.get k).enabled = true ∧ (s.points.get k).camera = i := by
  rw [State.namedCamera, Tbl.any_xs]
  simp

/-- A station leaves the need set of every FEED output (R142). -/
theorem leaveNeeds_output (i : Fin 32) (s : State) (o : Fin 8) :
    (leaveNeeds i s).outputs.get o = { s.outputs.get o with
      needs := if (s.outputs.get o).mode = .feed then (s.outputs.get o).needs.filter (· != i)
        else (s.outputs.get o).needs } := by
  rw [leaveNeeds, Tbl.get_map]
  split <;> rfl

/-- A stream that names the station keeps its station field where the port kept is its egress port (R59). -/
theorem clearStationField_stream (i : Fin 32) (keep : Option (Fin 24)) (s : State) (k : Fin 128) :
    (clearStationField i keep s).streams.get k = { s.streams.get k with
      station := if (s.streams.get k).station = some i ∧ (keep = none ∨ (s.streams.get k).egress ≠ keep) then none
        else (s.streams.get k).station } := by
  rw [clearStationField, Tbl.get_map]
  split <;> rfl

section remove
variable (i : Fin 32) (s : State)

theorem remove_hears : Hears [byPort s (s.stationPort i) (noticeRemoved i)] s.now s (remove i s) := by
  have hrest : SameBut [.stations, .streams, .outputs] (postStation (noticeRemoved i) i s) (remove i s) :=
    (((State.onStation_frame i _ _).mono (by decide)).trans ((clearStationField_frame i none _).mono (by decide))).trans
      ((leaveNeeds_frame i _).mono (by decide))
  exact (postStation_hears _ i s).trans (hrest.hears _ (by simp))

theorem remove_stations :
    (remove i s).stations = s.stations.upd i fun _ => { conf := none, orderSeq := 0, lastChange := some s.now } := by
  rw [remove, (leaveNeeds_frame _ _).stations, (clearStationField_frame _ _ _).stations]
  rfl

theorem remove_stream (k : Fin 128) :
    (remove i s).streams.get k = { s.streams.get k with
      station := if (s.streams.get k).station = some i then none else (s.streams.get k).station } := by
  rw [remove, (leaveNeeds_frame _ _).streams, clearStationField_stream]
  simp

theorem remove_output (o : Fin 8) :
    (remove i s).outputs.get o = { s.outputs.get o with
      needs := if (s.outputs.get o).mode = .feed then (s.outputs.get o).needs.filter (· != i)
        else (s.outputs.get o).needs } := by
  rw [remove, leaveNeeds_output, (clearStationField_frame _ _ _).outputs]
  rfl

end remove

/-- STATION-REMOVE by the state of the station it names (R33). -/
theorem ownStationRemove_named {b : Byte} {i : Fin 32} {s : State} (hb : b.toNat = i.1) :
    ownStationRemove b s =
      if s.stationState i = some .absent ∨ s.stationState i = some .held then
        if s.namedCamera i then refuse .refusedConflict s else done [] (remove i s)
      else refuse .refusedState s := by
  rw [ownStationRemove, number_eq_some.2 hb]
  dsimp only
  cases s.stationState i with
  | none => rfl
  | some st => cases st <;> rfl

theorem ownStationRemove_range {b : Byte} {s : State} (hb : 32 ≤ b.toNat) :
    ownStationRemove b s = refuse .refusedRange s := by
  rw [ownStationRemove, number_eq_none.2 hb]

/-- Settles O19: STATION-REMOVE by the state of the station and the points that name it, and field by field what
`remove` leaves. -/
theorem stationRemoveClears : Obligations.StationRemoveClears := by
  unfold Obligations.StationRemoveClears
  intro l tag b s ht
  refine ⟨fun hb => request_onlyReplies rfl ht rfl (ownStationRemove_range hb), fun i hb => ?_⟩
  have hown := ownStationRemove_named (s := held l tag (.stationRemove b) s) hb
  have hpoints : (held l tag (.stationRemove b) s).namedCamera i = s.namedCamera i := by
    rw [State.namedCamera, held_points]
    rfl
  rw [held_stationState, hpoints] at hown
  refine ⟨fun ha hh => ?_, fun hs => ⟨fun hn => ?_, fun hn => ?_⟩⟩
  · rw [if_neg (not_or.2 ⟨ha, hh⟩)] at hown
    exact request_onlyReplies rfl ht rfl hown
  · rw [if_pos hs, if_pos (State.namedCamera_iff.2 hn)] at hown
    exact request_onlyReplies rfl ht rfl hown
  · have hfree : ¬ s.namedCamera i = true := fun h =>
      let ⟨k, he, hc⟩ := State.namedCamera_iff.1 h
      hn k he hc
    rw [if_pos hs, if_neg hfree] at hown
    have hheard := remove_hears i (held l tag (.stationRemove b) s)
    rw [held_byPort, held_stationPort, held_now] at hheard
    obtain ⟨t, hx, hreply, hrest, hframe⟩ := request_completes (c := .stationRemove l tag b) rfl ht rfl hown hheard
    have hstations := (hrest.stations (by simp)).trans (remove_stations i _)
    rw [held_stations, held_now] at hstations
    refine ⟨t, hx, hreply, hframe _ ((remove_frame i _).mono (by decide)), fun j hj => ?_, ?_, fun k => ?_, fun o => ?_⟩
    · rw [hstations, Tbl.get_upd_of_ne _ _ hj]
    · rw [hstations, Tbl.get_upd_self]
    · rw [hrest.streams (by simp), remove_stream, held_streams]
    · rw [hrest.outputs (by simp), remove_output, held_outputs]

end Sys2Proof.Machine
end

section
/-! STATION-SET: its checks, and the record it leaves. -/

namespace Sys2Proof.Machine

/-! ### The checks (R31) -/

theorem roleOf_code (r : Role) : roleOf r.code = some r := by cases r <;> rfl

theorem roleOf_eq_none {b : Byte} (h : 3 ≤ b.toNat) : roleOf b = none := by
  have h0 : b ≠ 0 := by bv_omega
  have h1 : b ≠ 1 := by bv_omega
  have h2 : b ≠ 2 := by bv_omega
  rw [roleOf, if_neg h0, if_neg h1, if_neg h2]

theorem headsFit_eq_false_iff {r : Role} {heads : Byte} :
    headsFit r heads = false ↔
      r = .filler ∧ ¬ (1 ≤ heads.toNat ∧ heads.toNat ≤ 16) ∨ r ≠ .filler ∧ heads ≠ 0 := by
  cases r <;> simp [headsFit]

/-- What a STATION-SET whose fields lie in their ranges is answered with: the checks of R31 in their order. -/
def State.setStatus (s : State) (i : Fin 32) (r : Role) (p : Fin 24) (heads : Byte) : Status :=
  if headsFit r heads = false then .refusedRange
  else if s.stationState i = some .run ∨ s.stationState i = some .service then .refusedState
  else if (s.stations.get i).conf.map (·.role) = some .camera ∧ s.namedCamera i = true ∧ r ≠ .camera then
    .refusedConflict
  else if s.portTaken i p = true then .refusedRange
  else if s.grants.slots.xs.any (·.reserves p) = true then .refusedConflict
  else .done

theorem held_setStatus (l : Link) (tag : Byte) (q : Request) (s : State) :
    (held l tag q s).setStatus = s.setStatus := by cases l <;> rfl

/-- A refusal before an answer that is a refusal or `a`. -/
theorem refuse_or {c : Prop} [Decidable c] {why rest : Status} {a b : Answer} {s : State} (hw : why ≠ .done)
    (h : b = if rest = .done then a else refuse rest s) :
    (if c then refuse why s else b) =
      if (if c then why else rest) = .done then a else refuse (if c then why else rest) s := by
  by_cases hc : c
  · simp only [if_pos hc, if_neg hw]
  · simp only [if_neg hc, h]

theorem ownStationSet_eq (i : Fin 32) (r : Role) (p : Fin 24) (heads : Byte) (s : State) :
    ownStationSet (BitVec.ofNat 8 i.1) r.code (BitVec.ofNat 8 p.1) heads s =
      if s.setStatus i r p heads = .done then done [] (configure i r p heads.toNat s)
      else refuse (s.setStatus i r p heads) s := by
  rw [ownStationSet, number_ofNat (by decide), number_ofNat (by decide), roleOf_code]
  exact refuse_or (by decide) <| refuse_or (by decide) <| refuse_or (by decide) <| refuse_or (by decide) <|
    refuse_or (by decide) rfl

theorem ownStationSet_range {a b d : Byte} (h : 32 ≤ a.toNat ∨ 3 ≤ b.toNat ∨ 24 ≤ d.toNat) (heads : Byte)
    (s : State) : ownStationSet a b d heads s = refuse .refusedRange s := by
  unfold ownStationSet
  split
  next hi hr hp =>
    obtain h | h | h := h
    · rw [number_eq_none.2 h] at hi; cases hi
    · rw [roleOf_eq_none h] at hr; cases hr
    · rw [number_eq_none.2 h] at hp; cases hp
  · rfl

/-! ### A record written anew (R30, R32) -/

/-- Station record `i` written by `f`, with the post of R32 and, on a port whose link is up, the order to hold. -/
def State.placed (s : State) (i : Fin 32) (p : Fin 24) (f : Station → Station) : State :=
  emitOrder i (s.stateByLink p) (postConfigured i (s.onStation i f))

section placed
variable {i : Fin 32} {p : Fin 24} {f : Station → Station} {s : State}

theorem configured_hears (hf : (f (s.stations.get i)).place = some p) :
    Hears [byPort s (some p) (noticeConfigured i)] s.now s (postConfigured i (s.onStation i f)) := by
  have hpost := postStation_hears (noticeConfigured i) i (s.onStation i f)
  rw [onStation_stationPort, Function.update_self, hf] at hpost
  exact ((State.onStation_frame i f s).hears s.now (by simp)).trans hpost

theorem configured_stationPort (hf : (f (s.stations.get i)).place = some p) :
    (postConfigured i (s.onStation i f)).stationPort i = some p := by
  rw [postConfigured, (postStation_frame _ _ _).stationPort, onStation_stationPort, Function.update_self, hf]

theorem configured_get : (postConfigured i (s.onStation i f)).stations.get i = f (s.stations.get i) := by
  rw [postConfigured, (postStation_frame _ _ _).stations, onStation_get_self]

theorem configured_frame : SameBut ([.stations] ++ allLinks) s (postConfigured i (s.onStation i f)) :=
  ((State.onStation_frame i f s).mono (by decide)).trans ((postStation_frame _ i _).mono (by decide))

theorem placed_hears (hf : (f (s.stations.get i)).place = some p) :
    Hears [byPort s (some p) (noticeConfigured i)] s.now s (s.placed i p f) :=
  (configured_hears hf).trans (emitOrder_hears _)

theorem placed_frame : SameBut ([.stations, .fabric] ++ allLinks) s (s.placed i p f) :=
  (configured_frame.mono (by decide)).trans ((emitOrder_frame i _ _).mono (by decide))

theorem placed_others : OthersSame i s.stations (s.placed i p f).stations :=
  (onStation_others i f s).trans (emitOrder_others i _ (postConfigured i (s.onStation i f)))

theorem placed_station (hf : (f (s.stations.get i)).place = some p) :
    (s.placed i p f).stations.get i = { f (s.stations.get i) with
      orderSeq := if (s.ports.get p).up then s.fabric.nextSeq (f (s.stations.get i)).orderSeq
        else (f (s.stations.get i)).orderSeq } := by
  unfold State.placed State.stateByLink
  split
  · rw [emitOrder_station (configured_stationPort hf) rfl, configured_get]
    rfl
  · rw [emitOrder_absent, configured_get]

theorem placed_fabric (hf : (f (s.stations.get i)).place = some p) :
    (s.placed i p f).fabric =
      if (s.ports.get p).up then s.fabric.ordered p i .hold ((f (s.stations.get i)).orderSeq + 1) else s.fabric := by
  unfold State.placed State.stateByLink
  split
  · rw [emitOrder_fabric (configured_stationPort hf) rfl, configured_get]
    rfl
  · rfl

end placed

/-! ### The record (R32) -/

section configure
variable {i : Fin 32} {r : Role} {p : Fin 24} {n : Nat} {s : State} {x : StationConf}

theorem configure_new (h : (s.stations.get i).conf = none) :
    configure i r p n s = s.placed i p fun _ =>
      { conf := some { role := r, port := p, heads := n, state := s.stateByLink p }, orderSeq := 0
        lastChange := some s.now } := by
  rw [configure, h]
  rfl

theorem configure_same (h : (s.stations.get i).conf = some x) (hp : x.port = p) :
    configure i r p n s =
      postConfigured i (s.onStation i fun y => { y with conf := some { x with role := r, heads := n } }) := by
  rw [configure, h]
  exact if_pos hp

/-- A moved record, as it is written. -/
def State.movedTo (s : State) (r : Role) (p : Fin 24) (n : Nat) (y : Station) : Station :=
  { y with
    conf := some { role := r, port := p, heads := n, state := s.stateByLink p }
    lastChange := some s.now }

theorem configure_moved (h : (s.stations.get i).conf = some x) (hp : x.port ≠ p) :
    configure i r p n s =
      if x.state = .held ∧ s.stateByLink p = .absent then
        leaveNeeds i (clearStationField i (some p) (s.placed i p (s.movedTo r p n)))
      else clearStationField i (some p) (s.placed i p (s.movedTo r p n)) := by
  rw [configure, h]
  exact if_neg hp

theorem stateByLink_eq_absent_iff : s.stateByLink p = .absent ↔ (s.ports.get p).up = false := by
  unfold State.stateByLink
  split <;> simp_all

/-- After the record of a moved station is written, R59 and R142 change its streams and outputs alone. -/
theorem configure_moved_frame (h : (s.stations.get i).conf = some x) (hp : x.port ≠ p) :
    SameBut [.streams, .outputs] (s.placed i p (s.movedTo r p n)) (configure i r p n s) := by
  have hclear := (clearStationField_frame i (some p) (s.placed i p (s.movedTo r p n))).mono
    (qs := [.streams, .outputs]) (by decide)
  rw [configure_moved h hp]
  exact .ite _ (hclear.trans ((leaveNeeds_frame i _).mono (by decide))) hclear

theorem configure_moved_streams (h : (s.stations.get i).conf = some x) (hp : x.port ≠ p) :
    (configure i r p n s).streams = (clearStationField i (some p) (s.placed i p (s.movedTo r p n))).streams := by
  rw [configure_moved h hp]
  split
  · exact (leaveNeeds_frame i _).streams
  · rfl

theorem configure_moved_output (h : (s.stations.get i).conf = some x) (hp : x.port ≠ p) (o : Fin 8) :
    (configure i r p n s).outputs.get o = { s.outputs.get o with
      needs := if x.state = .held ∧ (s.ports.get p).up = false ∧ (s.outputs.get o).mode = .feed then
          (s.outputs.get o).needs.filter (· != i)
        else (s.outputs.get o).needs } := by
  have hsame : (clearStationField i (some p) (s.placed i p (s.movedTo r p n))).outputs = s.outputs :=
    (clearStationField_frame _ _ _).outputs.trans placed_frame.outputs
  rw [configure_moved h hp]
  by_cases hl : x.state = .held ∧ (s.ports.get p).up = false
  · obtain ⟨hheld, hdown⟩ := hl
    rw [if_pos ⟨hheld, stateByLink_eq_absent_iff.2 hdown⟩, leaveNeeds_output, hsame]
    simp only [hheld, hdown, true_and]
  · rw [if_neg fun hc => hl ⟨hc.1, stateByLink_eq_absent_iff.1 hc.2⟩, hsame, if_neg fun hc => hl ⟨hc.1, hc.2.1⟩]

theorem configure_hears :
    Hears [byPort s (some p) (noticeConfigured i)] s.now s (configure i r p n s) := by
  cases h : (s.stations.get i).conf with
  | none =>
    rw [configure_new h]
    exact placed_hears rfl
  | some x =>
    by_cases hp : x.port = p
    · rw [configure_same h hp]
      exact configured_hears (hp ▸ rfl)
    · exact (placed_hears rfl).trans ((configure_moved_frame h hp).hears _ (by simp))

theorem configure_others : OthersSame i s.stations (configure i r p n s).stations := by
  cases h : (s.stations.get i).conf with
  | none =>
    rw [configure_new h]
    exact placed_others
  | some x =>
    by_cases hp : x.port = p
    · rw [configure_same h hp]
      exact onStation_others i _ s
    · rw [(configure_moved_frame h hp).stations]
      exact placed_others

end configure

/-! ### The statement -/

/-- Settles O18: the checks of R31 in their order, then the record that is new, kept on its port, or moved. -/
theorem stationSetConfigures : Obligations.StationSetConfigures := by
  unfold Obligations.StationSetConfigures
  intro l tag i r p heads s q c old up answer ht
  have hreserved : (∃ k, (s.grants.slots.get k).reserves p = true) ↔ s.grants.slots.xs.any (·.reserves p) = true :=
    (Tbl.any_xs s.grants.slots (·.reserves p)).symm
  have hanswer : answer = s.setStatus i r p heads :=
    if_congr headsFit_eq_false_iff.symm rfl <| if_congr Iff.rfl rfl <|
      if_congr (by rw [State.namedCamera_iff]; tauto) rfl <| if_congr portTaken_iff.symm rfl <|
        if_congr hreserved rfl rfl
  have hown := ownStationSet_eq i r p heads (held l tag q s)
  rw [held_setStatus, ← hanswer] at hown
  refine ⟨fun a b d h => request_onlyReplies rfl ht rfl (ownStationSet_range h heads _), fun hn => ?_, fun hd => ?_⟩
  · rw [if_neg hn] at hown
    exact request_onlyReplies rfl ht rfl hown
  rw [if_pos hd] at hown
  have hheard := configure_hears (i := i) (r := r) (p := p) (n := heads.toNat) (s := held l tag q s)
  rw [held_byPort, held_now] at hheard
  obtain ⟨t, hx, hreply, hrest, hframe⟩ := request_completes (c := c) rfl ht rfl hown hheard
  refine ⟨t, hx, hreply, ?_, fun hc => ?_, fun x hc hp => ?_, fun x hc hp => ?_⟩
  · rw [hrest.stations (by simp), ← held_stations l tag q s]
    exact configure_others
  · have hch : ((held l tag q s).stations.get i).conf = none := by rw [held_stations, hc]
    rw [configure_new hch] at hrest hframe
    refine ⟨hframe _ placed_frame, ?_, ?_⟩
    · rw [hrest.stations (by simp), placed_station rfl]
      simp only [held_ports, held_fabric, held_now, held_stateByLink]
      rfl
    · rw [hrest.fabric (by simp), placed_fabric rfl, held_ports, held_fabric]
      rfl
  · have hch : ((held l tag q s).stations.get i).conf = some x := by rw [held_stations, hc]
    rw [configure_same hch hp] at hrest hframe
    refine ⟨hframe [.stations] configured_frame, ?_⟩
    rw [hrest.stations (by simp), configured_get, held_stations]
  · have hch : ((held l tag q s).stations.get i).conf = some x := by rw [held_stations, hc]
    have hmoved := configure_moved_frame (r := r) (n := heads.toNat) hch hp
    refine ⟨hframe _ ((placed_frame.mono (by decide)).trans (hmoved.mono (by decide))), ?_, ?_, fun k => ?_,
      fun o => ?_⟩
    · rw [hrest.stations (by simp), hmoved.stations, placed_station rfl, held_ports, held_fabric, held_stations]
      simp only [State.movedTo, held_now, held_stateByLink]
      rfl
    · rw [hrest.fabric (by simp), hmoved.fabric, placed_fabric rfl, held_ports, held_fabric, held_stations]
      rfl
    · rw [hrest.streams (by simp), configure_moved_streams hch hp, clearStationField_stream, placed_frame.streams,
        held_streams]
      simp
    · rw [hrest.outputs (by simp), configure_moved_output hch hp, held_outputs, held_ports]

end Sys2Proof.Machine
end

section
/-! Discards: what they leave of the store, the lane, the counters and the record of their stream, and what is heard. -/

namespace Sys2Proof.Machine

-- One proof after the other: each waiting thread would hold its own stack.
set_option Elab.async false

/-! ### What a frame leaves of coverage and ports -/

theorem SameBut.coveredAt {ps : List Part} {s t : State} (h : SameBut ps s t)
    (hp : Part.grants ∉ ps := by decide) : t.coveredAt = s.coveredAt := by
  funext lvl p
  cases p with
  | none => rfl
  | some p => simp only [State.coveredAt, State.covered, h.grants hp]

theorem SameBut.byPort {ps : List Part} {s t : State} (h : SameBut ps s t)
    (hp : Part.grants ∉ ps := by decide) : byPort t = byPort s := by
  funext p n
  rw [Machine.byPort, h.coveredAt hp]
  rfl

/-- The port by which a stream's notices are routed reads its state and its egress port. -/
theorem streamPort_congr {s t : State} {i : Fin 128} (hs : (t.streams.get i).state = (s.streams.get i).state)
    (he : (t.streams.get i).egress = (s.streams.get i).egress) : t.streamPort i = s.streamPort i := by
  unfold State.streamPort Stream.live
  rw [hs, he]

/-! ### Records of streams -/

@[simp] theorem onStream_get_self (i : Fin 128) (f : Stream → Stream) (s : State) :
    (s.onStream i f).streams.get i = f (s.streams.get i) := Tbl.get_upd_self ..

theorem onStream_others (i : Fin 128) (f : Stream → Stream) (s : State) :
    OthersSame i s.streams (s.onStream i f).streams := fun _ hj => Tbl.get_upd_of_ne _ f hj

/-! ### The words of the statements -/

theorem countedTimes_append (why : DiscardReason) (m n : Nat) (t : Tbl Nat 13) :
    countedTimes why (m + n) t = countedTimes why n (countedTimes why m t) := by
  rw [Nat.add_comm]
  exact Function.iterate_add_apply ..

theorem Fabric.discards_append (why : DiscardReason) (ds es : List Descriptor) (f : Fabric) :
    f.discards why (ds ++ es) = (f.discards why ds).discards why es := List.foldl_append ..

theorem without_nil (store : List Descriptor) : without [] store = store := List.filter_eq_self.2 fun _ _ => rfl

theorem without_append (ds es store : List Descriptor) :
    without (ds ++ es) store = without es (without ds store) := by
  unfold without
  rw [List.filter_filter]
  refine List.filter_congr fun x _ => ?_
  rw [List.any_append, Bool.not_or, Bool.and_comm]

theorem without_singleton (d : Descriptor) (store : List Descriptor) :
    without [d] store = store.filter (·.handle != d.handle) := by
  refine List.filter_congr fun x _ => ?_
  rw [List.any_cons, List.any_nil, Bool.or_false, Bool.beq_comm]
  rfl

/-! ### Discards of one stream's descriptors (R55) -/

/-- From `s` to `t` the descriptors `ds` of stream `i` are discarded with `why` (R55, effects 1 to 5). -/
structure Discards (i : Fin 128) (why : DiscardReason) (ds : List Descriptor) (s t : State) : Prop where
  frame : SameBut discardParts s t
  effects : Discarded why ds s t
  others : OthersSame i s.streams t.streams
  record : t.streams.get i = { s.streams.get i with discards := countedTimes why ds.length (s.streams.get i).discards }
  heard : Hears (heardDiscards why ds.length i s) s.now s t

section discards
variable {i : Fin 128} {why : DiscardReason} {ds es : List Descriptor} {s t u : State}

theorem Discards.streamPort (h : Discards i why ds s t) : t.streamPort i = s.streamPort i :=
  streamPort_congr (by rw [h.record]) (by rw [h.record])

theorem Discards.nil (i : Fin 128) (why : DiscardReason) (s : State) : Discards i why [] s s where
  frame := .refl _ s
  effects := ⟨(without_nil _).symm, rfl, rfl⟩
  others _ _ := rfl
  record := rfl
  heard := .nil _ s

theorem Discards.trans (h : Discards i why ds s t) (k : Discards i why es t u) : Discards i why (ds ++ es) s u where
  frame := h.frame.trans k.frame
  effects := by
    obtain ⟨hs, hf, hc⟩ := h.effects
    obtain ⟨ks, kf, kc⟩ := k.effects
    refine ⟨?_, ?_, ?_⟩
    · rw [ks, hs, without_append]
    · rw [kf, hf, Fabric.discards_append]
    · rw [kc, hc, List.length_append, countedTimes_append]
  others := h.others.trans k.others
  record := by rw [k.record, h.record, List.length_append, countedTimes_append]
  heard := by
    have hk := k.heard
    unfold heardDiscards at hk
    rw [h.streamPort, h.frame.byPort, h.frame.now] at hk
    rw [heardDiscards, List.length_append, List.replicate_add]
    exact h.heard.trans hk

theorem discardPending_discards (why : DiscardReason) (d : Descriptor) (s : State) :
    Discards d.stream why [d] s (discardPending why d s) where
  frame := discardPending_frame why d s
  effects := ⟨(without_singleton d s.store).symm, handOver_fabric _ s, rfl⟩
  others := onStream_others d.stream _ _
  record := onStream_get_self d.stream _ _
  heard := by
    have hrest : SameBut [.streams, .store, .storeDiscards, .fabric] s
        (countStream why d.stream (countStoreWide why (freeSlot d.handle (handOver (.discard d.handle why) s)))) :=
      ((((handOver_frame _ s).mono (by decide)).trans ((freeSlot_frame _ _).mono (by decide))).trans
        ((countStoreWide_frame why _).mono (by decide))).trans ((countStream_frame why _ _).mono (by decide))
    have hpost := postAt_hears (noticeDiscards d.stream.1 why) (s.streamPort d.stream) (countStream why d.stream
      (countStoreWide why (freeSlot d.handle (handOver (.discard d.handle why) s))))
    rw [hrest.byPort, hrest.now] at hpost
    exact (hrest.hears s.now (by simp)).trans hpost

theorem discardList_discards (why : DiscardReason) (h : ∀ d ∈ ds, d.stream = i) (s : State) :
    Discards i why ds s (discardList why ds s) := by
  induction ds generalizing s with
  | nil => exact .nil i why s
  | cons d ds ih =>
    have hd : d.stream = i := h d (List.mem_cons_self ..)
    exact (hd ▸ discardPending_discards why d s).trans (ih (fun e he => h e (List.mem_cons_of_mem d he)) _)

theorem mem_pendingList {d : Descriptor} : d ∈ s.pendingList i ↔ d ∈ s.store ∧ d.stream = i ∧ d.state = .pending := by
  simp [State.pendingList, Descriptor.waits]

theorem discardAll_discards (why : DiscardReason) (i : Fin 128) (s : State) :
    Discards i why (s.pendingList i) s (discardAll why i s) :=
  discardList_discards why (fun _ hd => (mem_pendingList.1 hd).2.1) s

end discards

end Sys2Proof.Machine
end

section
/-! The invariants of the store, the streams and the lane, record by record, and the changes that keep them. -/

namespace Sys2Proof.Machine

-- One proof after the other: each waiting thread would hold its own stack.
set_option Elab.async false

/-! ### The slots of a stream (R41, R44, R50) -/

/-- The descriptors of stream `i`, PENDING and WIRE-HELD. -/
def State.slotsOf (s : State) (i : Fin 128) : List Descriptor := s.store.filter (·.stream == i)

theorem holdsNone_iff {s : State} {i : Fin 128} : s.holdsNone i = true ↔ s.slotsOf i = [] := by
  simp [State.holdsNone, State.slotsOf, List.filter_eq_nil_iff]

theorem holdsNone_eq_false_iff {s : State} {i : Fin 128} : s.holdsNone i = false ↔ s.slotsOf i ≠ [] := by
  rw [← Bool.not_eq_true, holdsNone_iff]

theorem pendingList_eq (s : State) (i : Fin 128) : s.pendingList i = (s.slotsOf i).filter (·.state == .pending) := by
  rw [State.slotsOf, List.filter_filter]
  exact List.filter_congr fun d _ => Bool.and_comm _ _

theorem SameBut.slotsOf {ps : List Part} {s t : State} (h : SameBut ps s t) (hp : Part.store ∉ ps := by decide) :
    t.slotsOf = s.slotsOf := by
  funext i
  rw [State.slotsOf, h.store hp]
  rfl

/-- R41, R54: a FREE stream has no slot, one that is not FREE has a cap of 1 or more, and no more wait than the cap. -/
def Stream.Bounded (ds : List Descriptor) (x : Stream) : Prop :=
  (x.state = .free → ds = []) ∧ (x.state ≠ .free → 1 ≤ x.cap) ∧ (ds.filter (·.state == .pending)).length ≤ x.cap

/-- R41, R50, R54: the bounds of a stream, and a slot at least where it drains. -/
def Stream.Fits (ds : List Descriptor) (x : Stream) : Prop := x.Bounded ds ∧ (x.state = .draining → ds ≠ [])

theorem streamInv_iff (s : State) : StreamInv s ↔ ∀ i, (s.streams.get i).Fits (s.slotsOf i) := by
  refine forall_congr' fun i => ?_
  rw [holdsNone_iff, holdsNone_eq_false_iff, pendingList_eq, Stream.Fits, Stream.Bounded]
  tauto

theorem Stream.Bounded.fits {ds : List Descriptor} {x : Stream} (h : x.Bounded ds) (hx : x.state ≠ .draining) :
    x.Fits ds := ⟨h, fun hd => absurd hd hx⟩

/-- Bounds read the state and the cap of a record. -/
theorem Stream.Bounded.congr {ds : List Descriptor} {x y : Stream} (h : x.Bounded ds) (hs : y.state = x.state)
    (hc : y.cap = x.cap) : y.Bounded ds := by
  unfold Stream.Bounded
  rwa [hs, hc]

theorem Stream.Fits.congr {ds : List Descriptor} {x y : Stream} (h : x.Fits ds) (hs : y.state = x.state)
    (hc : y.cap = x.cap) : y.Fits ds := ⟨h.1.congr hs hc, fun hd => h.2 (hs ▸ hd)⟩

/-- Fewer slots stay within the bounds. -/
theorem Stream.Bounded.sublist {ds es : List Descriptor} {x : Stream} (h : x.Bounded ds) (hs : es.Sublist ds) :
    x.Bounded es := by
  obtain ⟨hfree, hcap, hlen⟩ := h
  refine ⟨fun hx => ?_, hcap, (hs.filter _).length_le.trans hlen⟩
  exact List.sublist_nil.1 (hfree hx ▸ hs)

/-- Slots changed one by one, none of them into PENDING, stay within the bounds. -/
theorem Stream.Bounded.map {ds : List Descriptor} {x : Stream} (h : x.Bounded ds) {f : Descriptor → Descriptor}
    (hf : ∀ d, (f d).state = .pending → d.state = .pending) : x.Bounded (ds.map f) := by
  obtain ⟨hfree, hcap, hlen⟩ := h
  refine ⟨fun hx => by rw [hfree hx]; rfl, hcap, le_trans ?_ hlen⟩
  rw [List.filter_map, List.length_map]
  refine List.Sublist.length_le (List.monotone_filter_right ds fun d hd => ?_)
  exact beq_iff_eq.2 (hf d (beq_iff_eq.1 hd))

theorem Stream.Fits.map {ds : List Descriptor} {x : Stream} (h : x.Fits ds) {f : Descriptor → Descriptor}
    (hf : ∀ d, (f d).state = .pending → d.state = .pending) : x.Fits (ds.map f) :=
  ⟨h.1.map hf, fun hx => by simpa using h.2 hx⟩

/-! ### Handles (R43, R53, R60, R75, R78) -/

theorem HandleInv.unique {s : State} (h : HandleInv s) {d e : Descriptor} (hd : d ∈ s.store) (he : e ∈ s.store)
    (hh : d.handle = e.handle) : d = e := List.inj_on_of_nodup_map h.2.1 hd he hh

/-- No handle stands twice over a table of ports: neither in one list nor in the lists of two. -/
theorem handles_nodup_iff (t : Tbl Port 24) :
    (t.xs.flatMap Port.handles).Nodup ↔
      (∀ p, (t.get p).handles.Nodup) ∧ ∀ p q, p ≠ q → List.Disjoint (t.get p).handles (t.get q).handles := by
  have hget : ∀ (k : Nat) (hk : k < t.xs.length), t.get ⟨k, t.len ▸ hk⟩ = t.xs[k] := fun _ _ => rfl
  rw [List.nodup_flatMap, List.pairwise_iff_getElem]
  refine and_congr ⟨fun h p => h _ ((t.mem_xs _).2 ⟨p, rfl⟩), fun h x hx => ?_⟩
    ⟨fun h p q hpq => ?_, fun h k l hk hl hkl => ?_⟩
  · obtain ⟨p, rfl⟩ := (t.mem_xs x).1 hx
    exact h p
  · obtain hlt | hlt := Nat.lt_or_gt_of_ne fun he => hpq (Fin.ext he)
    · exact h p.1 q.1 (t.len.symm ▸ p.2) (t.len.symm ▸ q.2) hlt
    · exact (h q.1 p.1 (t.len.symm ▸ q.2) (t.len.symm ▸ p.2) hlt).symm
  · rw [← hget k hk, ← hget l hl]
    exact h _ _ fun he => hkl.ne (Fin.mk.inj_iff.1 he)

/-- What R60 and R75 tie together of a descriptor. -/
def Descriptor.key (d : Descriptor) : BitVec 16 × Fin 128 × DescState := (d.handle, d.stream, d.state)

/-- What R60 and R75 tie together of an outstanding entry. -/
def Outstanding.key (e : Outstanding) : BitVec 16 × Fin 128 := (e.handle, e.stream)

/-- Handles that only leave the store and the outstanding lists keep to the rules of handles. -/
theorem HandleInv.thin {s t : State} (h : HandleInv s)
    (hs : (t.store.map Descriptor.key).Sublist (s.store.map Descriptor.key))
    (hp : ∀ p, ((t.ports.get p).outstanding.map Outstanding.key).Sublist
      ((s.ports.get p).outstanding.map Outstanding.key)) : HandleInv t := by
  obtain ⟨hlen, hnodup, hroom, hports, hagree⟩ := h
  have hhandles : ∀ ds : List Descriptor, ds.map (·.handle) = (ds.map Descriptor.key).map (·.1) := fun ds => by
    rw [List.map_map]; rfl
  have houts : ∀ x : Port, x.handles = (x.outstanding.map Outstanding.key).map (·.1) := fun x => by
    rw [Port.handles, List.map_map]; rfl
  have hsub : ∀ p, (t.ports.get p).handles.Sublist (s.ports.get p).handles := fun p => by
    rw [houts, houts]
    exact (hp p).map _
  rw [handles_nodup_iff] at hports
  refine ⟨?_, ?_, fun p => ?_, (handles_nodup_iff _).2 ⟨fun p => (hports.1 p).sublist (hsub p), fun p q hpq => ?_⟩,
    fun p e he d hd hde => ?_⟩
  · simpa using hs.length_le.trans (by simpa using hlen)
  · rw [hhandles] at hnodup ⊢
    exact hnodup.sublist (hs.map _)
  · simpa using (hp p).length_le.trans (by simpa using hroom p)
  · exact fun x hx hy => hports.2 p q hpq ((hsub p).subset hx) ((hsub q).subset hy)
  · obtain ⟨e', he', hek⟩ := List.mem_map.1 ((hp p).subset (List.mem_map_of_mem he))
    obtain ⟨d', hd', hdk⟩ := List.mem_map.1 (hs.subset (List.mem_map_of_mem hd))
    simp only [Outstanding.key, Descriptor.key, Prod.mk.injEq] at hek hdk
    obtain ⟨hdh, hds, hdst⟩ := hdk
    obtain ⟨heh, hes⟩ := hek
    rw [← hdst, ← hds, ← hes]
    exact hagree p e' he' d' hd' (by rw [hdh, heh, hde])

theorem HandleInv.of_store {s t : State} (h : HandleInv s) (hp : t.ports = s.ports)
    (hs : (t.store.map Descriptor.key).Sublist (s.store.map Descriptor.key)) : HandleInv t :=
  h.thin hs fun p => by rw [hp]

/-! ### The lane (R164, R165, R167) -/

/-- A port marked down, with no handle outstanding (R165). -/
def Port.Idle (x : Port) : Prop := x.up = false ∧ x.paused = false ∧ x.high = false ∧ x.outstanding = []

/-- What a fabric link in DOWN holds (R164, R165). -/
def State.Silent (s : State) : Prop :=
  s.fabric.outbound = [] ∧ s.store = [] ∧ s.fabric.alignTimer = none ∧ ∀ p, (s.ports.get p).Idle

theorem linkInv_iff (s : State) :
    LinkInv s ↔ s.fabric.outbound.length ≤ 1024 ∧ (s.fabric.up = false → s.Silent) := Iff.rfl

/-- In UP the length of the outbound queue alone is bounded. -/
theorem LinkInv.of_up {s : State} (hu : s.fabric.up = true) (hlen : s.fabric.outbound.length ≤ 1024) : LinkInv s :=
  ⟨hlen, fun hd => by rw [hu] at hd; cases hd⟩

theorem LinkInv.up_of_store {s : State} (h : LinkInv s) {d : Descriptor} (hd : d ∈ s.store) : s.fabric.up = true := by
  by_contra hu
  obtain ⟨_, hs, _⟩ := h.2 (Bool.eq_false_iff.2 hu)
  rw [hs] at hd
  cases hd

theorem Fabric.queued_length (m : OutMsg) {f : Fabric} (h : f.outbound.length ≤ 1024) :
    (f.queued m).outbound.length ≤ 1024 := by
  unfold Fabric.queued
  dsimp only
  split
  · rw [List.length_append]; exact ‹_ < _›
  · exact h

theorem Fabric.discards_up (why : DiscardReason) (ds : List Descriptor) (f : Fabric) :
    (f.discards why ds).up = f.up := by
  induction ds generalizing f with
  | nil => rfl
  | cons d ds ih => exact ih _

theorem Fabric.discards_length (why : DiscardReason) (ds : List Descriptor) {f : Fabric}
    (h : f.outbound.length ≤ 1024) : (f.discards why ds).outbound.length ≤ 1024 := by
  induction ds generalizing f with
  | nil => exact h
  | cons d ds ih => exact ih (Fabric.queued_length _ h)

/-! ### Steps that keep the invariants -/

/-- From `s` to `t` the lane, the store, the streams and their numbers stay within their bounds. -/
structure StoreKept (s t : State) : Prop where
  link : LinkInv s → LinkInv t
  handle : HandleInv s → HandleInv t
  stream : HandleInv s → StreamInv s → StreamInv t
  credit : CreditInv s → CreditInv t

/-- A step that keeps them and the state of the fabric link. -/
structure StoreSteady (s t : State) : Prop extends StoreKept s t where
  up : t.fabric.up = s.fabric.up

theorem StoreKept.trans {s t u : State} (h : StoreKept s t) (k : StoreKept t u) : StoreKept s u where
  link := k.link ∘ h.link
  handle := k.handle ∘ h.handle
  stream hs hi := k.stream (h.handle hs) (h.stream hs hi)
  credit := k.credit ∘ h.credit

theorem StoreSteady.trans {s t u : State} (h : StoreSteady s t) (k : StoreSteady t u) : StoreSteady s u :=
  ⟨h.toStoreKept.trans k.toStoreKept, k.up.trans h.up⟩

section pieces
variable {ps : List Part} {s t : State} (h : SameBut ps s t)
include h

theorem SameBut.handleInv (hs : HandleInv s) (h1 : Part.store ∉ ps := by decide) (h2 : Part.ports ∉ ps := by decide) :
    HandleInv t := hs.of_store (h.ports h2) (by rw [h.store h1])

theorem SameBut.streamInv (hs : StreamInv s) (h1 : Part.store ∉ ps := by decide)
    (h2 : Part.streams ∉ ps := by decide) : StreamInv t := by
  rw [streamInv_iff] at hs ⊢
  rwa [h.streams h2, h.slotsOf h1]

theorem SameBut.creditInv (hs : CreditInv s) (h1 : Part.streams ∉ ps := by decide) : CreditInv t := by
  unfold CreditInv
  rwa [h.streams h1]

theorem SameBut.linkInv (hs : LinkInv s) (h1 : Part.store ∉ ps := by decide) (h2 : Part.ports ∉ ps := by decide)
    (h3 : Part.fabric ∉ ps := by decide) : LinkInv t := by
  unfold LinkInv
  rwa [h.fabric h3, h.store h1, h.ports h2]

/-- A change of other blocks alone. -/
theorem SameBut.steady (h1 : Part.store ∉ ps := by decide) (h2 : Part.ports ∉ ps := by decide)
    (h3 : Part.fabric ∉ ps := by decide) (h4 : Part.streams ∉ ps := by decide) : StoreSteady s t where
  link hs := h.linkInv hs h1 h2 h3
  handle hs := h.handleInv hs h1 h2
  stream _ hs := h.streamInv hs h1 h4
  credit hs := h.creditInv hs h4
  up := by rw [h.fabric h3]

/-- A change of the Fabric Port, and of other blocks. -/
theorem SameBut.steady_of_fabric (hl : LinkInv s → LinkInv t) (hu : t.fabric.up = s.fabric.up)
    (h1 : Part.store ∉ ps := by decide) (h2 : Part.ports ∉ ps := by decide) (h4 : Part.streams ∉ ps := by decide) :
    StoreSteady s t where
  link := hl
  handle hs := h.handleInv hs h1 h2
  stream _ hs := h.streamInv hs h1 h4
  credit hs := h.creditInv hs h4
  up := hu

/-- A change of fields of streams that are neither the state nor the cap. -/
theorem SameBut.steady_of_streams (hs : ∀ i, (t.streams.get i).state = (s.streams.get i).state)
    (hc : ∀ i, (t.streams.get i).cap = (s.streams.get i).cap)
    (hr : ∀ i, (s.streams.get i).ranged → (t.streams.get i).ranged) (h1 : Part.store ∉ ps := by decide)
    (h2 : Part.ports ∉ ps := by decide) (h3 : Part.fabric ∉ ps := by decide) : StoreSteady s t where
  link hs := h.linkInv hs h1 h2 h3
  handle hs := h.handleInv hs h1 h2
  stream _ hi := (streamInv_iff t).2 fun i => by
    rw [h.slotsOf h1]
    exact ((streamInv_iff s).1 hi i).congr (hs i) (hc i)
  credit hi i := hr i (hi i)
  up := by rw [h.fabric h3]

/-- A change of ports in which outstanding entries only leave, and by which no port of a silent lane wakes. -/
theorem SameBut.steady_of_ports (ho : ∀ p, ((t.ports.get p).outstanding.map Outstanding.key).Sublist
      ((s.ports.get p).outstanding.map Outstanding.key))
    (hi : s.fabric.up = false → ∀ p, (s.ports.get p).Idle → (t.ports.get p).Idle) (h1 : Part.store ∉ ps := by decide)
    (h3 : Part.fabric ∉ ps := by decide) (h4 : Part.streams ∉ ps := by decide) : StoreSteady s t where
  link hs := by
    rw [linkInv_iff] at hs ⊢
    rw [h.fabric h3]
    refine ⟨hs.1, fun hu => ?_⟩
    obtain ⟨hout, hstore, halign, hports⟩ := hs.2 hu
    exact ⟨by rw [h.fabric h3, hout], by rw [h.store h1, hstore], by rw [h.fabric h3, halign],
      fun p => hi hu p (hports p)⟩
  handle hs := hs.thin (by rw [h.store h1]) ho
  stream _ hs := h.streamInv hs h1 h4
  credit hs := h.creditInv hs h4
  up := by rw [h.fabric h3]

end pieces

theorem steady_chains : Chains StoreSteady := ⟨StoreSteady.trans, fun h => h.steady⟩

theorem Chains.forEach {R : State → State → Prop} (h : Chains R) {α : Type} {f : α → State → State}
    (hf : ∀ x s, R s (f x s)) (xs : List α) (s : State) : R s (forEach xs f s) := by
  induction xs generalizing s with
  | nil => exact h.refl s
  | cons x xs ih => exact h.trans (hf x s) (ih _)

end Sys2Proof.Machine
end

section
/-! Changes of one stream and its descriptors, and how they end: the stream drains, or becomes FREE. -/

namespace Sys2Proof.Machine

-- One proof after the other: each waiting thread would hold its own stack.
set_option Elab.async false

/-! ### How a change ends (R48 to R50) -/

section ends
variable (i : Fin 128) (s : State)

theorem freeStream_others : OthersSame i s.streams (freeStream i s).streams := onStream_others i _ s

theorem freeStream_record : (freeStream i s).streams.get i = { s.streams.get i with state := .free } :=
  onStream_get_self i _ s

theorem freeStream_hears :
    Hears [byPort s (s.streams.get i).egress (noticeDrained i (s.streams.get i).closeReason)] s.now s
      (freeStream i s) := by
  have hframe := State.onStream_frame i (fun x => { x with state := .free }) s
  have hpost := postAt_hears (noticeDrained i (s.streams.get i).closeReason) (s.streams.get i).egress
    (s.onStream i fun x => { x with state := .free })
  rw [hframe.byPort, hframe.now] at hpost
  exact (hframe.hears s.now (by simp)).trans hpost

theorem drainCheck_others : OthersSame i s.streams (drainCheck i s).streams := by
  unfold drainCheck
  split
  · exact freeStream_others i s
  · exact fun _ _ => rfl

/-- R50: a DRAINING stream without a slot becomes FREE. -/
theorem drainCheck_record :
    (drainCheck i s).streams.get i = { s.streams.get i with
      state := if (s.streams.get i).state = .draining ∧ s.holdsNone i = true then .free
        else (s.streams.get i).state } := by
  unfold drainCheck
  split
  · exact freeStream_record i s
  · rfl

theorem drainCheck_hears :
    Hears (if (s.streams.get i).state = .draining ∧ s.holdsNone i = true then
        [byPort s (s.streams.get i).egress (noticeDrained i (s.streams.get i).closeReason)] else [])
      s.now s (drainCheck i s) := by
  unfold drainCheck
  split
  · exact freeStream_hears i s
  · exact .nil _ s

theorem settleClose_others : OthersSame i s.streams (settleClose i s).streams := by
  unfold settleClose
  split
  · exact freeStream_others i s
  · exact onStream_others i _ s

/-- R48, R49: a stream that is closed is FREE where it has no slot, and drains where it has one. -/
theorem settleClose_record :
    (settleClose i s).streams.get i = { s.streams.get i with
      state := if s.holdsNone i = true then .free else .draining } := by
  unfold settleClose
  split
  · exact freeStream_record i s
  · exact onStream_get_self i _ s

theorem settleClose_hears :
    Hears (if s.holdsNone i = true then
        [byPort s (s.streams.get i).egress (noticeDrained i (s.streams.get i).closeReason)] else [])
      s.now s (settleClose i s) := by
  unfold settleClose
  split
  · exact freeStream_hears i s
  · exact (State.onStream_frame i _ s).hears _ (by simp)

end ends

theorem drainCheck_fits {i : Fin 128} {s : State} (h : (s.streams.get i).Bounded (s.slotsOf i)) :
    ((drainCheck i s).streams.get i).Fits (s.slotsOf i) := by
  obtain ⟨hfree, hcap, hlen⟩ := h
  rw [drainCheck_record]
  split
  next hd => exact ⟨⟨fun _ => holdsNone_iff.1 hd.2, fun hn => absurd rfl hn, hlen⟩, nofun⟩
  next hd => exact ⟨⟨hfree, hcap, hlen⟩, fun hx he => hd ⟨hx, holdsNone_iff.2 he⟩⟩

theorem settleClose_fits {i : Fin 128} {s : State} (h : (s.streams.get i).Bounded (s.slotsOf i)) :
    ((settleClose i s).streams.get i).Fits (s.slotsOf i) := by
  obtain ⟨hfree, hcap, hlen⟩ := h
  rw [settleClose_record]
  split
  next hd => exact ⟨⟨fun _ => holdsNone_iff.1 hd, fun hn => absurd rfl hn, hlen⟩, nofun⟩
  next hd =>
    have hsome : s.slotsOf i ≠ [] := fun he => hd (holdsNone_iff.2 he)
    exact ⟨⟨nofun, fun _ => hcap fun hx => hsome (hfree hx), hlen⟩, fun _ => hsome⟩

/-! ### Changes of one stream -/

/-- From `s` to `t` the record of stream `i` and the descriptors of that stream alone change, within their bounds; whether
the stream still drains is left open. -/
structure Touches (i : Fin 128) (s t : State) : Prop where
  up : t.fabric.up = s.fabric.up
  link : LinkInv s → LinkInv t
  handle : HandleInv s → HandleInv t
  apart : HandleInv s → ∀ j, j ≠ i → t.slotsOf j = s.slotsOf j
  others : OthersSame i s.streams t.streams
  bounded : HandleInv s → (s.streams.get i).Bounded (s.slotsOf i) → (t.streams.get i).Bounded (t.slotsOf i)
  ranged : (s.streams.get i).ranged → (t.streams.get i).ranged

section touches
variable {i : Fin 128} {s t u : State}

theorem Touches.trans (h : Touches i s t) (k : Touches i t u) : Touches i s u where
  up := k.up.trans h.up
  link := k.link ∘ h.link
  handle := k.handle ∘ h.handle
  apart hs j hj := (k.apart (h.handle hs) j hj).trans (h.apart hs j hj)
  others := h.others.trans k.others
  bounded hs hb := k.bounded (h.handle hs) (h.bounded hs hb)
  ranged := k.ranged ∘ h.ranged

theorem SameBut.touches {ps : List Part} (h : SameBut ps s t) (i : Fin 128) (h1 : Part.store ∉ ps := by decide)
    (h2 : Part.ports ∉ ps := by decide) (h3 : Part.fabric ∉ ps := by decide) (h4 : Part.streams ∉ ps := by decide) :
    Touches i s t where
  up := by rw [h.fabric h3]
  link hs := h.linkInv hs h1 h2 h3
  handle hs := h.handleInv hs h1 h2
  apart _ _ _ := by rw [h.slotsOf h1]
  others _ _ := by rw [h.streams h4]
  bounded _ hb := by rwa [h.streams h4, h.slotsOf h1]
  ranged hr := by rwa [h.streams h4]

/-- A change of the record of a stream that leaves its state and its cap. -/
theorem onStream_touches {f : Stream → Stream} (hs : (f (s.streams.get i)).state = (s.streams.get i).state)
    (hc : (f (s.streams.get i)).cap = (s.streams.get i).cap)
    (hr : (s.streams.get i).ranged → (f (s.streams.get i)).ranged) : Touches i s (s.onStream i f) where
  up := rfl
  link hl := hl
  handle hh := hh
  apart _ _ _ := rfl
  others := onStream_others i f s
  bounded _ hb := by
    rw [onStream_get_self]
    exact hb.congr hs hc
  ranged hx := by
    rw [onStream_get_self]
    exact hr hx

/-- Descriptors of one stream removed from the store leave the slots of every other. -/
theorem slotsOf_of_filter {f : Descriptor → Bool} (hs : t.store = s.store.filter f) {j : Fin 128}
    (hf : ∀ d ∈ s.store, f d = false → d.stream ≠ j) : t.slotsOf j = s.slotsOf j := by
  rw [State.slotsOf, hs, List.filter_filter]
  refine List.filter_congr fun d hd => ?_
  cases hfd : f d with
  | true => rw [Bool.and_true]
  | false => rw [Bool.and_false, beq_eq_false_iff_ne.2 (hf d hd hfd)]

theorem slotsOf_sublist {f : Descriptor → Bool} (hs : t.store = s.store.filter f) (j : Fin 128) :
    (t.slotsOf j).Sublist (s.slotsOf j) := by
  rw [State.slotsOf, hs]
  exact List.filter_sublist.filter _

/-- What a discard does not free stands in the store, and only what has the handle of a discarded one is freed. -/
theorem Discards.touches {why : DiscardReason} {ds : List Descriptor} (h : Discards i why ds s t)
    (hd : ∀ d ∈ ds, d ∈ s.store ∧ d.stream = i) : Touches i s t := by
  obtain ⟨hstore, hfabric, _⟩ := h.effects
  have hports : t.ports = s.ports := h.frame.ports
  have hup : t.fabric.up = s.fabric.up := by rw [hfabric, Fabric.discards_up]
  refine ⟨hup, fun hl => ?_, fun hh => hh.of_store hports ?_, fun hh j hj => ?_, h.others, fun _ hb => ?_, fun hr => ?_⟩
  · cases ds with
    | nil =>
      rw [without_nil] at hstore
      unfold LinkInv
      rwa [hfabric, hstore, hports]
    | cons d ds =>
      have hu := hl.up_of_store (hd d (List.mem_cons_self ..)).1
      exact .of_up (hup.trans hu) (hfabric ▸ Fabric.discards_length _ _ hl.1)
  · rw [hstore]
    exact List.filter_sublist.map _
  · refine slotsOf_of_filter hstore fun d hds hfree he => hj ?_
    obtain ⟨e, hem, heq⟩ := List.any_eq_true.1 ((Bool.not_eq_false' _).mp hfree)
    rw [← he, ← hh.unique (hd e hem).1 hds (beq_iff_eq.1 heq)]
    exact (hd e hem).2
  · rw [h.record]
    exact (hb.sublist (slotsOf_sublist hstore i)).congr rfl rfl
  · rw [h.record]
    exact hr

theorem discardAll_touches (why : DiscardReason) (i : Fin 128) (s : State) : Touches i s (discardAll why i s) :=
  (discardAll_discards why i s).touches fun _ hd =>
    have hm := mem_pendingList.1 hd
    ⟨hm.1, hm.2.1⟩

theorem freeSlot_touches {d : Descriptor} (hd : d ∈ s.store) : Touches d.stream s (freeSlot d.handle s) := by
  have hstore : (freeSlot d.handle s).store = s.store.filter (·.handle != d.handle) := rfl
  refine ⟨rfl, fun hl => ?_, fun hh => hh.of_store rfl (List.filter_sublist.map _), fun hh j hj => ?_, fun _ _ => rfl,
    fun _ hb => hb.sublist (slotsOf_sublist hstore _), id⟩
  · exact .of_up (hl.up_of_store hd) hl.1
  · refine slotsOf_of_filter hstore fun e he hfree hej => hj ?_
    rw [← hej, hh.unique he hd (bne_eq_false_iff_eq.1 hfree)]

/-- A change of one stream is over when its slots fit it. -/
theorem Touches.finish (h : Touches i s t) (hf : SameBut ([.streams] ++ allLinks) t u)
    (ho : OthersSame i t.streams u.streams)
    (hfit : (t.streams.get i).Bounded (t.slotsOf i) → (u.streams.get i).Fits (t.slotsOf i))
    (hr : (t.streams.get i).ranged → (u.streams.get i).ranged) : StoreSteady s u where
  link hl := hf.linkInv (h.link hl)
  handle hh := hf.handleInv (h.handle hh)
  stream hh hi := by
    rw [streamInv_iff] at hi ⊢
    intro j
    rw [hf.slotsOf]
    by_cases hj : j = i
    · subst hj
      exact hfit (h.bounded hh (hi j).1)
    · rw [ho j hj, h.others j hj, h.apart hh j hj]
      exact hi j
  credit hi j := by
    by_cases hj : j = i
    · subst hj
      exact hr (h.ranged (hi j))
    · rw [ho j hj, h.others j hj]
      exact hi j
  up := by rw [hf.fabric, h.up]

theorem Touches.drained (h : Touches i s t) : StoreSteady s (drainCheck i t) := by
  refine h.finish (drainCheck_frame i t) (drainCheck_others i t) drainCheck_fits fun hr => ?_
  rw [drainCheck_record]
  exact hr

theorem Touches.settled (h : Touches i s t) : StoreSteady s (settleClose i t) := by
  refine h.finish (settleClose_frame i t) (settleClose_others i t) settleClose_fits fun hr => ?_
  rw [settleClose_record]
  exact hr

/-- A stream that does not drain may be left without a slot. -/
theorem Touches.steady (h : Touches i s t) (ht : (t.streams.get i).state ≠ .draining) : StoreSteady s t :=
  h.finish (.refl _ t) (fun _ _ => rfl) (fun hb => hb.fits ht) id

end touches

end Sys2Proof.Machine
end

section
/-! What each operation on streams and the store keeps of their bounds. -/

namespace Sys2Proof.Machine

-- One proof after the other: each waiting thread would hold its own stack.
set_option Elab.async false

/-! ### Fields of a record (R41) -/

section records
variable {i : Fin 128} {s : State}

/-- A change of a record that leaves its state, its cap and its ranges. -/
theorem onStream_steady {f : Stream → Stream} (hs : (f (s.streams.get i)).state = (s.streams.get i).state)
    (hc : (f (s.streams.get i)).cap = (s.streams.get i).cap)
    (hr : (s.streams.get i).ranged → (f (s.streams.get i)).ranged) : StoreSteady s (s.onStream i f) := by
  have hget : ∀ j, (s.onStream i f).streams.get j = if j = i then f (s.streams.get i) else s.streams.get j := fun j =>
    Tbl.get_upd _ i j f
  refine (State.onStream_frame i f s).steady_of_streams (fun j => ?_) (fun j => ?_) fun j => ?_ <;>
    (rw [hget]; split; next h => subst h; assumption)
  · rfl
  · rfl
  · exact id

end records

theorem clearStationField_steady (i : Fin 32) (keep : Option (Fin 24)) (s : State) :
    StoreSteady s (clearStationField i keep s) := by
  refine (clearStationField_frame i keep s).steady_of_streams (fun k => ?_) (fun k => ?_) fun k hk => ?_ <;>
    rw [clearStationField_stream]
  exact hk

theorem Stream.accrue_ranged (frozen : Bool) {x : Stream} (h : x.ranged) : (x.accrue frozen).ranged := by
  obtain ⟨hcredit, hquota, hcap, hlevel, hphase, hquiet, hshed⟩ := h
  cases frozen with
  | true => exact ⟨hcredit, hquota, hcap, hlevel, hphase, hquiet, hshed⟩
  | false =>
    refine ⟨?_, hquota, hcap, hlevel, Nat.le_of_lt_succ (Nat.mod_lt _ (by decide)), hquiet, hshed⟩
    show (if _ then min (x.credit + 1) x.quota else x.credit) ≤ x.quota
    split
    · exact min_le_right _ _
    · exact hcredit

theorem Stream.quieten_ranged {x : Stream} (h : x.ranged) : x.quieten.ranged := by
  obtain ⟨hcredit, hquota, hcap, hlevel, hphase, hquiet, hshed⟩ := h
  unfold Stream.quieten
  split
  · split
    · exact ⟨hcredit, hquota, hcap, Nat.zero_le _, hphase, le_refl _, fun _ => Nat.zero_le _⟩
    next hlt => exact ⟨hcredit, hquota, hcap, hlevel, hphase, (Nat.lt_of_not_le hlt).le, hshed⟩
  · exact ⟨hcredit, hquota, hcap, hlevel, hphase, hquiet, hshed⟩

theorem Stream.accrue_bounds (frozen : Bool) (x : Stream) :
    (x.accrue frozen).state = x.state ∧ (x.accrue frozen).cap = x.cap := by
  cases frozen <;> exact ⟨rfl, rfl⟩

theorem Stream.quieten_bounds (x : Stream) : x.quieten.state = x.state ∧ x.quieten.cap = x.cap := by
  unfold Stream.quieten
  split
  · split <;> exact ⟨rfl, rfl⟩
  · exact ⟨rfl, rfl⟩

theorem accrueAll_steady (q : Fin 8) (s : State) : StoreSteady s (accrueAll q s) := by
  have hbounds : ∀ i, ((accrueAll q s).streams.get i).state = (s.streams.get i).state ∧
      ((accrueAll q s).streams.get i).cap = (s.streams.get i).cap := fun i => by
    rw [accrueAll, Tbl.get_map]
    split
    · rw [(Stream.quieten_bounds _).1, (Stream.quieten_bounds _).2]
      exact Stream.accrue_bounds _ _
    · exact ⟨rfl, rfl⟩
  refine (accrueAll_frame q s).steady_of_streams (fun i => (hbounds i).1) (fun i => (hbounds i).2) fun i hi => ?_
  rw [accrueAll, Tbl.get_map]
  split
  · exact Stream.quieten_ranged (Stream.accrue_ranged _ hi)
  · exact hi

theorem Stream.recover_bounds (x : Stream) : x.recover.state = x.state ∧ x.recover.cap = x.cap := by
  unfold Stream.recover
  split
  · split
    · exact ⟨rfl, rfl⟩
    · split <;> exact ⟨rfl, rfl⟩
  · exact ⟨rfl, rfl⟩

theorem Stream.recover_ranged {x : Stream} (h : x.ranged) : x.recover.ranged := by
  obtain ⟨hcredit, hquota, hcap, hlevel, hphase, hquiet, hshed⟩ := h
  have hdown : x.level - 1 ≤ 4 := (Nat.sub_le _ _).trans hlevel
  unfold Stream.recover
  split
  · split
    · exact ⟨hcredit, hquota, hcap, hlevel, hphase, hquiet, hshed⟩
    · split
      · exact ⟨hcredit, hquota, hcap, hdown, hphase, hquiet, fun hs => (Nat.sub_le _ _).trans (hshed hs)⟩
      · exact ⟨hcredit, hquota, hcap, hlevel, hphase, hquiet, hshed⟩
  · exact ⟨hcredit, hquota, hcap, hlevel, hphase, hquiet, hshed⟩

theorem countStream_steady (why : DiscardReason) (i : Fin 128) (s : State) : StoreSteady s (countStream why i s) :=
  onStream_steady rfl rfl id

theorem chargeLost_steady (i : Fin 128) (s : State) : StoreSteady s (chargeLost i s) := by
  have hcount : StoreSteady (countStoreWide .sentLost s) (if ((countStoreWide .sentLost s).streams.get i).live then
      countStream .sentLost i (countStoreWide .sentLost s) else countStoreWide .sentLost s) :=
    steady_chains.ite _ (countStream_steady _ i _)
  exact ((countStoreWide_frame .sentLost s).steady.trans hcount).trans (postAt_frame _ _ _).steady

/-! ### Closing and discarding (R49 to R51, R57, R58) -/

theorem recordReason_touches (why : CloseReason) (i : Fin 128) (s : State) :
    Touches i s (s.onStream i (recordReason why)) := by
  refine onStream_touches ?_ ?_ fun hr => ?_ <;> unfold recordReason
  · split <;> rfl
  · split <;> rfl
  · split <;> exact hr

theorem closeFlush_steady (why : CloseReason) (i : Fin 128) (s : State) : StoreSteady s (closeFlush why i s) :=
  ((recordReason_touches why i s).trans (discardAll_touches .flushed i _)).settled

theorem closeDrain_steady (why : CloseReason) (i : Fin 128) (s : State) : StoreSteady s (closeDrain why i s) :=
  steady_chains.ite _ (recordReason_touches why i s).settled

theorem closeEnded_steady (a : GrantAsk) (s : State) : StoreSteady s (closeEnded a s) :=
  steady_chains.forEach (fun i u => steady_chains.ite _ (closeFlush_steady _ i u)) _ s

theorem discardStreams_steady (why : DiscardReason) (sel : Stream → Bool) (s : State) :
    StoreSteady s (discardStreams why sel s) :=
  steady_chains.forEach (fun i u => steady_chains.ite _ (discardAll_touches why i u).drained) _ s

theorem portWentDown_steady (p : Fin 24) (s : State) : StoreSteady s (portWentDown p s) := discardStreams_steady ..

theorem serviceEntered_steady (ports : Fin 24 → Bool) (s : State) : StoreSteady s (serviceEntered ports s) :=
  discardStreams_steady ..

theorem execStalenessDeadlineExpiry_steady {x : BitVec 16} {s t : State}
    (h : execStalenessDeadlineExpiry x s = .next t) : StoreSteady s t := by
  unfold execStalenessDeadlineExpiry at h
  split at h
  next d hd =>
    have hdiscard : Touches d.stream s (discardPending .stale d s) :=
      (discardPending_discards .stale d s).touches fun e he => by
        rw [List.mem_singleton.1 he]
        exact ⟨List.mem_of_find?_eq_some hd, rfl⟩
    exact Host.Outcome.next.inj h ▸ steady_chains.ite _ hdiscard.drained
  · exact Host.Outcome.next.inj h ▸ steady_chains.refl s

/-! ### Congestion (R69 to R72) -/

theorem congest_steady (b : Bool) (i : Fin 128) (s : State) : StoreSteady s (congest b i s) := by
  have htell : ∀ u : State, SameBut allLinks u
      (if (s.streams.get i).level = 0 then postAt (noticeCongested i b) (u.streamPort i) u else u) := fun u =>
    .ite _ (postAt_frame _ _ u) (.refl _ u)
  unfold congest
  dsimp only
  split
  next m hm =>
    refine (onStream_steady rfl rfl fun hr => ?_).trans (htell _).steady
    obtain ⟨hcredit, hquota, hcap, hlevel, hphase, hquiet, hshed⟩ := hr
    exact ⟨hcredit, hquota, hcap, min_le_right _ _, hphase, hquiet, fun hs => by rw [hm] at hs; cases hs⟩
  next hm =>
    have hlevel : Touches i (discardAll .shed i s)
        ((discardAll .shed i s).onStream i fun x => { x with level := 1, quiet := 0 }) := by
      refine onStream_touches rfl rfl fun hr => ?_
      obtain ⟨hcredit, hquota, hcap, _, hphase, _, _⟩ := hr
      exact ⟨hcredit, hquota, hcap, (by decide : 1 ≤ 4), hphase, Nat.zero_le _, fun _ => le_refl _⟩
    exact (((discardAll_touches .shed i s).trans hlevel).trans ((htell _).touches i)).drained

theorem congestStreams_steady (b : Bool) (sel : Stream → Bool) (s : State) : StoreSteady s (congestStreams b sel s) :=
  steady_chains.forEach (fun i u => steady_chains.ite _ (congest_steady b i u)) _ s

theorem watermarkHigh_steady (p : Fin 24) (s : State) : StoreSteady s (watermarkHigh p s) := congestStreams_steady ..

theorem takeBackoff_steady (p : Fin 24) (code classes : Byte) (s : State) :
    StoreSteady s (takeBackoff p code classes s) := by
  unfold takeBackoff
  split
  · exact (backoff_frame _ s).steady.trans (congestStreams_steady ..)
  · exact (backoff_frame _ s).steady

/-! ### Opening and adjusting (R46, R52) -/

theorem inRange_bounds {lo hi w n : Nat} {v : BitVec w} (h : inRange lo hi v = some n) : lo ≤ n ∧ n ≤ hi :=
  (inRange_eq_some.1 h).2

theorem readStreamSettings_bounds {a b c d e f r w : Byte} {st : BitVec 32} {x : StreamSettings}
    (h : readStreamSettings a b c d e f st r w = some x) : 1 ≤ x.quota ∧ x.quota ≤ 63 ∧ 1 ≤ x.cap ∧ x.cap ≤ 64 := by
  unfold readStreamSettings at h
  simp only [Option.bind_eq_bind, Option.bind_eq_some_iff] at h
  obtain ⟨_, -, _, -, _, -, _, -, q, hq, k, hk, _, -, _, -, _, -, h⟩ := h
  split at h
  · cases h
  · cases h
    exact ⟨(inRange_bounds hq).1, (inRange_bounds hq).2, inRange_bounds hk⟩

theorem readAdjustment_bounds {a b c d : Byte} {st : BitVec 32} {x : StreamAdjustment}
    (h : readAdjustment a b c d st = some x) : 1 ≤ x.quota ∧ x.quota ≤ 63 ∧ 1 ≤ x.cap ∧ x.cap ≤ 64 := by
  unfold readAdjustment at h
  simp only [Option.bind_eq_bind, Option.bind_eq_some_iff] at h
  obtain ⟨q, hq, k, hk, _, -, _, -, _, -, h⟩ := h
  cases h
  exact ⟨(inRange_bounds hq).1, (inRange_bounds hq).2, inRange_bounds hk⟩

theorem answer_ite_steady {s : State} {c : Prop} [Decidable c] {a b : Answer} (ha : StoreSteady s a.state)
    (hb : ¬ c → StoreSteady s b.state) : StoreSteady s (if c then a else b).state := answer_ite_of ha hb

theorem ownStreamOpen_steady (l : Link) (a b c d e f g : Byte) (st : BitVec 32) (r w : Byte) (s : State) :
    StoreSteady s (ownStreamOpen l a b c d e f g st r w s).state := by
  have hself := steady_chains.refl s
  unfold ownStreamOpen
  split
  next i x _ hx =>
    refine answer_ite_steady hself fun _ => answer_ite_steady hself fun _ => answer_ite_steady hself fun hfree => ?_
    obtain ⟨hq1, hq, hc1, hc⟩ := readStreamSettings_bounds hx
    have hopen : Touches i s (s.onStream i fun _ => x.opened l) := by
      refine ⟨rfl, id, id, fun _ _ _ => rfl, onStream_others i _ s, fun _ hb => ?_, fun _ => ?_⟩
      · have hnone : (s.onStream i fun _ => x.opened l).slotsOf i = [] := hb.1 (not_not.1 hfree)
        rw [hnone, onStream_get_self]
        exact ⟨nofun, fun _ => hc1, Nat.zero_le _⟩
      · rw [onStream_get_self]
        exact ⟨hq1, hq, hc, Nat.zero_le _, Nat.zero_le _, Nat.zero_le _, fun _ => Nat.zero_le _⟩
    refine hopen.steady ?_
    rw [onStream_get_self]
    exact nofun
  · exact hself

theorem ownStreamClose_steady (l : Link) (a b : Byte) (s : State) : StoreSteady s (ownStreamClose l a b s).state := by
  have hself := steady_chains.refl s
  unfold ownStreamClose
  split
  · refine answer_ite_steady hself fun _ => answer_ite_steady hself fun _ => answer_ite_steady hself fun _ =>
      answer_ite_steady (closeFlush_steady ..) fun _ => ?_
    dsimp only [done]
    split
    · exact closeFlush_steady ..
    · exact closeDrain_steady ..
  · exact hself

end Sys2Proof.Machine
end

section
/-! Descriptors that join the store or leave it for the lane: intake, a lowered cap, a release and its confirmation. -/

namespace Sys2Proof.Machine

-- One proof after the other: each waiting thread would hold its own stack.
set_option Elab.async false

/-! ### The oldest of a list discarded (R52, R54) -/

/-- Of a list without repeated handles, what stays after the first `k` are discarded is the rest. -/
theorem filter_not_take {ds : List Descriptor} (h : (ds.map (·.handle)).Nodup) (k : Nat) :
    without (ds.take k) ds = ds.drop k := by
  have hsplit := List.take_append_drop k ds
  rw [← hsplit, List.map_append, List.nodup_append] at h
  obtain ⟨_, _, hapart⟩ := h
  have hgone : without (ds.take k) (ds.take k) = [] := by
    refine List.filter_eq_nil_iff.2 fun d hd => ?_
    rw [Bool.not_eq_true']
    exact fun hn => List.any_eq_false.1 hn d hd (beq_self_eq_true _)
  have hkept : without (ds.take k) (ds.drop k) = ds.drop k := by
    refine List.filter_eq_self.2 fun d hd => Bool.not_eq_true' _ |>.mpr (List.any_eq_false.2 fun e he heq => ?_)
    exact hapart _ (List.mem_map_of_mem he) _ (List.mem_map_of_mem hd) (beq_iff_eq.1 heq)
  calc without (ds.take k) ds = without (ds.take k) (ds.take k ++ ds.drop k) := by rw [hsplit]
    _ = without (ds.take k) (ds.take k) ++ without (ds.take k) (ds.drop k) := List.filter_append ..
    _ = ds.drop k := by rw [hgone, hkept, List.nil_append]

theorem HandleInv.pendingList_nodup {s : State} (h : HandleInv s) (i : Fin 128) :
    ((s.pendingList i).map (·.handle)).Nodup := h.2.1.sublist (List.filter_sublist.map _)

/-- The oldest `k` of a pending list discarded leave the rest of it. -/
theorem pendingList_after_take {s t : State} (h : HandleInv s) {i : Fin 128} {k : Nat}
    (ht : t.store = without ((s.pendingList i).take k) s.store) : t.pendingList i = (s.pendingList i).drop k := by
  rw [← filter_not_take (h.pendingList_nodup i), State.pendingList, ht, without, List.filter_filter, without,
    State.pendingList, List.filter_filter]
  exact List.filter_congr fun d _ => Bool.and_comm _ _

theorem take_pending_mem {s : State} {i : Fin 128} {k : Nat} :
    ∀ d ∈ (s.pendingList i).take k, d ∈ s.store ∧ d.stream = i := fun _ hd =>
  have hm := mem_pendingList.1 (List.mem_of_mem_take hd)
  ⟨hm.1, hm.2.1⟩

/-! ### A lowered cap (R52) -/

theorem Stream.setRecovery_bounds (r : Recovery) (x : Stream) :
    (x.setRecovery r).state = x.state ∧ (x.setRecovery r).cap = x.cap := by
  unfold Stream.setRecovery
  split
  · exact ⟨rfl, rfl⟩
  · split <;> exact ⟨rfl, rfl⟩

theorem Stream.setRecovery_ranged (r : Recovery) {x : Stream} (h : x.ranged) : (x.setRecovery r).ranged := by
  obtain ⟨hcredit, hquota, hcap, hlevel, hphase, hquiet, hshed⟩ := h
  unfold Stream.setRecovery
  split
  · exact ⟨hcredit, hquota, hcap, hlevel, hphase, hquiet, hshed⟩
  next hne =>
    split
    · exact ⟨hcredit, hquota, hcap, (min_le_left _ _).trans hlevel, hphase, Nat.zero_le _, fun _ => min_le_right _ _⟩
    next hmode =>
      refine ⟨hcredit, hquota, hcap, hlevel, hphase, hquiet, fun hr => ?_⟩
      cases hx : x.recovery with
      | shed => exact absurd (hx.trans hr.symm) hne
      | clean m => exact absurd hr (hmode m hx)

theorem Stream.adjust_ranged {a : StreamAdjustment} (hq : a.quota ≤ 63) (hc : a.cap ≤ 64) {x : Stream} (h : x.ranged) :
    (x.adjust a).ranged := by
  obtain ⟨_, _, _, hlevel, hphase, hquiet, hshed⟩ := h
  exact Stream.setRecovery_ranged _ ⟨min_le_right _ _, hq, hc, hlevel, hphase, hquiet, hshed⟩

theorem Stream.adjust_bounds (a : StreamAdjustment) (x : Stream) :
    (x.adjust a).state = x.state ∧ (x.adjust a).cap = a.cap := Stream.setRecovery_bounds ..

/-- An accepted STREAM-ADJUST: the new settings, and the oldest descriptors beyond the cap discarded. -/
def adjusted (i : Fin 128) (a : StreamAdjustment) (s : State) : State :=
  discardList .cap ((s.pendingList i).take ((s.pendingList i).length - a.cap)) (s.onStream i (·.adjust a))

theorem adjusted_discards (i : Fin 128) (a : StreamAdjustment) (s : State) :
    Discards i .cap ((s.pendingList i).take ((s.pendingList i).length - a.cap)) (s.onStream i (·.adjust a))
      (adjusted i a s) := discardList_discards .cap (fun d hd => (take_pending_mem d hd).2) _

theorem adjusted_touches {i : Fin 128} {a : StreamAdjustment} {s : State} (ho : (s.streams.get i).state = .opened)
    (hq : a.quota ≤ 63) (hc1 : 1 ≤ a.cap) (hc : a.cap ≤ 64) : Touches i s (adjusted i a s) := by
  have hdiscards := adjusted_discards i a s
  have hrest : Touches i (s.onStream i (·.adjust a)) (adjusted i a s) := hdiscards.touches take_pending_mem
  have hstate : ((adjusted i a s).streams.get i).state = .opened := by
    rw [hdiscards.record, onStream_get_self, ← ho]
    exact (Stream.adjust_bounds a _).1
  have hcap : ((adjusted i a s).streams.get i).cap = a.cap := by
    rw [hdiscards.record, onStream_get_self]
    exact (Stream.adjust_bounds a _).2
  refine ⟨hrest.up, hrest.link, hrest.handle, hrest.apart, (onStream_others i _ s).trans hrest.others, fun hh _ => ?_,
    fun hr => hrest.ranged ?_⟩
  · rw [Stream.Bounded, hstate, hcap, ← pendingList_eq, pendingList_after_take hh hdiscards.effects.1, List.length_drop]
    exact ⟨nofun, fun _ => hc1, by omega⟩
  · rw [onStream_get_self]
    exact Stream.adjust_ranged hq hc hr

theorem ownStreamAdjust_steady (l : Link) (a b c d e : Byte) (st : BitVec 32) (s : State) :
    StoreSteady s (ownStreamAdjust l a b c d e st s).state := by
  have hself := steady_chains.refl s
  unfold ownStreamAdjust
  split
  next i x _ hx =>
    refine answer_ite_steady hself fun _ => answer_ite_steady hself fun ho => answer_ite_steady hself fun _ =>
      answer_ite_steady hself fun _ => ?_
    obtain ⟨_, hq, hc1, hc⟩ := readAdjustment_bounds hx
    have hadjust := adjusted_touches (not_not.1 ho) hq hc1 hc
    refine hadjust.steady ?_
    show ((adjusted i x s).streams.get i).state ≠ .draining
    rw [(adjusted_discards i x s).record, onStream_get_self]
    show ((s.streams.get i).adjust x).state ≠ .draining
    rw [(Stream.adjust_bounds x _).1, not_not.1 ho]
    exact nofun
  · exact hself

/-! ### Messages for the fabric (R167) -/

theorem handOver_steady (m : OutMsg) {s : State} (hu : LinkInv s → s.fabric.up = true) :
    StoreSteady s (handOver m s) := by
  refine (handOver_frame m s).steady_of_fabric (fun hl => ?_) ?_
  · refine .of_up ?_ ?_ <;> rw [handOver_fabric]
    · exact hu hl
    · exact Fabric.queued_length m hl.1
  · rw [handOver_fabric]
    rfl

/-! ### Intake (R53, R54) -/

theorem discardIntake_steady (why : DiscardReason) (h : BitVec 16) (n : Byte) {s : State} (hu : s.fabric.up = true) :
    StoreSteady s (discardIntake why h n s) := by
  have hcount : StoreSteady s (countStoreWide why (handOver (.discard h why) s)) :=
    (handOver_steady _ fun _ => hu).trans (countStoreWide_frame why _).steady
  unfold discardIntake
  dsimp only
  split
  · split
    · exact (hcount.trans (countStream_steady why _ _)).trans (postAt_frame _ _ _).steady
    · exact hcount.trans (postAt_frame _ _ _).steady
  · exact hcount.trans (postAt_frame _ _ _).steady

/-- The descriptor that an ENQUEUE accepted by stream `i` puts in the store (R43, R54). -/
def State.enqueued (s : State) (i : Fin 128) (handle length : BitVec 16) : Descriptor :=
  { handle := handle, stream := i, length := length.toNat, arrival := s.now
    staleAt := (s.streams.get i).staleAt s.now, state := .pending }

/-- What an ENQUEUE accepted by stream `i` overtakes: the oldest PENDING descriptor of a CYCLIC stream at its cap (R54). -/
def State.overtaken (s : State) (i : Fin 128) : List Descriptor :=
  if (s.streams.get i).cls = some .cyclic ∧ (s.streams.get i).cap ≤ (s.pendingList i).length then
    (s.pendingList i).take 1
  else []

theorem accept_eq (i : Fin 128) (h n : BitVec 16) (s : State) :
    accept i h n s = (discardList .overtaken (s.overtaken i) s).onStore (· ++ [s.enqueued i h n]) := by
  unfold accept State.overtaken
  dsimp only
  split <;> rfl

theorem overtaken_eq_take (s : State) (i : Fin 128) : ∃ k, s.overtaken i = (s.pendingList i).take k := by
  unfold State.overtaken
  split
  · exact ⟨1, rfl⟩
  · exact ⟨0, rfl⟩

theorem overtaken_mem {s : State} {i : Fin 128} : ∀ d ∈ s.overtaken i, d ∈ s.store ∧ d.stream = i := by
  obtain ⟨k, hk⟩ := overtaken_eq_take s i
  rw [hk]
  exact take_pending_mem

theorem overtaken_discards (i : Fin 128) (s : State) :
    Discards i .overtaken (s.overtaken i) s (discardList .overtaken (s.overtaken i) s) :=
  discardList_discards .overtaken (fun d hd => (overtaken_mem d hd).2) s

/-- After what is overtaken there is room for one more. -/
theorem overtaken_room {s : State} {i : Fin 128} (hh : HandleInv s) (hc : 1 ≤ (s.streams.get i).cap)
    (hlen : (s.pendingList i).length ≤ (s.streams.get i).cap)
    (hroom : ¬ ((s.streams.get i).cap ≤ (s.pendingList i).length ∧ (s.streams.get i).cls ≠ some .cyclic)) :
    ((discardList .overtaken (s.overtaken i) s).pendingList i).length + 1 ≤ (s.streams.get i).cap := by
  have hstore := (overtaken_discards i s).effects.1
  unfold State.overtaken at hstore ⊢
  split at hstore
  next h =>
    rw [if_pos h, pendingList_after_take hh hstore, List.length_drop]
    omega
  next h =>
    rw [if_neg h]
    show (s.pendingList i).length + 1 ≤ _
    have : ¬ (s.streams.get i).cap ≤ (s.pendingList i).length := fun hle =>
      h ⟨by_contra fun hne => hroom ⟨hle, hne⟩, hle⟩
    omega

/-- A descriptor with a handle that is known nowhere joins a store with room for it. -/
theorem HandleInv.enqueue {s : State} (h : HandleInv s) {d : Descriptor} (hroom : s.store.length < 512)
    (hstore : ∀ e ∈ s.store, e.handle ≠ d.handle)
    (hports : ∀ p, ∀ e ∈ (s.ports.get p).outstanding, e.handle ≠ d.handle) : HandleInv (s.onStore (· ++ [d])) := by
  obtain ⟨_, hnodup, hout, hlists, hagree⟩ := h
  refine ⟨?_, ?_, hout, hlists, fun p e he x hx hxe => ?_⟩
  · rw [State.onStore_store, List.length_append]
    exact hroom
  · rw [State.onStore_store, List.map_append, List.nodup_append]
    refine ⟨hnodup, List.nodup_singleton _, fun a ha b hb => ?_⟩
    obtain ⟨e, he, rfl⟩ := List.mem_map.1 ha
    rw [List.map_singleton, List.mem_singleton] at hb
    rw [hb]
    exact hstore e he
  · rw [State.onStore_store, List.mem_append, List.mem_singleton] at hx
    obtain hx | rfl := hx
    · exact hagree p e he x hx hxe
    · exact absurd hxe.symm (hports p e he)

theorem accept_touches {i : Fin 128} {h : BitVec 16} {s : State} (hu : s.fabric.up = true)
    (ho : (s.streams.get i).state = .opened) (hs : ∀ d ∈ s.store, d.handle ≠ h)
    (hp : ∀ p, ∀ e ∈ (s.ports.get p).outstanding, e.handle ≠ h) (hlen : s.store.length < 512)
    (hroom : ¬ ((s.streams.get i).cap ≤ (s.pendingList i).length ∧ (s.streams.get i).cls ≠ some .cyclic))
    (n : BitVec 16) : Touches i s (accept i h n s) := by
  have hdiscards := overtaken_discards i s
  have hgone := hdiscards.touches overtaken_mem
  have hsub : (discardList .overtaken (s.overtaken i) s).store.Sublist s.store := by
    rw [hdiscards.effects.1]
    exact List.filter_sublist
  have hslots : ∀ j, ((discardList .overtaken (s.overtaken i) s).onStore (· ++ [s.enqueued i h n])).slotsOf j =
      (discardList .overtaken (s.overtaken i) s).slotsOf j ++ if i = j then [s.enqueued i h n] else [] := fun j => by
    rw [State.slotsOf, State.onStore_store, List.filter_append, List.filter_singleton]
    simp [State.enqueued, State.slotsOf]
  rw [accept_eq]
  refine ⟨hgone.up, fun hl => .of_up (hgone.up.trans hu) (hgone.link hl).1, fun hh => ?_, fun hh j hj => ?_,
    hgone.others, fun hh hb => ?_, hgone.ranged⟩
  · refine (hgone.handle hh).enqueue (hsub.length_le.trans_lt hlen) (fun e he => hs e (hsub.subset he)) ?_
    rw [hdiscards.frame.ports]
    exact hp
  · rw [hslots, if_neg (Ne.symm hj), List.append_nil, hgone.apart hh j hj]
  · obtain ⟨_, hcap, hpending⟩ := hb
    rw [← pendingList_eq] at hpending
    have hafter := overtaken_room hh (hcap (by rw [ho]; exact nofun)) hpending hroom
    rw [pendingList_eq] at hafter
    rw [Stream.Bounded, State.onStore_streams, hdiscards.record, hslots, if_pos rfl, List.filter_append,
      List.length_append]
    refine ⟨fun hx => ?_, fun _ => hcap (by rw [ho]; exact nofun), hafter⟩
    rw [ho] at hx
    cases hx

theorem isOutstanding_iff {s : State} {h : BitVec 16} :
    s.isOutstanding h = true ↔ ∃ p, ∃ e ∈ (s.ports.get p).outstanding, e.handle = h := by
  rw [State.isOutstanding, Tbl.any_xs]
  simp [List.any_eq_true]

theorem inStore_iff {s : State} {h : BitVec 16} : s.inStore h = true ↔ ∃ d ∈ s.store, d.handle = h := by
  simp [State.inStore, List.any_eq_true]

theorem ite_some_eq_none_iff {α : Type} {c : Prop} [Decidable c] {a : α} {x : Option α} :
    (if c then some a else x) = none ↔ ¬ c ∧ x = none := by
  split <;> simp [*]

/-- What an intake that passes checks 4 to 8 of R53 has found. -/
theorem State.intakeReason_none {s : State} {i : Fin 128} (h : s.intakeReason i = none) :
    (s.streams.get i).state ≠ .draining ∧ s.store.length < 512 ∧
      ¬ ((s.streams.get i).cap ≤ (s.pendingList i).length ∧ (s.streams.get i).cls ≠ some .cyclic) := by
  unfold State.intakeReason at h
  dsimp only at h
  rw [ite_some_eq_none_iff, ite_some_eq_none_iff, ite_some_eq_none_iff, ite_some_eq_none_iff, ite_some_eq_none_iff] at h
  obtain ⟨hdraining, _, _, hlen, hcap, _⟩ := h
  exact ⟨hdraining, Nat.lt_of_not_le hlen, hcap⟩

theorem takeEnqueue_steady (k : Byte) (h n : BitVec 16) {s : State} (hu : s.fabric.up = true) :
    StoreSteady s (takeEnqueue k h n s) := by
  have hrefused := fun why => discardIntake_steady why h k hu
  unfold takeEnqueue
  split
  · exact hrefused _
  split
  · exact hrefused _
  next hknown =>
  split
  · exact hrefused _
  next i _ =>
  split
  · exact hrefused _
  next hfree =>
  split
  · exact hrefused _
  next hreason =>
    obtain ⟨hdraining, hlen, hroom⟩ := State.intakeReason_none hreason
    have ho : (s.streams.get i).state = .opened := by
      cases hx : (s.streams.get i).state with
      | free => exact absurd hx hfree
      | opened => rfl
      | draining => exact absurd hx hdraining
    have hnew : (∀ d ∈ s.store, d.handle ≠ h) ∧ ∀ p, ∀ e ∈ (s.ports.get p).outstanding, e.handle ≠ h :=
      ⟨fun d hd he => hknown (.inl (inStore_iff.2 ⟨d, hd, he⟩)),
        fun p e he hee => hknown (.inr (isOutstanding_iff.2 ⟨p, e, he, hee⟩))⟩
    refine (accept_touches hu ho hnew.1 hnew.2 hlen hroom n).steady ?_
    rw [accept_eq, State.onStore_streams, (overtaken_discards i s).record, ho]
    exact nofun

end Sys2Proof.Machine
end

section
/-! Descriptors on the lane: a release, its confirmation and its write-off, and the state of the ports. -/

namespace Sys2Proof.Machine

-- One proof after the other: each waiting thread would hold its own stack.
set_option Elab.async false

/-! ### Release (R60, R78, R81) -/

theorem LinkInv.up_of_port {s : State} (h : LinkInv s) {p : Fin 24} (hp : (s.ports.get p).up = true) :
    s.fabric.up = true := by
  by_contra hu
  obtain ⟨_, _, _, hidle⟩ := h.2 (Bool.eq_false_iff.2 hu)
  rw [(hidle p).1] at hp
  cases hp

/-- The descriptor with the handle in WIRE-HELD (R60). -/
def holdWire (h : BitVec 16) (d : Descriptor) : Descriptor :=
  if d.handle = h then { d with state := .wireHeld, staleAt := none } else d

theorem storeRelease_true (h : BitVec 16) (ds : List Descriptor) : storeRelease true h ds = ds.map (holdWire h) := rfl

section holdWire
variable (h : BitVec 16) (d : Descriptor)

@[simp] theorem holdWire_handle : (holdWire h d).handle = d.handle := by
  unfold holdWire
  split <;> rfl

@[simp] theorem holdWire_stream : (holdWire h d).stream = d.stream := by
  unfold holdWire
  split <;> rfl

theorem holdWire_wireHeld (hd : d.state = .wireHeld ∨ d.handle = h) : (holdWire h d).state = .wireHeld := by
  unfold holdWire
  split
  · rfl
  next hn => exact hd.resolve_right hn

theorem holdWire_pending (hd : (holdWire h d).state = .pending) : d.state = .pending := by
  unfold holdWire at hd
  split at hd
  · cases hd
  · exact hd

end holdWire

theorem slotsOf_holdWire (h : BitVec 16) (s : State) (j : Fin 128) :
    (s.onStore (·.map (holdWire h))).slotsOf j = (s.slotsOf j).map (holdWire h) := by
  rw [State.slotsOf, State.onStore_store, List.filter_map, State.slotsOf]
  congr 1
  exact List.filter_congr fun d _ => by rw [Function.comp_apply, holdWire_stream]

theorem HandleInv.holdWire {s : State} (hs : HandleInv s) (h : BitVec 16) :
    HandleInv (s.onStore (·.map (holdWire h))) := by
  obtain ⟨hlen, hnodup, hout, hlists, hagree⟩ := hs
  refine ⟨by rwa [State.onStore_store, List.length_map], ?_, hout, hlists, fun p e he d hd hde => ?_⟩
  · rw [State.onStore_store, List.map_map]
    simpa only [Function.comp_def, holdWire_handle] using hnodup
  · obtain ⟨d', hd', rfl⟩ := List.mem_map.1 hd
    rw [holdWire_handle] at hde
    obtain ⟨hstate, hstream⟩ := hagree p e he d' hd' hde
    exact ⟨holdWire_wireHeld h d' (.inl hstate), by rw [holdWire_stream, hstream]⟩

/-- A released descriptor becomes WIRE-HELD or leaves its slot (R60). -/
theorem storeRelease_touches {s : State} {d : Descriptor} (hd : d ∈ s.store) (wire : Bool) :
    Touches d.stream s (s.onStore (storeRelease wire d.handle)) := by
  cases wire with
  | false => exact freeSlot_touches hd
  | true =>
    rw [funext (storeRelease_true d.handle)]
    refine ⟨rfl, fun hl => .of_up (hl.up_of_store hd) hl.1, fun hh => hh.holdWire _, fun hh j hj => ?_, fun _ _ => rfl,
      fun _ hb => ?_, id⟩
    · refine (slotsOf_holdWire ..).trans ((List.map_congr_left fun e he => ?_).trans (List.map_id _))
      obtain ⟨hstore, hstream⟩ := List.mem_filter.1 he
      refine if_neg fun hhandle => hj ?_
      rw [← beq_iff_eq.1 hstream, hh.unique hstore hd hhandle]
    · exact (slotsOf_holdWire d.handle s d.stream).symm ▸ hb.map (holdWire_pending d.handle)

/-- The fields of a record that a release counts (R81). -/
theorem countRelease_touches (i : Fin 128) (s : State) :
    Touches i s (s.onStream i fun x => { x with credit := x.credit - 1, released := satInc x.released }) :=
  onStream_touches rfl rfl fun hr => by
    obtain ⟨hcredit, hrest⟩ := hr
    exact ⟨(Nat.sub_le _ _).trans hcredit, hrest⟩

/-- A handle that stands in no outstanding list joins that of a port with room for it. -/
theorem HandleInv.addOutstanding {s : State} (h : HandleInv s) {p : Fin 24} {f : Port → Port} {e : Outstanding}
    (hf : (f (s.ports.get p)).outstanding = (s.ports.get p).outstanding ++ [e])
    (hroom : (s.ports.get p).outstanding.length < 2)
    (hnew : ∀ q, ∀ x ∈ (s.ports.get q).outstanding, x.handle ≠ e.handle)
    (hagree : ∀ d ∈ s.store, d.handle = e.handle → d.state = .wireHeld ∧ d.stream = e.stream) :
    HandleInv (s.onPort p f) := by
  obtain ⟨hlen, hnodup, hout, hlists, hold⟩ := h
  have hget : ∀ q, ((s.onPort p f).ports.get q).outstanding =
      (s.ports.get q).outstanding ++ if q = p then [e] else [] := fun q => by
    rw [State.onPort_ports, Tbl.get_upd]
    split
    next hq => rw [hf, hq]
    · rw [List.append_nil]
  have hhandles : ∀ q, ((s.onPort p f).ports.get q).handles =
      (s.ports.get q).handles ++ if q = p then [e.handle] else [] := fun q => by
    rw [Port.handles, hget, List.map_append]
    split <;> rfl
  have hfresh : ∀ q, e.handle ∉ (s.ports.get q).handles := fun q hm => by
    obtain ⟨x, hx, hxe⟩ := List.mem_map.1 hm
    exact hnew q x hx hxe
  rw [handles_nodup_iff] at hlists
  refine ⟨hlen, hnodup, fun q => ?_, (handles_nodup_iff _).2 ⟨fun q => ?_, fun q r hqr x hx hy => ?_⟩,
    fun q x hx d hd hdx => ?_⟩
  · rw [hget]
    split
    next hq => rw [hq, List.length_append]; exact hroom
    · rw [List.append_nil]; exact hout q
  · rw [hhandles, List.nodup_append]
    refine ⟨hlists.1 q, by split <;> simp, fun x hx y hy hxy => hfresh q ?_⟩
    split at hy
    · rwa [← List.mem_singleton.1 hy, ← hxy]
    · cases hy
  · rw [hhandles, List.mem_append] at hx hy
    have hlast : ∀ q', (x ∈ if q' = p then [e.handle] else []) → q' = p ∧ x = e.handle := fun q' hm => by
      split at hm
      next hq => exact ⟨hq, List.mem_singleton.1 hm⟩
      · cases hm
    obtain hx | hx := hx <;> obtain hy | hy := hy
    · exact hlists.2 q r hqr hx hy
    · exact hfresh q ((hlast r hy).2 ▸ hx)
    · exact hfresh r ((hlast q hx).2 ▸ hy)
    · exact hqr ((hlast q hx).1.trans (hlast r hy).1.symm)
  · rw [hget, List.mem_append] at hx
    obtain hx | hx := hx
    · exact hold q x hx d hd hdx
    · split at hx
      · rw [List.mem_singleton.1 hx] at hdx ⊢
        exact hagree d hd hdx
      · cases hx

/-- The store and the record of stream `i` after the release of its descriptor `d` (R60, R73, R81). -/
def State.takenOut (s : State) (i : Fin 128) (d : Descriptor) : State :=
  (drainCheck i ((s.onStore (storeRelease (s.streams.get i).wireHold d.handle)).onStream i fun x =>
    { x with credit := x.credit - 1, released := satInc x.released })).onStream i Stream.recover

theorem releaseOne_eq (p : Fin 24) (t : Tier) (n : Nat) (i : Fin 128) (d : Descriptor) (s : State) :
    releaseOne p t n i d s = (handOver (.release d.handle p) (s.takenOut i d)).onPort p fun x =>
      { (x.point t i) with
        outstanding := x.outstanding ++
          [{ handle := d.handle, stream := i, releaseMt := s.now, overdue := s.now + overdueNs }]
        cyclicRun := n
        released := satInc x.released } := rfl

section release
variable {s : State} {i : Fin 128} {d : Descriptor} {p : Fin 24}

theorem takenOut_steady (hd : d ∈ s.store) (hi : d.stream = i) : StoreSteady s (s.takenOut i d) := by
  subst hi
  exact ((storeRelease_touches hd _).trans (countRelease_touches _ _)).drained.trans
    (onStream_steady (Stream.recover_bounds _).1 (Stream.recover_bounds _).2 Stream.recover_ranged)

theorem takenOut_store : (s.takenOut i d).store = storeRelease (s.streams.get i).wireHold d.handle s.store := by
  rw [State.takenOut, State.onStream_store, (drainCheck_frame i _).store]
  rfl

theorem takenOut_ports : (s.takenOut i d).ports = s.ports := by
  rw [State.takenOut, State.onStream_ports, (drainCheck_frame i _).ports]
  rfl

/-- What the store holds under the handle of a release is WIRE-HELD, and of the stream released. -/
theorem takenOut_handle (hh : HandleInv s) (hd : d ∈ s.store) (hi : d.stream = i) :
    ∀ x ∈ (s.takenOut i d).store, x.handle = d.handle → x.state = .wireHeld ∧ x.stream = i := by
  rw [takenOut_store]
  cases (s.streams.get i).wireHold with
  | false => exact fun x hx he => absurd he (bne_iff_ne.1 (List.mem_filter.1 hx).2)
  | true =>
    intro x hx he
    obtain ⟨y, hy, rfl⟩ := List.mem_map.1 hx
    rw [show (if y.handle = d.handle then { y with state := .wireHeld, staleAt := none } else y) =
      holdWire d.handle y from rfl] at he ⊢
    rw [holdWire_handle] at he
    rw [holdWire_stream, hh.unique hy hd he, hi]
    exact ⟨holdWire_wireHeld _ _ (.inr rfl), rfl⟩

theorem releaseOne_steady (hp : (s.ports.get p).canTake = true) (hd : d ∈ s.pendingList i) (t : Tier) (n : Nat) :
    StoreSteady s (releaseOne p t n i d s) := by
  obtain ⟨hstore, hi, hpending⟩ := mem_pendingList.1 hd
  simp only [Port.canTake, Bool.and_eq_true, decide_eq_true_eq] at hp
  obtain ⟨⟨hup, _⟩, hroom⟩ := hp
  have hout := takenOut_steady hstore hi
  have hlane : StoreSteady s (handOver (.release d.handle p) (s.takenOut i d)) :=
    hout.trans (handOver_steady _ fun hl => hl.up_of_port (p := p) (by rw [takenOut_ports]; exact hup))
  have hports : (handOver (.release d.handle p) (s.takenOut i d)).ports = s.ports :=
    (handOver_frame _ _).ports.trans takenOut_ports
  rw [releaseOne_eq]
  refine ⟨⟨fun hl => ?_, fun hh => ?_, fun hh hs => ?_, fun hc => ?_⟩, hlane.up⟩
  · exact .of_up (hlane.up.trans (hl.up_of_port hup)) (hlane.link hl).1
  · refine (hlane.handle hh).addOutstanding rfl ?_ (fun q x hx hxe => ?_) ?_
    · rwa [hports]
    · rw [hports] at hx
      obtain ⟨hwire, _⟩ := hh.2.2.2.2 q x hx d hstore hxe.symm
      rw [hpending] at hwire
      cases hwire
    · rw [(handOver_frame _ _).store]
      exact takenOut_handle hh hstore hi
  · exact (State.onPort_frame p _ _).streamInv (hlane.stream hh hs)
  · exact (State.onPort_frame p _ _).creditInv (hlane.credit hc)

theorem execRelease_steady {t : State} (h : execRelease p s = .next t) : StoreSteady s t := by
  unfold execRelease at h
  split at h
  next hp =>
    split at h
    · split at h
      next hd => exact Host.Outcome.next.inj h ▸ releaseOne_steady hp (List.mem_of_head? hd) _ _
      · exact Host.Outcome.next.inj h ▸ steady_chains.refl s
    · exact Host.Outcome.next.inj h ▸ steady_chains.refl s
  · exact Host.Outcome.next.inj h ▸ steady_chains.refl s

end release

/-! ### Confirmation and write-off (R60, R83, R84) -/

/-- A change of one port in which outstanding entries only leave, and by which it does not wake on a silent lane. -/
theorem onPort_steady {p : Fin 24} {f : Port → Port} {s : State}
    (ho : ((f (s.ports.get p)).outstanding.map Outstanding.key).Sublist
      ((s.ports.get p).outstanding.map Outstanding.key))
    (hi : s.fabric.up = false → (s.ports.get p).Idle → (f (s.ports.get p)).Idle) : StoreSteady s (s.onPort p f) := by
  refine (State.onPort_frame p f s).steady_of_ports (fun q => ?_) fun hu q hq => ?_ <;>
    rw [State.onPort_ports, Tbl.get_upd] <;> split
  next h => exact h ▸ ho
  next => exact List.Sublist.refl _
  next h => exact hi hu (h ▸ hq)
  next => exact hq

theorem handleSettled_steady (h : BitVec 16) (s : State) : StoreSteady s (handleSettled h s) := by
  unfold handleSettled
  split
  next d hd =>
    have hfound := List.find?_some hd
    have hh : d.handle = h := beq_iff_eq.1 (Bool.and_eq_true_iff.1 hfound).1
    exact hh ▸ (freeSlot_touches (List.mem_of_find?_eq_some hd)).drained
  · exact steady_chains.refl s

/-- A handle leaves the outstanding list of a port. -/
theorem dropOutstanding_steady {p : Fin 24} {f : Port → Port} {h : BitVec 16} {s : State}
    (hf : ∀ x, (f x).outstanding = dropOutstanding h x.outstanding)
    (hi : ∀ x : Port, (f x).up = x.up ∧ (f x).paused = x.paused ∧ (f x).high = x.high) :
    StoreSteady s (s.onPort p f) := by
  refine onPort_steady (by rw [hf]; exact List.filter_sublist.map _) fun _ hidle => ?_
  obtain ⟨hup, hpaused, hhigh⟩ := hi (s.ports.get p)
  unfold Port.Idle at hidle ⊢
  rw [hup, hpaused, hhigh, hf]
  obtain ⟨h1, h2, h3, h4⟩ := hidle
  exact ⟨h1, h2, h3, by rw [h4]; rfl⟩

theorem takeSent_steady (h : BitVec 16) (wire : Int) (s : State) : StoreSteady s (takeSent h wire s) := by
  unfold takeSent
  split
  · refine (dropOutstanding_steady (h := h) ?_ ?_).trans (handleSettled_steady h _)
    · exact fun _ => rfl
    · exact fun _ => ⟨rfl, rfl, rfl⟩
  · exact (postAll_frame _ s).steady

theorem writeOff_steady (p : Fin 24) (e : Outstanding) (s : State) : StoreSteady s (writeOff p e s) := by
  refine ((dropOutstanding_steady (h := e.handle) ?_ ?_).trans (handleSettled_steady e.handle _)).trans
    (chargeLost_steady e.stream _)
  · exact fun _ => rfl
  · exact fun _ => ⟨rfl, rfl, rfl⟩

theorem execSentOverdueExpiry_steady {x : BitVec 16} {s t : State} (h : execSentOverdueExpiry x s = .next t) :
    StoreSteady s t := by
  unfold execSentOverdueExpiry at h
  split at h
  · split at h
    · exact Host.Outcome.next.inj h ▸ steady_chains.ite _ (writeOff_steady ..)
    · exact Host.Outcome.next.inj h ▸ steady_chains.refl s
  · exact Host.Outcome.next.inj h ▸ steady_chains.refl s

theorem execPacingQueueExpiry_steady {q : Fin 8} {s t : State} (h : execPacingQueueExpiry q s = .next t) :
    StoreSteady s t := by
  unfold execPacingQueueExpiry at h
  dsimp only at h
  split at h
  · exact Host.Outcome.next.inj h ▸
      steady_chains.ite _ ((State.onQueue_frame q _ s).steady.trans (accrueAll_steady q _))
  · exact Host.Outcome.next.inj h ▸ steady_chains.refl s

theorem ownPortSet_steady (a b : Byte) (s : State) : StoreSteady s (ownPortSet a b s).state := by
  unfold ownPortSet
  split
  · exact onPort_steady (List.Sublist.refl _) fun _ hidle => hidle
  · exact steady_chains.refl s

end Sys2Proof.Machine
end

section
/-! What the stations, the grants, the ports and the Time Unit keep of the bounds of the store and the lane. -/

namespace Sys2Proof.Machine

-- One proof after the other: each waiting thread would hold its own stack.
set_option Elab.async false

/-! ### Stations (R29, R30, R32, R33, R58) -/

theorem emitOrder_steady (i : Fin 32) (st : StationState) (s : State) : StoreSteady s (emitOrder i st s) := by
  unfold emitOrder
  split
  · split
    next hu => exact (State.onStation_frame i _ s).steady.trans (handOver_steady _ fun _ => hu)
    · exact steady_chains.refl s
  · exact steady_chains.refl s

theorem tellOfState_steady (i : Fin 32) (st : StationState) (s : State) : StoreSteady s (tellOfState i st s) := by
  unfold tellOfState
  split
  · exact serviceEntered_steady _ s
  · exact (leaveNeeds_frame i s).steady
  · exact steady_chains.refl s

theorem turnStation_steady (i : Fin 32) (st : StationState) (b : Bool) (s : State) :
    StoreSteady s (turnStation i st b s) :=
  ((setStation_frame i st s).steady.trans (post_frame _ b _).steady).trans (emitOrder_steady i st _)

theorem moveStation_steady (i : Fin 32) (st : StationState) (s : State) : StoreSteady s (moveStation i st s) :=
  (turnStation_steady i st _ s).trans (tellOfState_steady i st _)

theorem portLinkChanged_steady (p : Fin 24) (up : Bool) (s : State) : StoreSteady s (portLinkChanged p up s) := by
  unfold portLinkChanged
  split
  · exact steady_chains.refl s
  split
  · exact steady_chains.refl s
  · exact moveStation_steady ..
  · exact moveStation_steady ..
  · exact steady_chains.refl s

theorem moveWindow_steady (a : GrantAsk) (x y : StationState) (s : State) : StoreSteady s (moveWindow a x y s) :=
  steady_chains.forEach (fun i u => turnStation_steady i y true u) _ s

theorem enterWindow_steady (a : GrantAsk) (s : State) : StoreSteady s (enterWindow a s) :=
  (moveWindow_steady a _ _ s).trans (serviceEntered_steady _ _)

theorem allAbsent_steady (s : State) : StoreSteady s (allAbsent s) := by
  refine steady_chains.forEach (fun i u => ?_) _ s
  split
  · exact steady_chains.refl u
  · exact steady_chains.refl u
  · exact moveStation_steady i _ u

theorem warmStations_steady (s : State) : StoreSteady s (warmStations s) :=
  steady_chains.forEach (fun i u =>
    steady_chains.ite _ ((setStation_frame i _ u).steady.trans (emitOrder_steady i _ _))) _ s

theorem placed_steady (i : Fin 32) (st : StationState) (f : Station → Station) (s : State) :
    StoreSteady s (emitOrder i st (postConfigured i (s.onStation i f))) :=
  ((State.onStation_frame i f s).steady.trans (postStation_frame _ i _).steady).trans (emitOrder_steady i st _)

theorem configure_steady (i : Fin 32) (r : Role) (p : Fin 24) (n : Nat) (s : State) :
    StoreSteady s (configure i r p n s) := by
  unfold configure
  split
  · exact placed_steady ..
  split
  · exact (State.onStation_frame i _ s).steady.trans (postStation_frame _ i _).steady
  · have hmoved := fun u => (placed_steady i (s.stateByLink p) u s).trans (clearStationField_steady i (some p) _)
    unfold configureMoved
    dsimp only
    split
    · exact (hmoved _).trans (leaveNeeds_frame i _).steady
    · exact hmoved _

theorem remove_steady (i : Fin 32) (s : State) : StoreSteady s (remove i s) :=
  (((postStation_frame _ i s).steady.trans (State.onStation_frame i _ _).steady).trans
    (clearStationField_steady i none _)).trans (leaveNeeds_frame i _).steady

theorem ownStationSet_steady (a b c d : Byte) (s : State) : StoreSteady s (ownStationSet a b c d s).state := by
  have hself := steady_chains.refl s
  unfold ownStationSet
  split
  · exact answer_ite_steady hself fun _ => answer_ite_steady hself fun _ => answer_ite_steady hself fun _ =>
      answer_ite_steady hself fun _ => answer_ite_steady hself fun _ => configure_steady ..
  · exact hself

theorem ownStationRemove_steady (a : Byte) (s : State) : StoreSteady s (ownStationRemove a s).state := by
  have hself := steady_chains.refl s
  unfold ownStationRemove
  split
  · exact hself
  split
  · exact answer_ite_steady hself fun _ => remove_steady ..
  · exact answer_ite_steady hself fun _ => remove_steady ..
  · exact hself

theorem ownStationRun_steady (a : Byte) (s : State) : StoreSteady s (ownStationRun a s).state := by
  unfold ownStationRun
  split
  · exact steady_chains.refl s
  next i _ =>
    exact answer_ite_steady (a := done [] (moveStation i .run s)) (moveStation_steady i .run s) fun _ =>
      steady_chains.refl s

theorem ownStationHold_steady (a : Byte) (s : State) : StoreSteady s (ownStationHold a s).state := by
  have hself := steady_chains.refl s
  unfold ownStationHold
  split
  · exact hself
  next i _ =>
  split
  · exact moveStation_steady i .held s
  · exact hself
  · exact hself
  · exact hself

/-! ### Grants (R151, R159) -/

theorem withdraw_steady (a : GrantAsk) (s : State) : StoreSteady s (withdraw a s) := by
  have hmove : StoreSteady s (if a.level = .intervene then moveWindow a .service .held s else s) :=
    steady_chains.ite _ (moveWindow_steady ..)
  unfold withdraw
  dsimp only
  split
  · exact hmove.trans (closeEnded_steady a _)
  · exact hmove

theorem endGrant_steady (k : Fin 4) (why : EndReason) (s : State) : StoreSteady s (endGrant k why s) := by
  have hfree := (State.onSlot_frame k (·.release why) s).steady
  unfold endGrant
  dsimp only
  split
  · exact (hfree.trans (withdraw_steady _ _)).trans (postAll_frame _ _).steady
  · exact hfree.trans (postAll_frame _ _).steady

theorem concur_steady (k : Fin 4) (a : GrantAsk) (s : State) : StoreSteady s (concur k a s) :=
  ((State.onSlot_frame k _ s).steady.trans (steady_chains.ite _ (enterWindow_steady a _))).trans
    (postAll_frame _ _).steady

theorem ownGrantConcur_steady (a : Byte) (n : BitVec 16) (s : State) : StoreSteady s (ownGrantConcur a n s).state := by
  have hself := steady_chains.refl s
  unfold ownGrantConcur
  split
  · exact hself
  dsimp only
  split
  · exact answer_ite_steady hself fun _ => concur_steady ..
  · exact hself

theorem ownGrantDecline_steady (a : Byte) (n : BitVec 16) (s : State) :
    StoreSteady s (ownGrantDecline a n s).state := by
  unfold ownGrantDecline
  split
  · exact steady_chains.refl s
  · exact answer_ite_steady (endGrant_steady ..) fun _ => steady_chains.refl s

theorem ownGrantRelease_steady (a : Byte) (n : BitVec 16) (s : State) :
    StoreSteady s (ownGrantRelease a n s).state := by
  unfold ownGrantRelease
  split
  · exact steady_chains.refl s
  · exact answer_ite_steady (steady_chains.refl s) fun _ => endGrant_steady ..

theorem ownGrantRevoke_steady (a : Byte) (n : BitVec 16) (s : State) :
    StoreSteady s (ownGrantRevoke a n s).state := by
  unfold ownGrantRevoke
  split
  · exact steady_chains.refl s
  · exact answer_ite_steady (steady_chains.refl s) fun _ => endGrant_steady ..

/-! ### The state of a port (R76) -/

theorem linkChange_steady (p : Fin 24) (up : Bool) {s : State} (hu : s.fabric.up = true) :
    StoreSteady s (linkChange p up s) := by
  have hport : StoreSteady s (s.onPort p fun x => { x with up := up }) :=
    onPort_steady (List.Sublist.refl _) fun hd => by rw [hu] at hd; cases hd
  have hmap := (hport.trans (postAt_frame (noticePortLink p up) (some p) _).steady).trans
    (portLinkChanged_steady p up _)
  unfold linkChange
  dsimp only
  split
  · exact hmap
  · exact hmap.trans (portWentDown_steady p _)

theorem takePortState_steady (p : Fin 24) (u z w : Bool) {s : State} (hu : s.fabric.up = true) :
    StoreSteady s (takePortState p u z w s) := by
  have hlink : StoreSteady s (if (s.ports.get p).up = u then s else linkChange p u s) := by
    split
    · exact steady_chains.refl s
    · exact linkChange_steady p u hu
  have hport := hlink.trans (onPort_steady (p := p) (f := fun x => { x with paused := z, high := w })
    (List.Sublist.refl _) fun hd => by rw [hlink.up, hu] at hd; cases hd)
  unfold takePortState
  dsimp only
  split
  · exact hport.trans (watermarkHigh_steady p _)
  · exact hport

/-! ### Steps of MT (R18) -/

/-- A descriptor at a step by `d`: the staleness deadline of a PENDING one of a CYCLIC stream moves (R18). -/
def State.shiftStale (s : State) (d : Int) (x : Descriptor) : Descriptor :=
  if x.state = .pending ∧ (s.streams.get x.stream).cls = some .cyclic then
    { x with staleAt := x.staleAt.map (· + d) }
  else x

theorem shiftStale_key (s : State) (d : Int) (x : Descriptor) : (s.shiftStale d x).key = x.key := by
  unfold State.shiftStale
  split <;> rfl

theorem shiftDeadlines_store (d : Int) (s : State) :
    (shiftDeadlines d s).store = s.store.map (s.shiftStale d) := rfl

theorem shiftDeadlines_ports (d : Int) (s : State) : (shiftDeadlines d s).ports = s.ports.map (·.shift d) := rfl

theorem shiftDeadlines_slotsOf (d : Int) (s : State) (i : Fin 128) :
    (shiftDeadlines d s).slotsOf i = (s.slotsOf i).map (s.shiftStale d) := by
  rw [State.slotsOf, shiftDeadlines_store, List.filter_map, State.slotsOf]
  congr 1
  refine List.filter_congr fun x _ => ?_
  have hkey := shiftStale_key s d x
  simp only [Descriptor.key, Prod.mk.injEq] at hkey
  rw [Function.comp_apply, hkey.2.1]

theorem shiftDeadlines_steady (d : Int) (s : State) : StoreSteady s (shiftDeadlines d s) := by
  have hframe := shiftDeadlines_frame d s
  refine ⟨⟨fun hl => ⟨hl.1, fun hu => ?_⟩, fun hh => hh.thin ?_ fun p => ?_, fun _ hs => ?_, hframe.creditInv⟩, rfl⟩
  · obtain ⟨hout, hstore, halign, hidle⟩ := hl.2 hu
    refine ⟨hout, ?_, halign, fun p => ?_⟩
    · rw [shiftDeadlines_store, hstore]
      rfl
    · rw [shiftDeadlines_ports, Tbl.get_map]
      obtain ⟨h1, h2, h3, h4⟩ := hidle p
      exact ⟨h1, h2, h3, by rw [Port.shift, h4]; rfl⟩
  · rw [shiftDeadlines_store, List.map_map]
    exact (List.map_congr_left fun x _ => shiftStale_key s d x) ▸ List.Sublist.refl _
  · rw [shiftDeadlines_ports, Tbl.get_map, Port.shift, List.map_map]
    exact List.Sublist.refl _
  · rw [streamInv_iff] at hs ⊢
    intro i
    rw [hframe.streams, shiftDeadlines_slotsOf]
    refine (hs i).map fun x hx => ?_
    have hkey := shiftStale_key s d x
    simp only [Descriptor.key, Prod.mk.injEq] at hkey
    rw [← hkey.2.2, hx]

theorem stepTime_steady (src : TimedSource) (o : Int) (s : State) : StoreSteady s (stepTime src o s) :=
  ((State.onTime_frame _ s).steady.trans (shiftDeadlines_steady _ _)).trans (postAll_frame _ _).steady

theorem sample_steady (src : TimedSource) (o : Int) (ms : Nat) (mt : Int) (s : State) :
    StoreSteady s (sample src o ms mt s) := by
  unfold sample
  dsimp only
  split
  · exact (recordOffset_frame _ _ _ s).steady.trans (stepTime_steady ..)
  · exact ((recordOffset_frame _ _ _ s).steady.trans (State.onTime_frame _ _).steady).trans (lockStage_frame _ _).steady

theorem takeSync_steady (q : Byte) (sec : BitVec 48) (ns : BitVec 32) (x : Stamp) (s : State) :
    StoreSteady s (takeSync q sec ns x s) := by
  have ha := fun b d => (State.onTime_frame (fun t => { t with lastSeq := some q }) s).steady.trans
    (arrival_frame .grandmaster b d x _).steady
  unfold takeSync
  dsimp only
  split
  · exact (postAll_frame _ s).steady
  split
  · exact (postAll_frame _ s).steady
  split
  · exact (ha _ _).trans (sample_steady ..)
  · exact ha _ _

theorem execPulseEdge_steady {e : PulseEdge} {x : Option Stamp} {s t : State} (h : execPulseEdge e s x = .next t) :
    StoreSteady s t := by
  have ha := fun b d y => (arrival_frame .hallPulse b d y s).steady
  unfold execPulseEdge at h
  dsimp only at h
  split at h
  · exact Host.Outcome.next.inj h ▸ steady_chains.refl s
  split at h
  · exact Host.Outcome.next.inj h ▸ (State.onTime_frame _ s).steady
  · cases h
    split
    · exact ((ha _ _ _).trans (State.onTime_frame _ _).steady).trans (sample_steady ..)
    · exact ha _ _ _

end Sys2Proof.Machine
end

section
/-! What every step keeps of the bounds of the store, the streams and the lane. -/

namespace Sys2Proof.Machine

-- One proof after the other: each waiting thread would hold its own stack.
set_option Elab.async false

/-! ### The Fabric Port (R164 to R167) -/

theorem onFabric_steady {f : Fabric → Fabric} {s : State} (hu : (f s.fabric).up = s.fabric.up)
    (hl : LinkInv s → LinkInv (s.onFabric f)) : StoreSteady s (s.onFabric f) :=
  (State.onFabric_frame f s).steady_of_fabric hl hu

theorem malformed_steady (k : Byte) (why : MessageFault) (s : State) : StoreSteady s (malformed k why s) :=
  (onFabric_steady (f := fun f => { f with malformed := satInc f.malformed }) rfl id).trans (postAll_frame _ _).steady

theorem rejectCell_steady (p : Fin 24) (why : MessageFault) (s : State) : StoreSteady s (rejectCell p why s) :=
  (onFabric_steady (f := fun f => { f with rejectedCells := satInc f.rejectedCells }) rfl id).trans
    (postAll_frame _ _).steady

theorem execLossOfAlignment_steady {s t : State} (h : execLossOfAlignment s = .next t) : StoreSteady s t := by
  cases h
  split
  next hu => exact onFabric_steady rfl fun hl => .of_up hu.1 hl.1
  · exact steady_chains.refl s

theorem execAlignmentRegained_steady {s t : State} (h : execAlignmentRegained s = .next t) : StoreSteady s t := by
  have hcancel : StoreSteady s (s.onFabric fun f => { f with alignTimer := none }) := by
    refine onFabric_steady rfl fun hl => ⟨hl.1, fun hu => ?_⟩
    obtain ⟨hout, hstore, _, hidle⟩ := hl.2 hu
    exact ⟨hout, hstore, rfl, hidle⟩
  unfold execAlignmentRegained at h
  split at h
  · exact Host.Outcome.next.inj h ▸ steady_chains.ite _ hcancel
  · exact Host.Outcome.next.inj h ▸ steady_chains.refl s

theorem execOutboundMessageSent_steady {s t : State} (h : execOutboundMessageSent s = .next t) : StoreSteady s t := by
  unfold execOutboundMessageSent at h
  split at h
  next m rest hu hout =>
    refine Host.Outcome.next.inj h ▸ onFabric_steady rfl fun hl => .of_up hu ?_
    have hlen := hl.1
    rw [hout] at hlen
    exact (Nat.le_succ _).trans hlen
  · exact Host.Outcome.next.inj h ▸ steady_chains.refl s

theorem linkUp_kept {s : State} (hd : s.fabric.up = false) : StoreKept s (linkUp s) := by
  have hframe := linkUp_frame s
  refine ⟨fun hl => .of_up rfl ?_, hframe.handleInv, fun _ => hframe.streamInv, hframe.creditInv⟩
  show (OutMsg.resync :: s.fabric.outbound).length ≤ 1024
  rw [(hl.2 hd).1]
  decide

/-! ### The loss of the link (R64, R92, R165) -/

/-- Every DRAINING stream of a list has become FREE where the store is empty (R64). -/
theorem drained_of_forEach (xs : List (Fin 128)) {s : State} (hs : s.store = [])
    (h : ∀ i, i ∉ xs → (s.streams.get i).state ≠ .draining) :
    ∀ i, ((forEach xs drainCheck s).streams.get i).state ≠ .draining := by
  induction xs generalizing s with
  | nil => exact fun i => h i List.not_mem_nil
  | cons x xs ih =>
    refine ih (by rw [(drainCheck_frame x s).store, hs]) fun i hi => ?_
    by_cases hx : i = x
    · subst hx
      have hnone : s.holdsNone i = true := by rw [State.holdsNone, hs]; rfl
      rw [drainCheck_record]
      dsimp only
      split
      · exact nofun
      next hn => exact fun hd => hn ⟨hd, hnone⟩
    · rw [drainCheck_others x s i hx]
      exact h i fun hm => (List.mem_cons.1 hm).elim hx hi

/-- Bounds and ranges of every stream, kept by each drain. -/
theorem drainCheck_credit (i : Fin 128) {s : State} (h : CreditInv s) : CreditInv (drainCheck i s) := fun j => by
  by_cases hj : j = i
  · subst hj
    rw [drainCheck_record]
    exact h j
  · rw [drainCheck_others i s j hj]
    exact h j

theorem drainCheck_cap (i : Fin 128) {s : State} (h : ∀ j, (s.streams.get j).state ≠ .free → 1 ≤ (s.streams.get j).cap)
    (j : Fin 128) (hj : ((drainCheck i s).streams.get j).state ≠ .free) :
    1 ≤ ((drainCheck i s).streams.get j).cap := by
  by_cases hji : j = i
  · subst hji
    rw [drainCheck_record] at hj ⊢
    dsimp only at hj ⊢
    split at hj
    · exact absurd rfl hj
    · exact h j hj
  · rw [drainCheck_others i s j hji] at hj ⊢
    exact h j hj

/-- A property that each of a list of changes keeps. -/
theorem forEach_keeps {α : Type} {P : State → Prop} {f : α → State → State} (hf : ∀ x s, P s → P (f x s)) (xs : List α)
    {s : State} (h : P s) : P (forEach xs f s) := by
  induction xs generalizing s with
  | nil => exact h
  | cons x xs ih => exact ih (hf x s h)

/-- The ports of a list are marked down (R92). -/
theorem idle_of_markPorts (xs : List (Fin 24)) {f : Fin 24 → State → State} {s : State}
    (hf : ∀ p u, (f p u).ports = u.ports.upd p Port.mark) (h : ∀ p, p ∉ xs → (s.ports.get p).Idle) :
    ∀ p, ((forEach xs f s).ports.get p).Idle := by
  induction xs generalizing s with
  | nil => exact fun p => h p List.not_mem_nil
  | cons x xs ih =>
    refine ih fun p hp => ?_
    rw [hf, Tbl.get_upd]
    split
    · exact ⟨rfl, rfl, rfl, rfl⟩
    next hpx => exact h p fun hm => (List.mem_cons.1 hm).elim hpx hp

theorem markPorts_idle (s : State) (p : Fin 24) : ((markPorts s).ports.get p).Idle := by
  refine idle_of_markPorts (numbers 24) (fun p u => ?_) (fun p hp => absurd (List.mem_finRange p) hp) p
  dsimp only
  split <;> rfl

/-- The state at the loss of the link before the stations learn of it: the store emptied, the streams drained, the ports
marked (R64, R92, R165). -/
def State.unlinked (s : State) : State :=
  markPorts (drainAll (voidStore (s.onFabric fun f =>
    { f with up := false, lastDown := some s.now, outbound := [], alignTimer := none })))

section unlinked
variable (s : State)

theorem unlinked_fabric : s.unlinked.fabric =
    { s.fabric with up := false, lastDown := some s.now, outbound := [], alignTimer := none } :=
  (markPorts_frame _).fabric.trans (drainAll_frame _).fabric

theorem unlinked_store : s.unlinked.store = [] := (markPorts_frame _).store.trans (drainAll_frame _).store

theorem unlinked_ports (p : Fin 24) : (s.unlinked.ports.get p).Idle := markPorts_idle _ p

theorem unlinked_slotsOf (i : Fin 128) : s.unlinked.slotsOf i = [] := by
  rw [State.slotsOf, unlinked_store, List.filter_nil]

/-- What every drain keeps, the streams keep as the link is lost. -/
theorem unlinked_streams {P : Tbl Stream 128 → Prop}
    (hP : ∀ i (u : State), P u.streams → P (drainCheck i u).streams) (h : P s.streams) : P s.unlinked.streams := by
  rw [State.unlinked, (markPorts_frame _).streams]
  exact forEach_keeps (P := fun u => P u.streams) hP _ h

theorem unlinked_not_draining (i : Fin 128) : (s.unlinked.streams.get i).state ≠ .draining := by
  rw [State.unlinked, (markPorts_frame _).streams]
  exact drained_of_forEach (numbers 128) rfl (fun j hj => absurd (List.mem_finRange j) hj) i

theorem unlinked_kept : StoreKept s s.unlinked where
  link _ := by
    rw [linkInv_iff, unlinked_fabric]
    refine ⟨Nat.zero_le _, fun _ => ⟨?_, unlinked_store s, ?_, unlinked_ports s⟩⟩ <;> rw [unlinked_fabric]
  handle hh := by
    refine hh.thin ?_ fun p => ?_
    · rw [unlinked_store]
      exact List.nil_sublist _
    · obtain ⟨_, _, _, hout⟩ := unlinked_ports s p
      rw [hout]
      exact List.nil_sublist _
  stream _ hs := by
    rw [streamInv_iff] at hs ⊢
    have hcap := unlinked_streams s (P := fun t => ∀ j, (t.get j).state ≠ .free → 1 ≤ (t.get j).cap)
      (fun i _ hu => drainCheck_cap i hu) fun j => (hs j).1.2.1
    intro i
    rw [unlinked_slotsOf]
    exact Stream.Bounded.fits ⟨fun _ => rfl, hcap i, Nat.zero_le _⟩ (unlinked_not_draining s i)
  credit hc := unlinked_streams s (P := fun t => ∀ i, (t.get i).ranged) (fun i _ hu => drainCheck_credit i hu) hc

end unlinked

theorem linkLost_storeKept (s : State) : StoreKept s (linkLost s) :=
  ((unlinked_kept s).trans (allAbsent_steady _).toStoreKept).trans (postAll_frame _ _).steady.toStoreKept

/-! ### Resets (R191, R192) -/

theorem warmFabric_steady (s : State) : StoreSteady s (warmFabric s) := by
  refine onFabric_steady rfl fun hl => ?_
  cases hu : s.fabric.up with
  | true => exact .of_up hu (by simp [hu])
  | false =>
    obtain ⟨hout, hstore, halign, hidle⟩ := hl.2 hu
    have hsame : (s.onFabric fun f => { f with outbound := if f.up then [.resync] else f.outbound }).fabric.outbound =
        [] := by
      rw [State.onFabric_fabric, hu]
      exact hout
    exact ⟨by rw [hsame]; exact Nat.zero_le _, fun _ => ⟨hsame, hstore, halign, hidle⟩⟩

theorem warmStreams_steady (s : State) : StoreSteady s (warmStreams s) := by
  have hget : ∀ i, (warmStreams s).streams.get i = .powerOn := fun i => Tbl.get_fill _ i
  refine ⟨⟨fun hl => ⟨hl.1, fun hu => ?_⟩, fun hh => hh.of_store rfl (List.nil_sublist _), fun _ _ i => ?_,
    fun _ i => ?_⟩, rfl⟩
  · obtain ⟨hout, _, halign, hidle⟩ := hl.2 hu
    exact ⟨hout, rfl, halign, hidle⟩
  · rw [hget]
    exact ⟨fun _ => rfl, nofun, fun hn => absurd rfl hn, Nat.zero_le _⟩
  · rw [hget, ← reset_streams i]
    exact reset_creditInv i

theorem warmPorts_steady (s : State) : StoreSteady s (warmPorts s) := by
  have hget : ∀ p, (warmPorts s).ports.get p = (s.ports.get p).warm := fun p => Tbl.get_map ..
  refine (warmPorts_frame s).steady_of_ports (fun p => ?_) fun _ p hp => ?_ <;> rw [hget]
  · exact List.nil_sublist _
  · obtain ⟨hup, hpaused, hhigh, _⟩ := hp
    exact ⟨hup, hpaused, hhigh, rfl⟩

theorem warm_steady (n : Notice) (s : State) : StoreSteady s (warm n s) :=
  (((((((warmFabric_steady s).trans (warmStations_steady _)).trans (warmStreams_steady _)).trans
    (warmPorts_steady _)).trans (warmTrack_frame _).steady).trans (warmGrants_frame _).steady).trans
    (idleSlots_frame _).steady).trans ((clearLinks_frame _).steady.trans (postAll_frame n _).steady)

theorem execPowerOnReset_storeKept {s t : State} (h : execPowerOnReset s = .next t) : StoreKept s t := by
  cases h
  exact ⟨fun _ => reset_linkInv, fun _ => reset_handleInv, fun _ _ => reset_streamInv, fun _ => reset_creditInv⟩

/-! ### Requests, messages, commands and steps -/

theorem owner_steady (r : Request) (l : Link) (s : State) : StoreSteady s (owner r l s).state := by
  cases r
  case stationSet => exact ownStationSet_steady ..
  case stationRemove => exact ownStationRemove_steady ..
  case stationRun => exact ownStationRun_steady ..
  case stationHold => exact ownStationHold_steady ..
  case streamOpen => exact ownStreamOpen_steady ..
  case streamClose => exact ownStreamClose_steady ..
  case streamAdjust => exact ownStreamAdjust_steady ..
  case portSet => exact ownPortSet_steady ..
  case grantConcur => exact ownGrantConcur_steady ..
  case grantDecline => exact ownGrantDecline_steady ..
  case grantRelease => exact ownGrantRelease_steady ..
  case grantRevoke => exact ownGrantRevoke_steady ..
  case partReset => exact warm_steady _ s
  all_goals
    exact (owner_frame _ l s).steady (by dsimp only [ownerParts]; decide) (by dsimp only [ownerParts]; decide)
      (by dsimp only [ownerParts]; decide) (by dsimp only [ownerParts]; decide)

theorem fromStation_steady (p : Fin 24) (k : Byte) {own : Fin 32 → State → State}
    (ho : ∀ i u, StoreSteady u (own i u)) (s : State) : StoreSteady s (fromStation p k own s) := by
  unfold fromStation
  split
  · exact ho _ s
  · exact rejectCell_steady p _ s

theorem takeCell_steady (p : Fin 24) (k : Byte) (c : Cell) (x : Stamp) (s : State) :
    StoreSteady s (takeCell p k c x s) := by
  cases c
  case badKind => exact rejectCell_steady p _ s
  case badLength => exact rejectCell_steady p _ s
  case sync =>
    dsimp only [takeCell]
    split
    · exact takeSync_steady ..
    · exact rejectCell_steady p _ s
  case fillDone => exact fromStation_steady p k (fun i u => (takeFill_frame i _ _ _ _ _ u).steady) s
  case verdict => exact fromStation_steady p k (fun i u => (takeVerdict_frame i _ _ _ _ u).steady) s
  case backoff => exact fromStation_steady p k (fun _ u => takeBackoff_steady p _ _ u) s
  case need => exact fromStation_steady p k (fun i u => (takeNeed_frame i _ _ u).steady) s

theorem takeInbound_steady (k : Byte) (m : Except Malformed Inbound) (s : State) :
    StoreSteady s (takeInbound k m s) := by
  unfold takeInbound
  split
  · exact steady_chains.refl s
  next hu =>
  have hu : s.fabric.up = true := Bool.not_eq_false _ |>.mp hu
  cases m with
  | error why => exact malformed_steady k _ s
  | ok m =>
    cases m with
    | enqueue => exact takeEnqueue_steady _ _ _ hu
    | sent => exact takeSent_steady _ _ s
    | portState => exact takePortState_steady _ _ _ _ hu
    | cellIn => exact takeCell_steady ..

/-- A command in which the link comes up or is lost, or a power-on reset. -/
def movesLink : Instr → Bool
  | .powerOnReset | .trainingComplete | .alignmentLossExpiry | .restartSignal => true
  | _ => false

theorem exec_steady {c : Instr} {s t : State} (h : exec c s = .next t) (hc : movesLink c = false) :
    StoreSteady s t := by
  cases hr : c.asRequest with
  | some x =>
    obtain ⟨l, tag, r⟩ := x
    rw [exec_request hr] at h
    exact Host.Outcome.next.inj h ▸ steady_chains.request (owner_steady r l) l tag r s
  | none =>
    have hframe := exec_frame hr h
    cases c
    case warmReset => exact Host.Outcome.next.inj h ▸ warm_steady _ s
    case pulseEdge => exact execPulseEdge_steady h
    case replyPlaced l => exact Host.Outcome.next.inj h ▸ steady_chains.replyPlaced owner_steady l s
    case outboundMessageSent => exact execOutboundMessageSent_steady h
    case lossOfAlignment => exact execLossOfAlignment_steady h
    case alignmentRegained => exact execAlignmentRegained_steady h
    case stalenessDeadlineExpiry => exact execStalenessDeadlineExpiry_steady h
    case pacingQueueExpiry => exact execPacingQueueExpiry_steady h
    case release => exact execRelease_steady h
    case sentOverdueExpiry => exact execSentOverdueExpiry_steady h
    case askTimeoutExpiry k => exact Host.Outcome.next.inj h ▸ steady_chains.ite _ (endGrant_steady k _ s)
    case expiryMtExpiry k => exact Host.Outcome.next.inj h ▸ steady_chains.ite _ (endGrant_steady k _ s)
    case malformedMessage | enqueue | sent | portState | cellIn | sync | fillDone | verdict | backoff | need =>
      exact Host.Outcome.next.inj h ▸ takeInbound_steady ..
    case mtAdvance | write | read | faultDeadlineExpiry | holdoverDeadlineExpiry | triggerDeadlineExpiry |
        verdictDeadlineExpiry | gateDeadlineExpiry | windowEndExpiry | warningTimeExpiry | pulseEndExpiry |
        feedInstant =>
      dsimp only [execParts] at hframe
      exact hframe.steady
    case powerOnReset | trainingComplete | alignmentLossExpiry | restartSignal => cases hc
    all_goals cases hr

theorem exec_storeKept {c : Instr} {s t : State} (h : exec c s = .next t) : StoreKept s t := by
  have hself := (steady_chains.refl s).toStoreKept
  cases hc : movesLink c with
  | false => exact (exec_steady h hc).toStoreKept
  | true =>
    cases c
    case powerOnReset => exact execPowerOnReset_storeKept h
    case trainingComplete =>
      cases h
      split
      · exact hself
      next hd => exact linkUp_kept (Bool.eq_false_iff.2 hd)
    case alignmentLossExpiry =>
      cases h
      split
      · exact linkLost_storeKept s
      · exact hself
    case restartSignal =>
      cases h
      split
      · exact linkLost_storeKept s
      · exact hself
    all_goals cases hc

/-- Settles O57: a change of one stream and its descriptors leaves every other stream's slots, for handles are unique, and
the drain or the close that ends it brings the stream back to a state that fits its slots; in DOWN nothing is stored, so
nothing is handed to the lane. -/
theorem everyStepKeepsTheStore : Obligations.EveryStepKeepsTheStore := by
  unfold Obligations.EveryStepKeepsTheStore
  intro s t h
  unfold step at h
  split at h
  · have hkept := exec_storeKept h
    exact ⟨hkept.link, hkept.handle, hkept.stream, hkept.credit⟩
  · exact Host.Outcome.next.inj h ▸ ⟨id, id, fun _ => id, id⟩

end Sys2Proof.Machine
end

section
/-! Expiry of staleness deadlines: what a stream that loses descriptors is left with, and how the loss ends. -/

namespace Sys2Proof.Machine

-- One proof after the other: each waiting thread would hold its own stack.
set_option Elab.async false

theorem SameBut.discarded {ps : List Part} {why : DiscardReason} {ds : List Descriptor} {s t u : State}
    (h : SameBut ps t u) (k : Discarded why ds s t) (h1 : Part.store ∉ ps := by decide)
    (h2 : Part.fabric ∉ ps := by decide) (h3 : Part.storeDiscards ∉ ps := by decide) : Discarded why ds s u := by
  unfold Discarded
  rw [h.store h1, h.fabric h2, h.storeDiscards h3]
  exact k

/-! ### A stream that loses descriptors -/

/-- From `s` to `t` the descriptors `ds` of stream `i` are discarded with `why`, its record becomes `y`, and `ns` is
heard. -/
structure Loses (i : Fin 128) (why : DiscardReason) (ds : List Descriptor) (y : Stream) (ns : List Heard)
    (s t : State) : Prop where
  frame : SameBut discardParts s t
  effects : Discarded why ds s t
  others : OthersSame i s.streams t.streams
  record : t.streams.get i = y
  heard : Hears ns s.now s t

section loses
variable {i : Fin 128} {why : DiscardReason} {ds : List Descriptor} {y : Stream} {ns : List Heard} {s t : State}

theorem Discards.loses (h : Discards i why ds s t) :
    Loses i why ds { s.streams.get i with discards := countedTimes why ds.length (s.streams.get i).discards }
      (heardDiscards why ds.length i s) s t :=
  ⟨h.frame, h.effects, h.others, h.record, h.heard⟩

/-- Discards after a change of the record that leaves the stream's state and egress port. -/
theorem Discards.loses_onStream {f : Stream → Stream} (h : Discards i why ds (s.onStream i f) t)
    (hs : (f (s.streams.get i)).state = (s.streams.get i).state)
    (he : (f (s.streams.get i)).egress = (s.streams.get i).egress) :
    Loses i why ds
      { f (s.streams.get i) with discards := countedTimes why ds.length (f (s.streams.get i)).discards }
      (heardDiscards why ds.length i s) s t := by
  have hf := State.onStream_frame i f s
  have hheard : heardDiscards why ds.length i (s.onStream i f) = heardDiscards why ds.length i s := by
    have hport : (s.onStream i f).streamPort i = s.streamPort i :=
      streamPort_congr (by rw [onStream_get_self, hs]) (by rw [onStream_get_self, he])
    rw [heardDiscards, hport, hf.byPort, heardDiscards]
  refine ⟨(hf.mono (by decide)).trans h.frame, h.effects, (onStream_others i f s).trans h.others, ?_, ?_⟩
  · rw [h.record, onStream_get_self]
  · exact hheard ▸ (hf.hears s.now (by simp)).trans h.heard

theorem Loses.holdsNone (h : Loses i why ds y ns s t) (j : Fin 128) :
    t.holdsNone j = (without ds s.store).all (·.stream != j) := by
  obtain ⟨hstore, _, _⟩ := h.effects
  rw [State.holdsNone, hstore]

/-- Descriptors lost, then the check whether the stream has drained (R50). -/
theorem Loses.drainCheck (h : Loses i why ds y ns s t) :
    let freed := y.state = .draining ∧ (without ds s.store).all (·.stream != i) = true
    Loses i why ds { y with state := if freed then .free else y.state }
      (ns ++ if freed then [byPort s y.egress (noticeDrained i y.closeReason)] else []) s (drainCheck i t) := by
  have hframe := drainCheck_frame i t
  refine ⟨h.frame.trans (hframe.mono (by decide)), hframe.discarded h.effects, h.others.trans (drainCheck_others i t),
    ?_, ?_⟩
  · rw [drainCheck_record, h.record, h.holdsNone]
  · have hheard := drainCheck_hears i t
    rw [h.record, h.holdsNone, h.frame.byPort, h.frame.now] at hheard
    exact h.heard.trans hheard

/-- Descriptors lost, then the end of a close (R48, R49). -/
theorem Loses.settleClose (h : Loses i why ds y ns s t) :
    let freed := (without ds s.store).all (·.stream != i) = true
    Loses i why ds { y with state := if freed then .free else .draining }
      (ns ++ if freed then [byPort s y.egress (noticeDrained i y.closeReason)] else []) s (settleClose i t) := by
  have hframe := settleClose_frame i t
  refine ⟨h.frame.trans (hframe.mono (by decide)), hframe.discarded h.effects, h.others.trans (settleClose_others i t),
    ?_, ?_⟩
  · rw [settleClose_record, h.record, h.holdsNone]
  · have hheard := settleClose_hears i t
    rw [h.record, h.holdsNone, h.frame.byPort, h.frame.now] at hheard
    exact h.heard.trans hheard

end loses

/-! ### Staleness (R56) -/

theorem find_handle {s : State} {d : Descriptor} (h : HandleInv s) (hd : d ∈ s.store) :
    s.store.find? (·.handle == d.handle) = some d := by
  have hsome : (s.store.find? (·.handle == d.handle)).isSome = true := List.find?_isSome.2 ⟨d, hd, beq_self_eq_true _⟩
  obtain ⟨e, he⟩ := Option.isSome_iff_exists.1 hsome
  rw [he, h.unique (List.mem_of_find?_eq_some he) hd (beq_iff_eq.1 (List.find?_some he :))]

theorem execStalenessDeadlineExpiry_expired {s : State} {d : Descriptor} {x : Int} (h : HandleInv s) (hd : d ∈ s.store)
    (hp : d.state = .pending) (hs : d.staleAt = some x) (hx : x ≤ s.now) :
    execStalenessDeadlineExpiry d.handle s = .next (drainCheck d.stream (discardPending .stale d s)) := by
  rw [execStalenessDeadlineExpiry, find_handle h hd]
  exact congrArg _ (if_pos ⟨hp, by rw [hs]; exact decide_eq_true hx⟩)

theorem execStalenessDeadlineExpiry_early {s : State} {h : BitVec 16}
    (hlate : ∀ d ∈ s.store, d.handle = h → d.state = .pending → ∀ x, d.staleAt = some x → s.now < x) :
    execStalenessDeadlineExpiry h s = .next s := by
  unfold execStalenessDeadlineExpiry
  split
  next d hfind =>
    refine congrArg _ (if_neg ?_)
    rintro ⟨hp, hreached⟩
    have hwait := hlate d (List.mem_of_find?_eq_some hfind) (beq_iff_eq.1 (List.find?_some hfind :)) hp
    cases hs : d.staleAt with
    | none => rw [hs] at hreached; cases hreached
    | some x =>
      rw [hs] at hreached
      exact absurd (of_decide_eq_true hreached) (Int.not_le.2 (hwait x hs))
  · rfl

/-- Settles O25: the handle names one descriptor alone, whose discard may leave its stream drained. -/
theorem stalenessExpiryDiscards : Obligations.StalenessExpiryDiscards := by
  unfold Obligations.StalenessExpiryDiscards
  intro h s hh
  refine ⟨fun d hd hdh hp x hs hx => ?_, fun hlate => ⟨s, execStalenessDeadlineExpiry_early hlate, rfl⟩⟩
  subst hdh
  obtain ⟨hframe, heffects, hothers, hrecord, hheard⟩ := (discardPending_discards .stale d s).loses.drainCheck
  exact ⟨_, execStalenessDeadlineExpiry_expired hh hd hp hs hx, hframe, heffects, hothers, hrecord, hheard⟩

end Sys2Proof.Machine
end

section
/-! STREAM-CLOSE: its checks, and what a flush and a drain leave of the stream. -/

namespace Sys2Proof.Machine

-- One proof after the other: each waiting thread would hold its own stack.
set_option Elab.async false

/-! ### Bytes that say yes or no -/

theorem yesNo_eq_none {b : Byte} (h : 2 ≤ b.toNat) : yesNo b = none := by
  have h1 : b ≠ 1 := fun he => by rw [he] at h; exact absurd h (by decide)
  have h0 : b ≠ 0 := fun he => by rw [he] at h; exact absurd h (by decide)
  rw [yesNo, if_neg h1, if_neg h0]

theorem yesNo_of_lt {b : Byte} (h : b.toNat < 2) : yesNo b = some (decide (b = 1)) := by
  unfold yesNo
  split
  next h1 => rw [decide_eq_true h1]
  next h1 =>
    have h0 : b = 0 := by bv_omega
    rw [if_pos h0, decide_eq_false h1]

/-! ### The state at which a request is performed -/

section held
variable (l : Link) (tag : Byte) (r : Request) (s : State)

@[simp] theorem held_store : (held l tag r s).store = s.store := by cases l <;> rfl
@[simp] theorem held_storeDiscards : (held l tag r s).storeDiscards = s.storeDiscards := by cases l <;> rfl
@[simp] theorem held_coveredAt : (held l tag r s).coveredAt = s.coveredAt := by cases l <;> rfl

@[simp] theorem held_covered : (held l tag r s).covered = s.covered := by cases l <;> rfl
@[simp] theorem held_pendingList (i : Fin 128) : (held l tag r s).pendingList i = s.pendingList i := by cases l <;> rfl

@[simp] theorem held_heardDiscards (why : DiscardReason) (n : Nat) (i : Fin 128) :
    heardDiscards why n i (held l tag r s) = heardDiscards why n i s := by cases l <;> rfl

end held

/-- A request by which stream `i` loses descriptors, and which beside its own link changes the parts `ps` alone. -/
theorem request_loses {c : Instr} {l : Link} {tag : Byte} {r : Request} {own : State → Answer} {s u : State}
    {i : Fin 128} {why : DiscardReason} {ds : List Descriptor} {y : Stream} {ns : List Heard} {ps : List Part}
    (hx : exec c s = .next (request l tag r own s)) (ht : Taken l r s) (hp : placedAtOnce r = false)
    (ho : own (held l tag r s) = done [] u) (hu : Loses i why ds y ns (held l tag r s) u)
    (hf : SameBut (ps ++ allLinks) (held l tag r s) u) :
    Completes c s fun t =>
      Replied l tag r .done [] ns s t ∧ SameBut (ps ++ allLinks) s t ∧ Discarded why ds s t ∧
      OthersSame i s.streams t.streams ∧ t.streams.get i = y := by
  obtain ⟨_, heffects, hothers, hrecord, hheard⟩ := hu
  rw [held_now] at hheard
  obtain ⟨t, hx, hreply, hrest, hframe⟩ := request_completes hx ht hp ho hheard
  have hstreams := hrest.streams (by simp)
  refine ⟨t, hx, hreply, hframe ps hf, ?_, ?_, by rw [hstreams, hrecord]⟩
  · have hafter := hrest.discarded heffects (by simp) (by simp) (by simp)
    rwa [Discarded, held_store, held_fabric, held_storeDiscards] at hafter
  · rw [hstreams, ← held_streams l tag r s]
    exact hothers

/-! ### The close of a stream (R47 to R49) -/

/-- The reason that a close with reason `k` leaves in a record. -/
def Stream.reasonAfter (k : CloseReason) (x : Stream) : Option CloseReason :=
  if x.state = .opened then some k else x.closeReason

theorem recordReason_eq (k : CloseReason) (x : Stream) :
    recordReason k x = { x with closeReason := x.reasonAfter k } := by
  unfold recordReason Stream.reasonAfter
  split <;> rfl

section close
variable (k : CloseReason) (i : Fin 128) (s : State)

theorem closeFlush_loses :
    let x := s.streams.get i
    let ds := s.pendingList i
    let freed := (without ds s.store).all (·.stream != i) = true
    Loses i .flushed ds
      { x with
        state := if freed then .free else .draining
        closeReason := x.reasonAfter k
        discards := countedTimes .flushed ds.length x.discards }
      (heardDiscards .flushed ds.length i s ++
        if freed then [byPort s x.egress (noticeDrained i (x.reasonAfter k))] else [])
      s (closeFlush k i s) := by
  have hloses := ((discardAll_discards .flushed i (s.onStream i (recordReason k))).loses_onStream
    (by rw [recordReason_eq]) (by rw [recordReason_eq])).settleClose
  rw [recordReason_eq] at hloses
  exact hloses

theorem closeDrain_opened (h : (s.streams.get i).state = .opened) :
    let x := s.streams.get i
    let freed := s.store.all (·.stream != i) = true
    Loses i .flushed []
      { x with
        state := if freed then .free else .draining
        closeReason := x.reasonAfter k }
      (if freed then [byPort s x.egress (noticeDrained i (x.reasonAfter k))] else [])
      s (closeDrain k i s) := by
  have hloses := ((Discards.nil i .flushed (s.onStream i (recordReason k))).loses_onStream
    (by rw [recordReason_eq]) (by rw [recordReason_eq])).settleClose
  rw [recordReason_eq, without_nil] at hloses
  rw [closeDrain, if_pos h]
  exact hloses

theorem closeDrain_draining (h : (s.streams.get i).state = .draining) : closeDrain k i s = s :=
  if_neg (by rw [h]; decide)

end close

/-! ### The checks of STREAM-CLOSE (R47) -/

/-- The status that STREAM-CLOSE is answered with. -/
def State.closeStatus (s : State) (l : Link) (i : Fin 128) : Status :=
  let x := s.streams.get i
  if x.state = .free then .refusedState
  else if l = .lc ∧ x.owner ≠ some .lc then .refusedRights
  else if l = .sc ∧ (x.owner ≠ some .sc ∨ s.coveredAt .configure x.egress = false) then .refusedRights
  else .done

/-- The close that STREAM-CLOSE performs, with flush where `f` is set. -/
def State.closedBy (s : State) (l : Link) (i : Fin 128) (f : Bool) : State :=
  if (s.streams.get i).owner ≠ some l then closeFlush .forced i s
  else if f then closeFlush .closed i s else closeDrain .closed i s

theorem ownStreamClose_range {l : Link} {a f : Byte} {s : State} (h : 128 ≤ a.toNat ∨ 2 ≤ f.toNat) :
    ownStreamClose l a f s = refuse .refusedRange s := by
  unfold ownStreamClose
  obtain ha | hf := h
  · rw [number_eq_none.2 ha]
  · rw [yesNo_eq_none hf]
    split
    next hn => cases hn
    · rfl

theorem ownStreamClose_eq {l : Link} {a f : Byte} {i : Fin 128} (ha : a.toNat = i.1) (hf : f.toNat < 2) (s : State) :
    ownStreamClose l a f s =
      if s.closeStatus l i = .done then done [] (s.closedBy l i (decide (f = 1)))
      else refuse (s.closeStatus l i) s := by
  rw [ownStreamClose, number_eq_some.2 ha, yesNo_of_lt hf]
  refine refuse_or (by decide) <| refuse_or (by decide) <| refuse_or (by decide) ?_
  rw [if_pos rfl, State.closedBy]
  split <;> rfl

/-- The reason that STREAM-CLOSE gives a close by link `l`. -/
def Stream.closedFor (x : Stream) (l : Link) : CloseReason := if x.owner ≠ some l then .forced else .closed

theorem closedBy_flush {l : Link} {i : Fin 128} {f : Bool} {s : State}
    (h : (s.streams.get i).owner ≠ some l ∨ f = true) :
    s.closedBy l i f = closeFlush ((s.streams.get i).closedFor l) i s := by
  unfold State.closedBy Stream.closedFor
  split
  · rfl
  next ho => rw [if_pos (h.resolve_left ho)]

theorem closedBy_drain {l : Link} {i : Fin 128} {s : State} (h : ¬ (s.streams.get i).owner ≠ some l) :
    s.closedBy l i false = closeDrain ((s.streams.get i).closedFor l) i s := by
  rw [State.closedBy, Stream.closedFor, if_neg h, if_neg h, if_neg Bool.false_ne_true]

theorem held_closeStatus (l m : Link) (tag : Byte) (r : Request) (s : State) (i : Fin 128) :
    (held m tag r s).closeStatus l i = s.closeStatus l i := by
  rw [State.closeStatus, held_streams, held_coveredAt]
  rfl

/-- Settles O22: a flush discards the PENDING descriptors between the record's change and the end of the close, a drain
discards none, and both end alike. -/
theorem streamCloseFlushesOrDrains : Obligations.StreamCloseFlushesOrDrains := by
  unfold Obligations.StreamCloseFlushesOrDrains
  intro l tag a f s hw q c
  have ht : Taken l q s := ⟨hw, rfl⟩
  refine ⟨fun h => request_onlyReplies rfl ht rfl (ownStreamClose_range h), fun i ha hf => ?_⟩
  intro x answer forced why
  have hanswer : s.closeStatus l i = answer := rfl
  have hwhy : x.reasonAfter (x.closedFor l) = why := rfl
  have hx : (held l tag q s).streams.get i = x := by rw [held_streams]
  have hown := ownStreamClose_eq (l := l) ha hf (held l tag q s)
  rw [held_closeStatus, hanswer] at hown
  have hflush := closeFlush_loses (x.closedFor l) i (held l tag q s)
  have hdrain := closeDrain_opened (x.closedFor l) i (held l tag q s)
  simp only [hx, held_store, held_pendingList, held_heardDiscards, held_byPort, hwhy] at hflush hdrain
  refine ⟨fun hn => ?_, fun hd hflushed => ?_, fun hd howner h0 hopen => ?_, fun hd howner h0 hdraining => ?_⟩
  · exact request_onlyReplies rfl ht rfl (hown.trans (if_neg hn))
  · rw [if_pos hd, closedBy_flush (hflushed.imp (by rw [hx]; exact id) decide_eq_true), hx] at hown
    exact request_loses rfl ht rfl hown hflush (closeFlush_frame _ i _)
  all_goals
    have hf0 : decide (f = 1) = false := by rw [h0]; rfl
    rw [if_pos hd, hf0, closedBy_drain (by rw [hx]; exact howner), hx] at hown
  · obtain ⟨t, hx, hreply, hframe, _, hothers, hrecord⟩ :=
      request_loses (c := c) (ps := [.streams]) rfl ht rfl hown (hdrain hopen) (closeDrain_frame _ i _)
    exact ⟨t, hx, hreply, hframe, hothers, hrecord⟩
  · rw [closeDrain_draining _ i _ (by rw [hx]; exact hdraining)] at hown
    exact request_onlyReplies rfl ht rfl hown

end Sys2Proof.Machine
end

section
/-! STREAM-ADJUST: how its fields are read, its checks, and the settings it replaces. -/

namespace Sys2Proof.Machine

-- One proof after the other: each waiting thread would hold its own stack.
set_option Elab.async false

/-! ### How the fields of a stream are read (R41) -/

theorem stalenessOf_eq_some {v : BitVec 32} {n : Nat} :
    stalenessOf v = some n ↔ v.toNat = n ∧ (n = 0 ∨ 100 ≤ n ∧ n ≤ 100000) := by
  unfold stalenessOf
  split
  next h0 =>
    have hzero : v.toNat = 0 := by rw [h0]; rfl
    rw [Option.some.injEq, hzero]
    omega
  next h0 =>
    have hpos : v.toNat ≠ 0 := fun h => h0 (BitVec.eq_of_toNat_eq h)
    rw [inRange_eq_some]
    omega

/-- The values of a recovery that R41 knows. -/
def Recovery.known (r : Recovery) : Prop := r = .shed ∨ ∃ m ∈ [1, 2, 4, 8, 16], r = .clean m

theorem recoveryOf_eq_some {b : Byte} {r : Recovery} : recoveryOf b = some r ↔ b = r.code ∧ r.known := by
  constructor
  · intro h
    unfold recoveryOf at h
    split at h
    next hb => exact Option.some.inj h ▸ ⟨hb, .inl rfl⟩
    split at h
    next hb =>
      cases h
      refine ⟨(BitVec.ofNat_toNat 8 b).symm, .inr ⟨_, ?_, rfl⟩⟩
      obtain rfl | rfl | rfl | rfl | rfl := hb <;> decide
    · cases h
  · rintro ⟨rfl, rfl | ⟨m, hm, rfl⟩⟩
    · rfl
    · simp only [List.mem_cons, List.not_mem_nil, or_false] at hm
      obtain rfl | rfl | rfl | rfl | rfl := hm <;> rfl

theorem readAdjustment_eq_some {quota cap queue r : Byte} {st : BitVec 32} {y : StreamAdjustment} :
    readAdjustment quota cap queue r st = some y ↔
      streamRanges y.quota y.cap y.staleUs y.recovery ∧ quota.toNat = y.quota ∧ cap.toNat = y.cap ∧
      queue.toNat = y.queue.1 ∧ st.toNat = y.staleUs ∧ r = y.recovery.code := by
  simp only [readAdjustment, Option.bind_eq_bind, Option.bind_eq_some_iff, Option.pure_def, Option.some.injEq,
    inRange_eq_some, number_eq_some, recoveryOf_eq_some, stalenessOf_eq_some]
  constructor
  · rintro ⟨q, ⟨hq, hq1, hq2⟩, c, ⟨hc, hc1, hc2⟩, k, hk, v, ⟨hv, hknown⟩, u, ⟨hu, hrange⟩, rfl⟩
    exact ⟨⟨hq1, hq2, hc1, hc2, hrange, hknown⟩, hq, hc, hk, hu, hv⟩
  · rintro ⟨⟨hq1, hq2, hc1, hc2, hrange, hknown⟩, hq, hc, hk, hu, hv⟩
    exact ⟨_, ⟨hq, hq1, hq2⟩, _, ⟨hc, hc1, hc2⟩, _, hk, _, ⟨hv, hknown⟩, _, ⟨hu, hrange⟩, rfl⟩

/-! ### The settings that are replaced (R52) -/

theorem Stream.setRecovery_eq (r : Recovery) (x : Stream) :
    x.setRecovery r = { x with
      recovery := r
      level := if x.recovery ≠ .shed ∧ r = .shed then min x.level 1 else x.level
      quiet := if x.recovery ≠ .shed ∧ r = .shed then 0 else x.quiet
      clean := if r ≠ .shed ∧ r ≠ x.recovery then 0 else x.clean } := by
  unfold Stream.setRecovery
  split
  next hr =>
    subst hr
    simp
  next hr =>
    cases hx : x.recovery with
    | shed =>
      have hclean : r ≠ .shed := fun h => hr (hx.trans h.symm)
      simp [hclean]
    | clean m =>
      cases r with
      | shed => simp
      | clean n =>
        have hne : n ≠ m := fun h => hr (by rw [hx, h])
        simp [hne]

theorem Stream.adjust_eq (a : StreamAdjustment) (x : Stream) :
    x.adjust a = { x with
      quota := a.quota, credit := min x.credit a.quota, cap := a.cap, queue := a.queue, staleUs := a.staleUs
      recovery := a.recovery
      level := if x.recovery ≠ .shed ∧ a.recovery = .shed then min x.level 1 else x.level
      quiet := if x.recovery ≠ .shed ∧ a.recovery = .shed then 0 else x.quiet
      clean := if a.recovery ≠ .shed ∧ a.recovery ≠ x.recovery then 0 else x.clean } :=
  Stream.setRecovery_eq ..

theorem Stream.adjust_egress (a : StreamAdjustment) (x : Stream) : (x.adjust a).egress = x.egress := by
  rw [Stream.adjust_eq]

theorem adjusted_loses (i : Fin 128) (a : StreamAdjustment) (s : State) :
    let ds := (s.pendingList i).take ((s.pendingList i).length - a.cap)
    let x := (s.streams.get i).adjust a
    Loses i .cap ds { x with discards := countedTimes .cap ds.length x.discards } (heardDiscards .cap ds.length i s) s
      (adjusted i a s) :=
  (adjusted_discards i a s).loses_onStream (Stream.adjust_bounds a _).1 (Stream.adjust_egress a _)

theorem adjusted_frame (i : Fin 128) (a : StreamAdjustment) (s : State) : SameBut discardParts s (adjusted i a s) :=
  (adjusted_loses i a s).frame

/-! ### The checks of STREAM-ADJUST (R52) -/

/-- The status that STREAM-ADJUST is answered with. -/
def State.adjustStatus (s : State) (l : Link) (i : Fin 128) (y : StreamAdjustment) : Status :=
  let x := s.streams.get i
  if y.staleUs ≠ 0 ∧ x.cls ≠ some .cyclic then .refusedRange
  else if x.state ≠ .opened then .refusedState
  else if x.owner ≠ some l then .refusedRights
  else if l = .sc ∧ s.coveredAt .configure x.egress = false then .refusedRights
  else .done

theorem held_adjustStatus (l m : Link) (tag : Byte) (r : Request) (s : State) (i : Fin 128) (y : StreamAdjustment) :
    (held m tag r s).adjustStatus l i y = s.adjustStatus l i y := by
  rw [State.adjustStatus, held_streams, held_coveredAt]
  rfl

section checks
variable {l : Link} {a quota cap queue r : Byte} {st : BitVec 32} {i : Fin 128} {y : StreamAdjustment}

theorem ownStreamAdjust_eq (ha : number 128 a = some i) (hy : readAdjustment quota cap queue r st = some y)
    (s : State) : ownStreamAdjust l a quota cap queue r st s =
      if s.adjustStatus l i y = .done then done [] (adjusted i y s) else refuse (s.adjustStatus l i y) s := by
  rw [ownStreamAdjust, ha, hy]
  exact refuse_or (by decide) <| refuse_or (by decide) <| refuse_or (by decide) <| refuse_or (by decide) rfl

theorem ownStreamAdjust_range (h : number 128 a = none ∨ readAdjustment quota cap queue r st = none) (s : State) :
    ownStreamAdjust l a quota cap queue r st s = refuse .refusedRange s := by
  unfold ownStreamAdjust
  split
  next ha hy => obtain h | h := h <;> simp_all
  · rfl

end checks

/-- Settles O23: the fields that R41 allows are those that are read, and the settings are replaced before the oldest
descriptors beyond the cap are discarded. -/
theorem streamAdjustReplacesTheSettings : Obligations.StreamAdjustReplacesTheSettings := by
  unfold Obligations.StreamAdjustReplacesTheSettings
  intro l tag s hw
  refine ⟨fun i y hy => ?_, fun a quota cap queue r st h => ?_⟩
  · intro q c x answer ds toShed
    have ht : Taken l q s := ⟨hw, rfl⟩
    have hread : readAdjustment (BitVec.ofNat 8 y.quota) (BitVec.ofNat 8 y.cap) (BitVec.ofNat 8 y.queue.1)
        y.recovery.code (BitVec.ofNat 32 y.staleUs) = some y := by
      obtain ⟨hq1, hq2, hc1, hc2, hrange, hknown⟩ := id hy
      refine readAdjustment_eq_some.2 ⟨hy, ?_, ?_, ?_, ?_, rfl⟩ <;> rw [BitVec.toNat_ofNat] <;> omega
    have hanswer : s.adjustStatus l i y = answer := rfl
    have hown := ownStreamAdjust_eq (l := l) (number_ofNat (by decide) i) hread (held l tag q s)
    rw [held_adjustStatus, hanswer] at hown
    have hloses := adjusted_loses i y (held l tag q s)
    simp only [held_streams, held_pendingList, held_heardDiscards, Stream.adjust_eq] at hloses
    refine ⟨fun hn => request_onlyReplies rfl ht rfl (hown.trans (if_neg hn)), fun hd => ?_⟩
    exact request_loses rfl ht rfl (hown.trans (if_pos hd)) hloses (adjusted_frame i y _)
  · refine request_onlyReplies rfl ⟨hw, rfl⟩ rfl (ownStreamAdjust_range ?_ _)
    refine h.imp number_eq_none.2 fun hn => ?_
    cases hread : readAdjustment quota cap queue r st with
    | none => rfl
    | some y => exact absurd ⟨y, readAdjustment_eq_some.1 hread⟩ hn

end Sys2Proof.Machine
end

section
/-! STREAM-OPEN: how its fields are read, its checks, and the record it opens. -/

namespace Sys2Proof.Machine

-- One proof after the other: each waiting thread would hold its own stack.
set_option Elab.async false

/-! ### How the fields of STREAM-OPEN are read (R46) -/

theorem classOf_eq_some {b : Byte} {c : StreamClass} : classOf b = some c ↔ b = c.code := by
  constructor
  · intro h
    unfold classOf at h
    repeat' split at h
    all_goals cases h
    all_goals assumption
  · rintro rfl
    cases c <;> rfl

theorem yesNo_eq_some {b : Byte} {w : Bool} : yesNo b = some w ↔ b = boolByte w := by
  constructor
  · intro h
    unfold yesNo at h
    repeat' split at h
    all_goals cases h
    all_goals assumption
  · rintro rfl
    cases w <;> rfl

theorem numberOrNone_eq_some {n : Nat} (hn : n ≤ 255) {b : Byte} {x : Option (Fin n)} :
    numberOrNone n b = some x ↔ b = numberByte x := by
  unfold numberOrNone
  split
  next hb =>
    subst hb
    cases x with
    | none => exact ⟨fun _ => rfl, fun _ => rfl⟩
    | some k =>
      refine ⟨nofun, fun h => ?_⟩
      have hk : 255 = (BitVec.ofNat 8 k.1).toNat := congrArg BitVec.toNat h
      rw [BitVec.toNat_ofNat] at hk
      omega
  next hb =>
    cases x with
    | none => exact ⟨fun h => by simp at h, fun h => absurd h hb⟩
    | some k =>
      rw [Option.map_eq_some_iff]
      constructor
      · rintro ⟨j, hj, he⟩
        rw [← Option.some.inj he, numberByte, ← number_eq_some.1 hj, BitVec.ofNat_toNat, BitVec.setWidth_eq]
      · rintro rfl
        exact ⟨k, number_ofNat (by omega) k, rfl⟩

/-- The bytes of a STREAM-OPEN that give the settings `x`, each within its range (R41, R46). -/
def StreamSettings.writtenAs (x : StreamSettings) (cls port station queue quota cap : Byte) (st : BitVec 32)
    (r w : Byte) : Prop :=
  streamRanges x.quota x.cap x.staleUs x.recovery ∧ cls = x.cls.code ∧ port.toNat = x.egress.1 ∧
  station = numberByte x.station ∧ queue.toNat = x.queue.1 ∧ quota.toNat = x.quota ∧ cap.toNat = x.cap ∧
  st.toNat = x.staleUs ∧ r = x.recovery.code ∧ w = boolByte x.wireHold

section reading
variable {cls port station queue quota cap : Byte} {st : BitVec 32} {r w : Byte} {x : StreamSettings}

theorem readStreamSettings_eq_some :
    readStreamSettings cls port station queue quota cap st r w = some x ↔
      x.writtenAs cls port station queue quota cap st r w ∧ ¬ (x.staleUs ≠ 0 ∧ x.cls ≠ .cyclic) := by
  simp only [readStreamSettings, Option.bind_eq_bind, Option.bind_eq_some_iff, Option.pure_def,
    Option.ite_none_left_eq_some, Option.some.injEq, classOf_eq_some, number_eq_some,
    numberOrNone_eq_some (n := 32) (by decide), inRange_eq_some, stalenessOf_eq_some, recoveryOf_eq_some, yesNo_eq_some]
  constructor
  · rintro ⟨c, hc, p, hp, k, hk, q, hq, b, ⟨hb, hb1, hb2⟩, z, ⟨hz, hz1, hz2⟩, u, ⟨hu, hrange⟩, v, ⟨hv, hknown⟩, f, hf,
      hstale, rfl⟩
    exact ⟨⟨⟨hb1, hb2, hz1, hz2, hrange, hknown⟩, hc, hp, hk, hq, hb, hz, hu, hv, hf⟩, hstale⟩
  · rintro ⟨⟨⟨hb1, hb2, hz1, hz2, hrange, hknown⟩, hc, hp, hk, hq, hb, hz, hu, hv, hf⟩, hstale⟩
    exact ⟨_, hc, _, hp, _, hk, _, hq, _, ⟨hb, hb1, hb2⟩, _, ⟨hz, hz1, hz2⟩, _, ⟨hu, hrange⟩, _, ⟨hv, hknown⟩, _, hf,
      hstale, rfl⟩

/-- The bytes of a request that is written for settings. -/
theorem writtenAs_bytes (h : streamRanges x.quota x.cap x.staleUs x.recovery) :
    x.writtenAs x.cls.code (BitVec.ofNat 8 x.egress.1) (numberByte x.station) (BitVec.ofNat 8 x.queue.1)
      (BitVec.ofNat 8 x.quota) (BitVec.ofNat 8 x.cap) (BitVec.ofNat 32 x.staleUs) x.recovery.code
      (boolByte x.wireHold) := by
  obtain ⟨hq1, hq2, hc1, hc2, hrange, hknown⟩ := id h
  refine ⟨h, rfl, ?_, rfl, ?_, ?_, ?_, ?_, rfl, rfl⟩ <;> rw [BitVec.toNat_ofNat] <;> omega

/-- The bytes of a request give one class and one staleness. -/
theorem writtenAs_staleness {y : StreamSettings} (hx : x.writtenAs cls port station queue quota cap st r w)
    (hy : y.writtenAs cls port station queue quota cap st r w) (hs : ¬ (y.staleUs ≠ 0 ∧ y.cls ≠ .cyclic)) :
    ¬ (x.staleUs ≠ 0 ∧ x.cls ≠ .cyclic) := by
  obtain ⟨_, hxc, _, _, _, _, _, hxs, _, _⟩ := hx
  obtain ⟨_, hyc, _, _, _, _, _, hys, _, _⟩ := hy
  have hcls : some x.cls = some y.cls := (classOf_eq_some.2 hxc).symm.trans (classOf_eq_some.2 hyc)
  rwa [← hxs, hys, Option.some.inj hcls]

end reading

/-! ### The checks of STREAM-OPEN (R46) -/

/-- The status that STREAM-OPEN is answered with. -/
def State.openStatus (s : State) (l : Link) (i : Fin 128) (x : StreamSettings) : Status :=
  if x.staleUs ≠ 0 ∧ x.cls ≠ .cyclic then .refusedRange
  else if l = .sc ∧ (x.cls ≠ .service ∨ s.covered .configure x.egress = false) then .refusedRights
  else if (match x.station with
      | some k => s.stationPort k != some x.egress
      | none => false) = true then .refusedRange
  else if (s.streams.get i).state ≠ .free then .refusedState
  else .done

theorem stationElsewhere_iff {s : State} {x : StreamSettings} :
    (match x.station with
      | some k => s.stationPort k != some x.egress
      | none => false) = true ↔ ∃ k, x.station = some k ∧ s.stationPort k ≠ some x.egress := by
  cases x.station with
  | none => simp
  | some k => simp

theorem held_openStatus (l m : Link) (tag : Byte) (r : Request) (s : State) (i : Fin 128) (x : StreamSettings) :
    (held m tag r s).openStatus l i x = s.openStatus l i x := by
  rw [State.openStatus, held_streams, held_covered, held_stationPort]
  rfl

section checks
variable {l : Link} {a cls port station queue quota cap : Byte} {st : BitVec 32} {r w : Byte} {i : Fin 128}
  {x : StreamSettings}

theorem ownStreamOpen_range
    (h : number 128 a = none ∨ readStreamSettings cls port station queue quota cap st r w = none) (s : State) :
    ownStreamOpen l a cls port station queue quota cap st r w s = refuse .refusedRange s := by
  unfold ownStreamOpen
  split
  next ha hx => obtain h | h := h <;> simp_all
  · rfl

theorem ownStreamOpen_eq (ha : number 128 a = some i) (hx : x.writtenAs cls port station queue quota cap st r w)
    (s : State) : ownStreamOpen l a cls port station queue quota cap st r w s =
      if s.openStatus l i x = .done then done [] (s.onStream i fun _ => x.opened l)
      else refuse (s.openStatus l i x) s := by
  by_cases hstale : x.staleUs ≠ 0 ∧ x.cls ≠ .cyclic
  · have hnone : readStreamSettings cls port station queue quota cap st r w = none := by
      cases hread : readStreamSettings cls port station queue quota cap st r w with
      | none => rfl
      | some y =>
        obtain ⟨hy, hs⟩ := readStreamSettings_eq_some.1 hread
        exact absurd hstale (writtenAs_staleness hx hy hs)
    rw [ownStreamOpen_range (.inr hnone), State.openStatus, if_pos hstale]
    rfl
  · rw [ownStreamOpen, ha, readStreamSettings_eq_some.2 ⟨hx, hstale⟩, State.openStatus, if_neg hstale]
    exact refuse_or (by decide) <| refuse_or (by decide) <| refuse_or (by decide) rfl

end checks

/-- Settles O21: the fields that R41 allows are those that are read, and the record that is opened is that of the
request. -/
theorem streamOpenOpensTheRecord : Obligations.StreamOpenOpensTheRecord := by
  unfold Obligations.StreamOpenOpensTheRecord
  intro l tag s hw
  refine ⟨fun i x hx => ?_, fun a cls port station queue quota cap st r w h => ?_⟩
  · intro q c answer
    have ht : Taken l q s := ⟨hw, rfl⟩
    have hanswer : answer = s.openStatus l i x :=
      if_congr Iff.rfl rfl <| if_congr Iff.rfl rfl <| if_congr stationElsewhere_iff.symm rfl rfl
    have hown := ownStreamOpen_eq (l := l) (number_ofNat (by decide) i) (writtenAs_bytes hx) (held l tag q s)
    rw [held_openStatus, ← hanswer] at hown
    refine ⟨fun hn => request_onlyReplies rfl ht rfl (hown.trans (if_neg hn)), fun hd => ?_⟩
    have hframe := State.onStream_frame i (fun _ => x.opened l) (held l tag q s)
    rw [if_pos hd] at hown
    obtain ⟨t, ht, hreply, hrest, _⟩ := request_completes (c := c) rfl ht rfl hown (hframe.hears _ (by simp))
    have hstreams := hrest.streams (by simp)
    refine ⟨t, ht, hreply, ?_, ?_, by rw [hstreams, onStream_get_self]; rfl⟩
    · exact (((held_frame l tag q s).mono (by simp)).trans (hframe.mono (by simp))).trans (hrest.mono (by simp))
    · rw [hstreams, ← held_streams l tag q s]
      exact onStream_others i _ _
  · refine request_onlyReplies rfl ⟨hw, rfl⟩ rfl (ownStreamOpen_range ?_ _)
    refine h.imp number_eq_none.2 fun hn => ?_
    cases hread : readStreamSettings cls port station queue quota cap st r w with
    | none => rfl
    | some x => exact absurd ⟨x, (readStreamSettings_eq_some.1 hread).1⟩ hn

end Sys2Proof.Machine
end

section
/-! ENQUEUE: the checks in their order, the discard of an intake, and a descriptor that joins the store. -/

namespace Sys2Proof.Machine

-- One proof after the other: each waiting thread would hold its own stack.
set_option Elab.async false

/-! ### The discard of an intake (R55) -/

/-- The counts of a discard that takes no slot, and its message, before its notice (R55). -/
def State.intakeDropped (s : State) (why : DiscardReason) (h : BitVec 16) : State :=
  countStoreWide why (handOver (.discard h why) s)

/-- The discard counted in the record of stream `i`, where it is OPEN or DRAINING (R55). -/
def State.countedFor (s : State) (why : DiscardReason) (i : Fin 128) : State :=
  if (s.streams.get i).live then countStream why i s else s

section dropped
variable (why : DiscardReason) (h : BitVec 16) (i : Fin 128) (s : State)

theorem intakeDropped_frame : SameBut [.storeDiscards, .fabric] s (s.intakeDropped why h) :=
  ((handOver_frame _ s).mono (by decide)).trans ((countStoreWide_frame why _).mono (by decide))

theorem intakeDropped_fabric : (s.intakeDropped why h).fabric = s.fabric.queued (.discard h why) :=
  handOver_fabric _ s

theorem intakeDropped_storeDiscards :
    (s.intakeDropped why h).storeDiscards = countDiscard why s.storeDiscards := rfl

theorem countedFor_frame : SameBut [.streams] s (s.countedFor why i) := .ite _ (countStream_frame why i s) (.refl _ s)

theorem countedFor_others : OthersSame i s.streams (s.countedFor why i).streams := by
  unfold State.countedFor
  split
  · exact onStream_others i _ s
  · exact fun _ _ => rfl

theorem Stream.live_iff {x : Stream} : x.live = true ↔ x.state ≠ .free := by
  unfold Stream.live
  cases x.state <;> decide

theorem countedFor_record :
    (s.countedFor why i).streams.get i = { s.streams.get i with
      discards := if (s.streams.get i).state = .free then (s.streams.get i).discards
        else countDiscard why (s.streams.get i).discards } := by
  unfold State.countedFor
  split
  next hlive =>
    rw [if_neg (Stream.live_iff.1 hlive)]
    exact onStream_get_self i _ s
  next hlive => rw [if_pos (not_not.1 (mt Stream.live_iff.2 hlive))]

theorem discardIntake_unnamed {b : Byte} (hb : 128 ≤ b.toNat) :
    discardIntake why h b s = postAt (noticeDiscards b.toNat why) none (s.intakeDropped why h) := by
  rw [discardIntake, number_eq_none.2 hb]
  rfl

theorem discardIntake_named {b : Byte} {i : Fin 128} (hb : b.toNat = i.1) :
    discardIntake why h b s =
      postAt (noticeDiscards i.1 why) (s.streamPort i) ((s.intakeDropped why h).countedFor why i) := by
  have hlive : (s.intakeDropped why h).streams = s.streams := (intakeDropped_frame why h s).streams
  rw [discardIntake, number_eq_some.2 hb, State.countedFor, hlive, ← hb]
  dsimp only
  split
  · rfl
  next hdead => rw [State.streamPort, if_neg hdead]; rfl

/-- An intake that names no stream is discarded: message, store-wide count and notice alone. -/
theorem discardIntake_unnamed_effects {b : Byte} (hb : 128 ≤ b.toNat) :
    let t := discardIntake why h b s
    SameBut ([.storeDiscards, .fabric] ++ allLinks) s t ∧ t.fabric = s.fabric.queued (.discard h why) ∧
    t.storeDiscards = countDiscard why s.storeDiscards ∧ Hears [⟨noticeDiscards b.toNat why, false⟩] s.now s t := by
  rw [discardIntake_unnamed why h s hb]
  have hdropped := intakeDropped_frame why h s
  have hpost := postAt_frame (noticeDiscards b.toNat why) none (s.intakeDropped why h)
  have hheard := postAt_hears (noticeDiscards b.toNat why) none (s.intakeDropped why h)
  rw [hdropped.now] at hheard
  refine ⟨(hdropped.mono (by simp)).trans (hpost.mono fun _ => List.mem_append_right _), ?_, ?_,
    (hdropped.hears s.now (by simp)).trans hheard⟩
  · rw [hpost.fabric, intakeDropped_fabric]
  · rw [hpost.storeDiscards, intakeDropped_storeDiscards]

/-- An intake for stream `i` is discarded: its record counts it where the stream is not FREE. -/
theorem discardIntake_named_effects {b : Byte} (hb : b.toNat = i.1) :
    let x := s.streams.get i
    let t := discardIntake why h b s
    SameBut ([.streams, .storeDiscards, .fabric] ++ allLinks) s t ∧ t.fabric = s.fabric.queued (.discard h why) ∧
    t.storeDiscards = countDiscard why s.storeDiscards ∧ OthersSame i s.streams t.streams ∧
    t.streams.get i = { x with discards := if x.state = .free then x.discards else countDiscard why x.discards } ∧
    Hears [byPort s (s.streamPort i) (noticeDiscards i.1 why)] s.now s t := by
  rw [discardIntake_named why h s hb]
  have hdropped := intakeDropped_frame why h s
  have hcounted := countedFor_frame why i (s.intakeDropped why h)
  have hpost := postAt_frame (noticeDiscards i.1 why) (s.streamPort i) ((s.intakeDropped why h).countedFor why i)
  have hheard := postAt_hears (noticeDiscards i.1 why) (s.streamPort i) ((s.intakeDropped why h).countedFor why i)
  rw [hcounted.now, hdropped.now, hcounted.byPort, hdropped.byPort] at hheard
  refine ⟨((hdropped.mono (by simp)).trans (hcounted.mono (by simp))).trans
    (hpost.mono fun _ => List.mem_append_right _), ?_, ?_, ?_, ?_,
    ((hdropped.hears s.now (by simp)).trans (hcounted.hears s.now (by simp))).trans hheard⟩
  · rw [hpost.fabric, hcounted.fabric, intakeDropped_fabric]
  · rw [hpost.storeDiscards, hcounted.storeDiscards, intakeDropped_storeDiscards]
  · rw [hpost.streams, ← hdropped.streams]
    exact countedFor_others why i _
  · rw [hpost.streams, countedFor_record, hdropped.streams]

end dropped

/-! ### The checks of an ENQUEUE (R53) -/

/-- The reason of the first check of R53 that fails for stream `i`. -/
def State.enqueueReason (s : State) (i : Fin 128) (handle length : BitVec 16) : Option DiscardReason :=
  if length.toNat < 64 ∨ 9216 < length.toNat then some .length
  else if s.inStore handle = true ∨ s.isOutstanding handle = true then some .duplicate
  else if (s.streams.get i).state = .free then some .noStream
  else s.intakeReason i

section enqueue
variable {b : Byte} {i : Fin 128} {h n : BitVec 16} {s : State}

theorem known_iff : s.inStore h = true ∨ s.isOutstanding h = true ↔
    (∃ d ∈ s.store, d.handle = h) ∨ ∃ p, ∃ e ∈ (s.ports.get p).outstanding, e.handle = h :=
  or_congr inStore_iff isOutstanding_iff

/-- Check 4 of R53: a CYCLIC stream of another owner than the SC link, whose egress port has a station in SERVICE. -/
theorem heldIntake_iff {x : Stream} :
    (x.cls = some .cyclic ∧ x.ownedBySc = false ∧
        (match x.egress with | some p => s.inService p | none => false) = true) ↔
      x.cls = some .cyclic ∧ x.owner ≠ some .sc ∧ ∃ p, x.egress = some p ∧ s.inService p = true := by
  refine and_congr Iff.rfl (and_congr ?_ ?_)
  · rw [Stream.ownedBySc, beq_eq_false_iff_ne]
  · cases x.egress <;> simp

theorem takeEnqueue_unnamed (hb : 128 ≤ b.toNat) {why : DiscardReason}
    (hwhy : why = if n.toNat < 64 ∨ 9216 < n.toNat then .length
      else if (∃ d ∈ s.store, d.handle = h) ∨ ∃ p, ∃ e ∈ (s.ports.get p).outstanding, e.handle = h then .duplicate
      else .noStream) :
    takeEnqueue b h n s = discardIntake why h b s := by
  rw [takeEnqueue, number_eq_none.2 hb, if_congr (known_iff (h := h) (s := s)) rfl rfl, hwhy]
  split
  · rfl
  split <;> rfl

theorem takeEnqueue_refused {why : DiscardReason} (hb : b.toNat = i.1) (hr : s.enqueueReason i h n = some why) :
    takeEnqueue b h n s = discardIntake why h b s := by
  rw [takeEnqueue, number_eq_some.2 hb]
  unfold State.enqueueReason at hr
  split at hr
  next hc => rw [if_pos hc, Option.some.inj hr]
  next hc =>
  rw [if_neg hc]
  split at hr
  next hc => rw [if_pos hc, Option.some.inj hr]
  next hc =>
  rw [if_neg hc]
  dsimp only
  split at hr
  next hc => rw [if_pos hc, Option.some.inj hr]
  next hc => rw [if_neg hc, hr]

theorem takeEnqueue_accepted (hb : b.toNat = i.1) (hr : s.enqueueReason i h n = none) :
    takeEnqueue b h n s = accept i h n s := by
  rw [State.enqueueReason, ite_some_eq_none_iff, ite_some_eq_none_iff, ite_some_eq_none_iff] at hr
  obtain ⟨hlength, hknown, hfree, hr⟩ := hr
  rw [takeEnqueue, number_eq_some.2 hb, if_neg hlength, if_neg hknown]
  dsimp only
  rw [if_neg hfree, hr]

theorem exec_enqueue (hu : s.fabric.up = true) : exec (.enqueue b h n) s = .next (takeEnqueue b h n s) :=
  congrArg _ (if_neg (by rw [hu]; decide))

end enqueue

/-- Settles O24: an intake that is refused is counted and told without a slot; one that is accepted joins the store after
what it overtakes has left it. -/
theorem enqueueIsCheckedThenStored : Obligations.EnqueueIsCheckedThenStored := by
  unfold Obligations.EnqueueIsCheckedThenStored
  intro b h n s hu c badLength known
  refine ⟨fun hb => ?_, fun i hb => ?_⟩
  · intro why
    exact ⟨_, (exec_enqueue hu).trans (congrArg _ (takeEnqueue_unnamed hb rfl)),
      discardIntake_unnamed_effects why h s hb⟩
  intro x reason
  have hreason : reason = s.enqueueReason i h n :=
    if_congr Iff.rfl rfl <| if_congr known_iff.symm rfl <| if_congr Iff.rfl rfl <| if_congr Iff.rfl rfl <|
      if_congr Iff.rfl rfl <| if_congr heldIntake_iff.symm rfl <| if_congr Iff.rfl rfl <| if_congr Iff.rfl rfl rfl
  refine ⟨fun why hwhy => ?_, fun hnone => ?_⟩
  · have htake := takeEnqueue_refused hb (hreason.symm.trans hwhy)
    exact ⟨_, (exec_enqueue hu).trans (congrArg _ htake), discardIntake_named_effects why h i s hb⟩
  · have htake := (takeEnqueue_accepted hb (hreason.symm.trans hnone)).trans (accept_eq i h n s)
    obtain ⟨hframe, ⟨hstore, hfabric, hcount⟩, hothers, hrecord, hheard⟩ := overtaken_discards i s
    refine ⟨_, (exec_enqueue hu).trans (congrArg _ htake), ?_, ?_, hfabric, hcount, hothers, hrecord, hheard⟩
    · exact hframe.trans ((State.onStore_frame _ _).mono (by decide))
    · exact congrArg (· ++ [s.enqueued i h n]) hstore

end Sys2Proof.Machine
end

section
/-! QUEUE-SET, BACKOFF-MATCH and PORT-SET: the checks of their fields, and the records they set. -/

namespace Sys2Proof.Machine

-- One proof after the other: each waiting thread would hold its own stack.
set_option Elab.async false

/-! ### Requests that set a record and post nothing -/

@[simp] theorem held_queues (l : Link) (tag : Byte) (r : Request) (s : State) : (held l tag r s).queues = s.queues := by
  cases l <;> rfl

@[simp] theorem held_backoff (l : Link) (tag : Byte) (r : Request) (s : State) :
    (held l tag r s).backoff = s.backoff := by cases l <;> rfl

/-- A request whose owner performs it without a notice: beside its link it leaves what the owner leaves. -/
theorem request_sets {c : Instr} {l : Link} {tag : Byte} {r : Request} {own : State → Answer} {s u : State}
    {body : List Byte} {ps : List Part} (hx : exec c s = .next (request l tag r own s)) (h : Taken l r s)
    (hp : placedAtOnce r = false) (ho : own (held l tag r s) = done body u) (hf : SameBut ps (held l tag r s) u)
    (hl : ∀ m, Part.link m ∉ ps) :
    ∃ t, exec c s = .next t ∧ Replied l tag r .done body [] s t ∧ SameBut (ps ++ [.link l]) s t ∧
      SameBut [.link l] u t := by
  obtain ⟨t, hx, hreply, hrest, _⟩ := request_completes hx h hp ho (hf.hears _ hl)
  refine ⟨t, hx, hreply, ?_, hrest⟩
  have hsub : ∀ q ∈ [Part.link l], q ∈ ps ++ [.link l] := fun _ => List.mem_append_right ps
  exact (((held_frame l tag r s).mono hsub).trans (hf.mono fun _ => List.mem_append_left _)).trans (hrest.mono hsub)

theorem onQueue_others (q : Fin 8) (f : PacingQueue → PacingQueue) (s : State) :
    OthersSame q s.queues (s.onQueue q f).queues := fun _ hj => Tbl.get_upd_of_ne _ f hj

@[simp] theorem onQueue_get_self (q : Fin 8) (f : PacingQueue → PacingQueue) (s : State) :
    (s.onQueue q f).queues.get q = f (s.queues.get q) := Tbl.get_upd_self ..

theorem onPort_others (p : Fin 24) (f : Port → Port) (s : State) :
    OthersSame p s.ports (s.onPort p f).ports := fun _ hj => Tbl.get_upd_of_ne _ f hj

@[simp] theorem onPort_get_self (p : Fin 24) (f : Port → Port) (s : State) :
    (s.onPort p f).ports.get p = f (s.ports.get p) := Tbl.get_upd_self ..

/-! ### What the owners answer (R86, R88, R89) -/

theorem yesNo_lt {b : Byte} {w : Bool} (h : yesNo b = some w) : b.toNat < 2 :=
  Nat.lt_of_not_le fun hle => by rw [yesNo_eq_none hle] at h; cases h

section owners
variable {a e pa n : Byte} {us : BitVec 32} {s : State}

theorem ownQueueSet_range
    (h : 8 ≤ a.toNat ∨ 2 ≤ e.toNat ∨ 2 ≤ pa.toNat ∨ us.toNat < 20 ∨ 1000000 < us.toNat) :
    ownQueueSet a e us pa s = refuse .refusedRange s := by
  unfold ownQueueSet
  split
  next q _ _ _ hq he hus hpa =>
    have hqa := number_eq_some.1 hq
    have hper := inRange_eq_some.1 hus
    have he2 := yesNo_lt he
    have hpa2 := yesNo_lt hpa
    omega
  · rfl

/-- The record that QUEUE-SET leaves (R86). -/
def PacingQueue.setTo (e pa : Byte) (us here : Nat) (x : PacingQueue) : PacingQueue :=
  { x with
    enabled := decide (e = 1), periodUs := us, pauseAware := decide (pa = 1)
    nextExpiry := if e = 0 then none else if x.enabled = true then x.nextExpiry else some (here + us * 25) }

theorem ownQueueSet_named {q : Fin 8} (ha : a.toNat = q.1) (he : e.toNat < 2) (hpa : pa.toNat < 2)
    (h1 : 20 ≤ us.toNat) (h2 : us.toNat ≤ 1000000) :
    ownQueueSet a e us pa s = done [] (s.onQueue q (PacingQueue.setTo e pa us.toNat s.time.clock25)) := by
  rw [ownQueueSet, number_eq_some.2 ha, yesNo_of_lt he, inRange_eq_some.2 ⟨rfl, h1, h2⟩, yesNo_of_lt hpa]
  have hoff : decide (e = 1) = false ↔ e = 0 := by
    rw [decide_eq_false_iff_not]
    constructor <;> intro hx <;> bv_omega
  refine congrArg (fun f => done [] (s.onQueue q f)) (funext fun x => ?_)
  unfold PacingQueue.setTo
  cases hx : x.enabled <;> simp only [hoff] <;> rfl

theorem ownBackoffMatch_range (h : n &&& ~~~ a ≠ 0) : ownBackoffMatch a n s = refuse .refusedRange s := if_pos h

theorem ownBackoffMatch_done (h : n &&& ~~~ a = 0) :
    ownBackoffMatch a n s = done (be 4 s.backoff.matched ++ be 4 s.backoff.unmatched)
      { s with backoff := { s.backoff with mask := a, compare := n } } := if_neg (not_not.2 h)

theorem ownPortSet_range (h : 24 ≤ a.toNat ∨ 16 ≤ n.toNat) : ownPortSet a n s = refuse .refusedRange s := by
  unfold ownPortSet
  split
  next p _ hp hn =>
    have hpa := number_eq_some.1 hp
    have hshare := inRange_eq_some.1 hn
    omega
  · rfl

theorem ownPortSet_named {p : Fin 24} (ha : a.toNat = p.1) (hn : n.toNat < 16) :
    ownPortSet a n s = done [] (s.onPort p fun x => { x with share := n.toNat, cyclicRun := 0 }) := by
  rw [ownPortSet, number_eq_some.2 ha, inRange_eq_some.2 ⟨rfl, Nat.zero_le _, Nat.le_of_lt_succ hn⟩]

end owners

/-- Settles O26: each of the three requests is refused out of range, and otherwise changes one record alone. -/
theorem pacingRequestsSetTheirRecords : Obligations.PacingRequestsSetTheirRecords := by
  unfold Obligations.PacingRequestsSetTheirRecords
  rintro l tag s hw rfl
  refine ⟨fun a e pa us => ⟨fun h => ?_, fun he hpa h1 h2 q ha => ?_⟩, fun mask compare => ⟨fun h => ?_, fun h => ?_⟩,
    fun a n => ⟨fun h => ?_, fun hn p ha => ?_⟩⟩
  · exact request_onlyReplies rfl ⟨hw, rfl⟩ rfl (ownQueueSet_range h)
  · obtain ⟨t, hx, hreply, hframe, hrest⟩ := request_sets (c := .queueSet .sm tag a e us pa) (tag := tag) rfl ⟨hw, rfl⟩
      rfl (ownQueueSet_named ha he hpa h1 h2) (State.onQueue_frame q _ _) (by simp)
    refine ⟨t, hx, hreply, hframe, ?_, ?_⟩ <;> rw [hrest.queues]
    · exact held_queues .sm tag _ s ▸ onQueue_others q _ _
    · rw [onQueue_get_self, held_queues, held_time]
      rfl
  · exact request_onlyReplies rfl ⟨hw, rfl⟩ rfl (ownBackoffMatch_range h)
  · obtain ⟨t, hx, hreply, hframe, hrest⟩ := request_sets (c := .backoffMatch .sm tag mask compare) (tag := tag) rfl
      ⟨hw, rfl⟩ rfl (ownBackoffMatch_done h) (backoff_frame _ _) (by simp)
    rw [held_backoff] at hreply hrest
    exact ⟨t, hx, hreply, hframe, hrest.backoff⟩
  · exact request_onlyReplies rfl ⟨hw, rfl⟩ rfl (ownPortSet_range h)
  · obtain ⟨t, hx, hreply, hframe, hrest⟩ := request_sets (c := .portSet .sm tag a n) (tag := tag) rfl ⟨hw, rfl⟩ rfl
      (ownPortSet_named ha hn) (State.onPort_frame p _ _) (by simp)
    refine ⟨t, hx, hreply, hframe, ?_, ?_⟩ <;> rw [hrest.ports]
    · exact held_ports .sm tag _ s ▸ onPort_others p _ _
    · rw [onPort_get_self, held_ports]

end Sys2Proof.Machine
end

section
/-! The expiry of a pacing queue: the accrual of a linked stream, and the grid of the queue. -/

namespace Sys2Proof.Machine

-- One proof after the other: each waiting thread would hold its own stack.
set_option Elab.async false

theorem Stream.linkedTo_iff {q : Fin 8} {x : Stream} : x.linkedTo q = true ↔ x.state ≠ .free ∧ x.queue = q := by
  rw [Stream.linkedTo, Bool.and_eq_true, Stream.live_iff, beq_iff_eq]

/-- R74: the quiet count, and the level at its end. -/
theorem Stream.quieten_eq (x : Stream) :
    let sheds := x.recovery = .shed ∧ x.level = 1
    x.quieten = { x with
      quiet := if sheds then min (x.quiet + 1) 16 else x.quiet
      level := if sheds ∧ 16 ≤ x.quiet + 1 then 0 else x.level } := by
  intro sheds
  unfold Stream.quieten
  by_cases hs : sheds
  · rw [if_pos hs, if_pos hs]
    by_cases hq : 16 ≤ x.quiet + 1
    · rw [if_pos hq, if_pos ⟨hs, hq⟩, Nat.min_eq_right hq]
    · rw [if_neg hq, if_neg fun h => hq h.2, Nat.min_eq_left (Nat.le_of_not_le hq)]
  · rw [if_neg hs, if_neg hs, if_neg fun h => hs h.1]

/-- R67: phase and credit, where the stream is not frozen. -/
theorem Stream.accrue_eq {frozen : Bool} {f : Prop} [Decidable f] (hf : frozen = true ↔ f) (x : Stream) :
    let phase := (x.phase + 1) % 16
    x.accrue frozen = { x with
      phase := if f then x.phase else phase
      credit := if ¬ f ∧ 2 ^ x.level ∣ phase then min (x.credit + 1) x.quota else x.credit } := by
  intro phase
  unfold Stream.accrue
  by_cases h : f
  · rw [if_pos (hf.2 h), if_pos h, if_neg fun hn => hn.1 h]
  · rw [if_neg (mt hf.1 h), if_neg h]
    simp only [h, not_false_eq_true, true_and, Nat.dvd_iff_mod_eq_zero]
    rfl

theorem State.pausedFor_iff {s : State} {x : Stream} :
    s.pausedFor x = true ↔ ∃ p, x.egress = some p ∧ (s.ports.get p).paused = true := by
  unfold State.pausedFor
  cases x.egress <;> simp

theorem accrueAll_stream (q : Fin 8) (s : State) (i : Fin 128) :
    (accrueAll q s).streams.get i =
      if (s.streams.get i).linkedTo q = true then
        ((s.streams.get i).accrue ((s.queues.get q).pauseAware && s.pausedFor (s.streams.get i))).quieten
      else s.streams.get i := Tbl.get_map ..

/-- The record of a queue after its expiry at `e` (R66). -/
def PacingQueue.expired (e : Nat) (x : PacingQueue) : PacingQueue :=
  { x with expiries := (x.expiries + 1) % 2 ^ 32, nextExpiry := some (e + x.periodUs * 25) }

theorem execPacingQueueExpiry_due {q : Fin 8} {s : State} {e : Nat} (h : (s.queues.get q).enabled = true)
    (he : (s.queues.get q).nextExpiry = some e) (hd : e ≤ s.time.clock25) :
    execPacingQueueExpiry q s = .next (accrueAll q (s.onQueue q (PacingQueue.expired e))) := by
  rw [execPacingQueueExpiry, he]
  exact congrArg _ (if_pos ⟨h, hd⟩)

theorem execPacingQueueExpiry_early {q : Fin 8} {s : State}
    (h : ∀ e, (s.queues.get q).enabled = true → (s.queues.get q).nextExpiry = some e → s.time.clock25 < e) :
    execPacingQueueExpiry q s = .next s := by
  unfold execPacingQueueExpiry
  dsimp only
  split
  next e he => exact congrArg _ (if_neg fun ⟨hon, hd⟩ => absurd (h e hon he) (Nat.not_lt.2 hd))
  · rfl

/-- Settles O27: the queue's record moves on its grid, and each linked stream accrues on its own record. -/
theorem queueExpiryAccrues : Obligations.QueueExpiryAccrues := by
  unfold Obligations.QueueExpiryAccrues
  intro q s x
  refine ⟨fun e hon he hd => ?_, fun h => ⟨s, execPacingQueueExpiry_early h, rfl⟩⟩
  have hqueue := State.onQueue_frame q (PacingQueue.expired e) s
  have haccrue := accrueAll_frame q (s.onQueue q (PacingQueue.expired e))
  refine ⟨_, execPacingQueueExpiry_due hon he hd, (hqueue.mono (by decide)).trans (haccrue.mono (by decide)), ?_, ?_,
    fun i => ?_⟩
  · rw [haccrue.queues]
    exact onQueue_others q _ s
  · rw [haccrue.queues]
    exact onQueue_get_self q _ s
  · intro y frozen phase sheds
    have hfrozen : ((((s.onQueue q (PacingQueue.expired e)).queues.get q).pauseAware &&
        (s.onQueue q (PacingQueue.expired e)).pausedFor y) = true) ↔ frozen := by
      rw [Bool.and_eq_true, State.pausedFor_iff, onQueue_get_self]
      rfl
    rw [accrueAll_stream]
    exact if_congr Stream.linkedTo_iff ((congrArg Stream.quieten (Stream.accrue_eq hfrozen y)).trans
      (Stream.quieten_eq _)) rfl

end Sys2Proof.Machine
end

section
/-! The choice of the Release Arbiter: the streams eligible in a tier, the tier, and the stream that is served. -/

namespace Sys2Proof.Machine

-- One proof after the other: each waiting thread would hold its own stack.
set_option Elab.async false

/-! ### Eligible streams (R77, R79) -/

theorem State.held_iff {s : State} {x : Stream} {p : Fin 24} (hp : x.egress = some p) :
    s.held x = true ↔ x.cls ≠ some .time ∧ x.owner ≠ some .sc ∧ s.inService p = true := by
  simp [State.held, Stream.ownedBySc, hp, and_assoc]

theorem State.eligible_iff {s : State} {p : Fin 24} {i : Fin 128} : s.eligible p i = true ↔ eligibleAt s p i := by
  unfold State.eligible eligibleAt
  simp only [Bool.and_eq_true, Stream.live_iff, beq_iff_eq, decide_eq_true_eq, Bool.not_eq_true', and_assoc,
    List.isEmpty_eq_false_iff]
  refine and_congr_right fun _ => and_congr_right fun hp => and_congr_right fun _ => and_congr_right fun _ => ?_
  rw [← State.held_iff hp, Bool.not_eq_true]

theorem State.mem_eligibleIn {s : State} {p : Fin 24} {t : Tier} {i : Fin 128} :
    i ∈ s.eligibleIn p t ↔ eligibleInTier s p t i := by
  rw [State.eligibleIn, List.mem_filter, Bool.and_eq_true, State.eligible_iff]
  unfold eligibleInTier
  refine (and_iff_right (List.mem_finRange i)).trans (and_congr Iff.rfl ?_)
  cases (s.streams.get i).cls with
  | none => cases t <;> simp
  | some c => cases c <;> cases t <;> decide

/-- The eligible streams stand in ascending number. -/
theorem State.eligibleIn_ascending (s : State) (p : Fin 24) (t : Tier) : (s.eligibleIn p t).Pairwise (· < ·) :=
  (List.pairwise_lt_finRange 128).filter _

theorem State.eligibleIn_ne_nil {s : State} {p : Fin 24} {t : Tier} :
    s.eligibleIn p t ≠ [] ↔ ∃ i, eligibleInTier s p t i :=
  (List.eq_nil_iff_forall_not_mem.not.trans not_forall_not).trans (exists_congr fun _ => State.mem_eligibleIn)

theorem State.some_eligibleIn {s : State} {p : Fin 24} {t : Tier} :
    (!(s.eligibleIn p t).isEmpty) = true ↔ ∃ i, eligibleInTier s p t i := by
  rw [Bool.not_eq_true', List.isEmpty_eq_false_iff, State.eligibleIn_ne_nil]

/-- An eligible stream that has a class is eligible in a tier. -/
theorem eligibleAt.inTier {s : State} {p : Fin 24} {i : Fin 128} (h : eligibleAt s p i)
    (hc : (s.streams.get i).cls ≠ none) : ∃ t, eligibleInTier s p t i := by
  cases hcls : (s.streams.get i).cls with
  | none => exact absurd hcls hc
  | some c =>
    cases c
    case time => exact ⟨.time, h, hcls⟩
    case cyclic => exact ⟨.cyclic, h, hcls⟩
    case bulk => exact ⟨.bulk, h, .inl hcls⟩
    case service => exact ⟨.bulk, h, .inr hcls⟩

/-! ### The tier (R79) -/

section tier
variable {s : State} {p : Fin 24}

open Classical in
/-- The table of R79, row by row, over the tiers that have an eligible stream. -/
theorem State.chooseTier_eq (s : State) (p : Fin 24) :
    let x := s.ports.get p
    let some' := fun t => ∃ i, eligibleInTier s p t i
    s.chooseTier p =
      if 0 < x.share ∧ x.cyclicRun = x.share ∧ some' .bulk then some (.bulk, 0)
      else if some' .time then some (.time, x.cyclicRun)
      else if some' .cyclic ∧ some' .bulk ∧ 0 < x.share then some (.cyclic, x.cyclicRun + 1)
      else if some' .cyclic then some (.cyclic, x.cyclicRun)
      else if some' .bulk then some (.bulk, 0)
      else none :=
  have hsome := fun t => State.some_eligibleIn (s := s) (p := p) (t := t)
  if_congr (and_congr_right' (and_congr_right' (hsome .bulk))) rfl <| if_congr (hsome .time) rfl <|
    if_congr (and_congr (hsome .cyclic) (and_congr_left' (hsome .bulk))) rfl <| if_congr (hsome .cyclic) rfl <|
      if_congr (hsome .bulk) rfl rfl

theorem State.chooseTier_some {t : Tier} {n : Nat} (h : s.chooseTier p = some (t, n)) :
    chosenTier s p t n ∧ ∃ i, eligibleInTier s p t i := by
  rw [State.chooseTier_eq] at h
  unfold chosenTier
  split at h
  next h1 =>
    obtain ⟨rfl, rfl⟩ := Prod.mk.inj (Option.some.inj h)
    exact ⟨⟨fun _ => ⟨rfl, rfl⟩, fun hn => absurd h1 hn, fun hn => absurd h1 hn, fun hn => absurd h1 hn⟩, h1.2.2⟩
  next h1 =>
  split at h
  next htime =>
    obtain ⟨rfl, rfl⟩ := Prod.mk.inj (Option.some.inj h)
    exact ⟨⟨fun hr => absurd hr h1, fun _ _ => ⟨rfl, rfl⟩, fun _ hn => absurd htime hn, fun _ hn => absurd htime hn⟩,
      htime⟩
  next htime =>
  split at h
  next hboth =>
    obtain ⟨rfl, rfl⟩ := Prod.mk.inj (Option.some.inj h)
    obtain ⟨hcyc, hbulk, hshare⟩ := hboth
    exact ⟨⟨fun hr => absurd hr h1, fun _ ht => absurd ht htime,
      fun _ _ _ => ⟨rfl, fun _ => rfl, fun hn => absurd ⟨hbulk, hshare⟩ hn⟩, fun _ _ hn => absurd hcyc hn⟩, hcyc⟩
  next hboth =>
  split at h
  next hcyc =>
    obtain ⟨rfl, rfl⟩ := Prod.mk.inj (Option.some.inj h)
    exact ⟨⟨fun hr => absurd hr h1, fun _ ht => absurd ht htime,
      fun _ _ _ => ⟨rfl, fun hb => absurd ⟨hcyc, hb⟩ hboth, fun _ => rfl⟩, fun _ _ hn => absurd hcyc hn⟩, hcyc⟩
  next hcyc =>
  split at h
  next hbulk =>
    obtain ⟨rfl, rfl⟩ := Prod.mk.inj (Option.some.inj h)
    exact ⟨⟨fun hr => absurd hr h1, fun _ ht => absurd ht htime, fun _ _ hc => absurd hc hcyc,
      fun _ _ _ => ⟨rfl, rfl⟩⟩, hbulk⟩
  · cases h

/-- A tier is chosen where some tier has a stream. -/
theorem State.chooseTier_ne_none (h : ∃ t i, eligibleInTier s p t i) : s.chooseTier p ≠ none := by
  obtain ⟨t, hi⟩ := h
  intro hn
  rw [State.chooseTier_eq] at hn
  split at hn
  · cases hn
  split at hn
  · cases hn
  next htime =>
  split at hn
  · cases hn
  split at hn
  · cases hn
  next hcyc =>
  split at hn
  · cases hn
  next hbulk =>
  cases t
  case time => exact htime hi
  case cyclic => exact hcyc hi
  case bulk => exact hbulk hi

end tier

/-! ### The stream (R80) -/

section robin
variable {ptr : Option (Fin 128)} {xs : List (Fin 128)} {i : Fin 128}

/-- In an ascending list the first that passes is the least that passes. -/
theorem find?_least {f : Fin 128 → Bool} (hs : xs.Pairwise (· < ·)) (h : xs.find? f = some i) :
    f i = true ∧ ∀ j ∈ xs, f j = true → i ≤ j := by
  obtain ⟨hi, as, bs, rfl, hbefore⟩ := List.find?_eq_some_iff_append.1 h
  refine ⟨hi, fun j hj hfj => ?_⟩
  obtain hj | hj := List.mem_append.1 hj
  · exact absurd hfj (by simpa using hbefore j hj)
  · obtain rfl | hj := List.mem_cons.1 hj
    · exact le_rfl
    · exact ((List.pairwise_cons.1 (List.pairwise_append.1 hs).2.1).1 j hj).le

theorem head?_least (hs : xs.Pairwise (· < ·)) (h : xs.head? = some i) : ∀ j ∈ xs, i ≤ j := by
  cases xs with
  | nil => cases h
  | cons a as =>
    obtain rfl := Option.some.inj h
    rintro j (_ | ⟨_, hj⟩)
    · exact le_rfl
    · exact ((List.pairwise_cons.1 hs).1 j hj).le

/-- The round robin serves the least number above the pointer, and the least of all where none stands above it. -/
theorem nextAfter_serves (hs : xs.Pairwise (· < ·)) (h : nextAfter ptr xs = some i) :
    let above := fun j => ∃ k, ptr = some k ∧ k < j
    i ∈ xs ∧ ((∃ j ∈ xs, above j) → above i ∧ ∀ j ∈ xs, above j → i ≤ j) ∧
      ((∀ j ∈ xs, ¬ above j) → ∀ j ∈ xs, i ≤ j) := by
  intro above
  cases ptr with
  | none =>
    have hnone : ∀ j, ¬ above j := fun _ ⟨_, hk, _⟩ => by cases hk
    exact ⟨List.mem_of_head? h, fun ⟨j, _, hj⟩ => absurd hj (hnone j), fun _ => head?_least hs h⟩
  | some k =>
    have habove : ∀ j, above j ↔ k < j := fun j => ⟨fun ⟨_, hk, hj⟩ => Option.some.inj hk ▸ hj, fun hj => ⟨k, rfl, hj⟩⟩
    simp only [habove]
    rw [nextAfter] at h
    cases hfind : xs.find? (k < ·) with
    | none =>
      rw [hfind, Option.none_or] at h
      have hnone := List.find?_eq_none.1 hfind
      exact ⟨List.mem_of_head? h, fun ⟨j, hj, hkj⟩ => absurd (decide_eq_true hkj) (hnone j hj),
        fun _ => head?_least hs h⟩
    | some a =>
      rw [hfind, Option.some_or] at h
      obtain rfl := Option.some.inj h
      obtain ⟨ha, hleast⟩ := find?_least hs hfind
      have hmem := List.mem_of_find?_eq_some hfind
      refine ⟨hmem, fun _ => ⟨of_decide_eq_true ha, fun j hj hkj => hleast j hj (decide_eq_true hkj)⟩, fun hn => ?_⟩
      exact absurd (of_decide_eq_true ha) (hn a hmem)

theorem nextAfter_ne_none (h : xs ≠ []) : nextAfter ptr xs ≠ none := by
  have hhead : xs.head? ≠ none := fun hn => h (List.head?_eq_none_iff.1 hn)
  cases ptr with
  | none => exact hhead
  | some k =>
    intro hn
    exact hhead (Option.or_eq_none_iff.1 hn).2

end robin

/-! ### The choice (R79, R80) -/

section choice
variable {s : State} {p : Fin 24}

theorem State.choose_eq_some {t : Tier} {n : Nat} {i : Fin 128} : s.choose p = some (t, n, i) ↔
    s.chooseTier p = some (t, n) ∧ nextAfter ((s.ports.get p).pointer t) (s.eligibleIn p t) = some i := by
  simp [State.choose, Option.bind_eq_some_iff]

/-- Where a stream is eligible in some tier, a stream of the chosen tier is served. -/
theorem State.choose_some (h : ∃ t i, eligibleInTier s p t i) :
    ∃ t n i, s.choose p = some (t, n, i) ∧ chosenTier s p t n ∧ servedNext s p t i := by
  obtain ⟨⟨t, n⟩, ht⟩ := Option.ne_none_iff_exists'.1 (State.chooseTier_ne_none h)
  obtain ⟨htier, hsome⟩ := State.chooseTier_some ht
  obtain ⟨i, hi⟩ := Option.ne_none_iff_exists'.1
    (nextAfter_ne_none (ptr := (s.ports.get p).pointer t) (State.eligibleIn_ne_nil.2 hsome))
  refine ⟨t, n, i, State.choose_eq_some.2 ⟨ht, hi⟩, htier, ?_⟩
  have hserves := nextAfter_serves (s.eligibleIn_ascending p t) hi
  simp only [State.mem_eligibleIn] at hserves
  exact hserves

theorem State.choose_none (h : ∀ i, ¬ eligibleAt s p i) : s.choose p = none := by
  by_contra hn
  obtain ⟨⟨t, n, i⟩, hc⟩ := Option.ne_none_iff_exists'.1 hn
  obtain ⟨_, i, hi⟩ := State.chooseTier_some (State.choose_eq_some.1 hc).1
  exact h i hi.1

end choice

end Sys2Proof.Machine
end

section
/-! RELEASE: what it leaves of its stream, the store, the lane and the port. -/

namespace Sys2Proof.Machine

-- One proof after the other: each waiting thread would hold its own stack.
set_option Elab.async false

theorem Port.canTake_iff {x : Port} : x.canTake = true ↔ x.up = true ∧ x.paused = false ∧ x.outstanding.length < 2 := by
  simp [Port.canTake, and_assoc]

/-- R73: the clean count, and the level at its end. -/
theorem Stream.recover_eq (x : Stream) :
    let numbered := x.recovery ≠ .shed ∧ x.level ≠ 0
    let full := x.recovery = .clean (x.clean + 1)
    x.recover = { x with
      level := if numbered ∧ full then x.level - 1 else x.level
      clean := if numbered then (if full then 0 else x.clean + 1) else x.clean } := by
  intro numbered full
  unfold Stream.recover
  split
  next m hm =>
    by_cases h0 : x.level = 0
    · have hn : ¬ numbered := fun h => h.2 h0
      rw [if_pos h0, if_neg fun h => hn h.1, if_neg hn]
    · have hn : numbered := ⟨by rw [hm]; nofun, h0⟩
      have hfull : x.clean + 1 = m ↔ full := by
        show _ ↔ x.recovery = _
        rw [hm, Recovery.clean.injEq, eq_comm]
      rw [if_neg h0, if_pos hn]
      by_cases h : full
      · rw [if_pos (hfull.2 h), if_pos ⟨hn, h⟩, if_pos h]
      · rw [if_neg (mt hfull.1 h), if_neg fun hb => h hb.2, if_neg h]
  next hs =>
    have hn : ¬ numbered := fun h => h.1 hs
    rw [if_neg fun h => hn h.1, if_neg hn]

section release
variable {s : State} {i : Fin 128} {d : Descriptor} {p : Fin 24}

theorem takenOut_frame : SameBut ([.streams, .store] ++ allLinks) s (s.takenOut i d) :=
  ((((State.onStore_frame _ s).mono (by decide)).trans ((State.onStream_frame i _ _).mono (by decide))).trans
    ((drainCheck_frame i _).mono (by decide))).trans ((State.onStream_frame i _ _).mono (by decide))

theorem takenOut_others : OthersSame i s.streams (s.takenOut i d).streams :=
  ((onStream_others i _ (s.onStore _)).trans (drainCheck_others i _)).trans (onStream_others i _ _)

/-- The record of the stream served (R60, R73, R81). -/
theorem takenOut_record :
    let y := s.streams.get i
    let freed := y.state = .draining ∧ (storeRelease y.wireHold d.handle s.store).all (·.stream != i) = true
    let numbered := y.recovery ≠ .shed ∧ y.level ≠ 0
    let full := y.recovery = .clean (y.clean + 1)
    (s.takenOut i d).streams.get i = { y with
      state := if freed then .free else y.state
      credit := y.credit - 1
      released := satInc y.released
      level := if numbered ∧ full then y.level - 1 else y.level
      clean := if numbered then (if full then 0 else y.clean + 1) else y.clean } := by
  intro y freed numbered full
  rw [State.takenOut, onStream_get_self, drainCheck_record, onStream_get_self]
  exact Stream.recover_eq _

theorem takenOut_hears :
    let y := s.streams.get i
    let freed := y.state = .draining ∧ (storeRelease y.wireHold d.handle s.store).all (·.stream != i) = true
    Hears (if freed then [byPort s y.egress (noticeDrained i y.closeReason)] else []) s.now s (s.takenOut i d) := by
  intro y freed
  have hcount : SameBut [.streams, .store] s
      ((s.onStore (storeRelease y.wireHold d.handle)).onStream i fun x =>
        { x with credit := x.credit - 1, released := satInc x.released }) :=
    ((State.onStore_frame _ s).mono (by decide)).trans ((State.onStream_frame i _ _).mono (by decide))
  have hdrain := drainCheck_hears i ((s.onStore (storeRelease y.wireHold d.handle)).onStream i fun x =>
    { x with credit := x.credit - 1, released := satInc x.released })
  rw [onStream_get_self, hcount.byPort, hcount.now] at hdrain
  have hend := ((hcount.hears s.now (by simp)).trans hdrain).trans
    ((State.onStream_frame i Stream.recover _).hears s.now (by simp))
  rw [List.nil_append, List.append_nil] at hend
  exact hend

theorem releaseOne_streams (t : Tier) (n : Nat) : (releaseOne p t n i d s).streams = (s.takenOut i d).streams := by
  rw [releaseOne_eq, State.onPort_streams, (handOver_frame _ _).streams]

theorem releaseOne_store (t : Tier) (n : Nat) :
    (releaseOne p t n i d s).store = storeRelease (s.streams.get i).wireHold d.handle s.store := by
  rw [releaseOne_eq, State.onPort_store, (handOver_frame _ _).store, takenOut_store]

theorem releaseOne_fabric (t : Tier) (n : Nat) :
    (releaseOne p t n i d s).fabric = s.fabric.queued (.release d.handle p) := by
  rw [releaseOne_eq, State.onPort_fabric, handOver_fabric, takenOut_frame.fabric]

theorem releaseOne_hears (t : Tier) (n : Nat) {ns : List Heard} (h : Hears ns s.now s (s.takenOut i d)) :
    Hears ns s.now s (releaseOne p t n i d s) := by
  have hlane : SameBut [.fabric, .ports] (s.takenOut i d) (releaseOne p t n i d s) :=
    ((handOver_frame _ _).mono (by decide)).trans ((State.onPort_frame p _ _).mono (by decide))
  exact List.append_nil ns ▸ h.trans (hlane.hears s.now (by simp))

theorem handOver_takenOut_ports : (handOver (.release d.handle p) (s.takenOut i d)).ports = s.ports :=
  (handOver_frame _ _).ports.trans takenOut_ports

theorem releaseOne_others (t : Tier) (n : Nat) : OthersSame p s.ports (releaseOne p t n i d s).ports := by
  rw [releaseOne_eq, ← handOver_takenOut_ports (s := s) (i := i) (d := d) (p := p)]
  exact onPort_others p _ _

/-- The record of the port (R81). -/
theorem releaseOne_port (t : Tier) (n : Nat) :
    let x := s.ports.get p
    (releaseOne p t n i d s).ports.get p = { x with
      outstanding := x.outstanding ++
        [{ handle := d.handle, stream := i, releaseMt := s.now, overdue := s.now + 20000000 }]
      cyclicRun := n
      released := satInc x.released
      ptrTime := if t = .time then some i else x.ptrTime
      ptrCyclic := if t = .cyclic then some i else x.ptrCyclic
      ptrBulk := if t = .bulk then some i else x.ptrBulk } := by
  rw [releaseOne_eq, onPort_get_self, handOver_takenOut_ports]
  cases t <;> rfl

theorem execRelease_chosen {t : Tier} {n : Nat} {rest : List Descriptor} (hp : (s.ports.get p).canTake = true)
    (hc : s.choose p = some (t, n, i)) (hd : s.pendingList i = d :: rest) :
    execRelease p s = .next (releaseOne p t n i d s) := by
  rw [execRelease, if_pos hp, hc]
  dsimp only
  rw [hd]
  rfl

theorem execRelease_idle (h : (s.ports.get p).canTake = true → s.choose p = none) : execRelease p s = .next s := by
  unfold execRelease
  split
  next hp => rw [h hp]
  · rfl

end release

/-- Settles O28: the stream chosen has an oldest PENDING descriptor, whose release changes the stream, the store, the
lane and the port in turn. -/
theorem releaseServesTheChosenStream : Obligations.ReleaseServesTheChosenStream := by
  unfold Obligations.ReleaseServesTheChosenStream
  intro p s x
  refine ⟨fun hup hpaused hroom ⟨i, hi, hcls⟩ => ?_, fun h => ⟨s, execRelease_idle fun hp => ?_, rfl⟩⟩
  · obtain ⟨t, ht⟩ := hi.inTier hcls
    obtain ⟨tier, n, k, hc, htier, hnext⟩ := State.choose_some ⟨t, i, ht⟩
    obtain ⟨⟨⟨_, _, _, hpending, _⟩, _⟩, _⟩ := id hnext
    obtain ⟨d, rest, hd⟩ := List.exists_cons_of_ne_nil hpending
    refine ⟨tier, n, k, d, rest, htier, hnext, hd, ?_⟩
    refine ⟨_, execRelease_chosen (Port.canTake_iff.2 ⟨hup, hpaused, hroom⟩) hc hd, releaseOne_frame p tier n k d s,
      releaseOne_store tier n, releaseOne_others tier n, ?_, ?_, releaseOne_fabric tier n, releaseOne_port tier n,
      releaseOne_hears tier n takenOut_hears⟩ <;> rw [releaseOne_streams]
    · exact takenOut_others
    · exact takenOut_record
  · obtain ⟨hup, hpaused, hroom⟩ := Port.canTake_iff.1 hp
    obtain h | h | h | h := h
    · rw [hup] at h; cases h
    · rw [hpaused] at h; cases h
    · exact absurd hroom (Nat.not_lt.2 h)
    · exact State.choose_none h

end Sys2Proof.Machine
end

section
/-! SENT and SENT_OVERDUE_EXPIRY: the list that holds a handle, what the Stream Table hears, the charge of a loss. -/

namespace Sys2Proof.Machine

-- One proof after the other: each waiting thread would hold its own stack.
set_option Elab.async false

/-! ### The list that holds a handle (R75) -/

section holding
variable {s : State} {p q : Fin 24} {e x : Outstanding} {h : BitVec 16}

/-- A handle stands in one outstanding list, once. -/
theorem HandleInv.outstanding_unique (hs : HandleInv s) (he : e ∈ (s.ports.get p).outstanding)
    (hx : x ∈ (s.ports.get q).outstanding) (hh : e.handle = x.handle) : p = q ∧ e = x := by
  obtain ⟨_, _, _, hlists, _⟩ := hs
  obtain ⟨hnodup, hapart⟩ := (handles_nodup_iff _).1 hlists
  have hpq : p = q := by
    by_contra hne
    exact hapart p q hne (List.mem_map_of_mem he) (hh ▸ List.mem_map_of_mem hx)
  subst hpq
  exact ⟨rfl, List.inj_on_of_nodup_map (hnodup p) he hx hh⟩

theorem any_handle_iff : (s.ports.get p).outstanding.any (·.handle == h) = true ↔
    ∃ e ∈ (s.ports.get p).outstanding, e.handle = h := by
  simp only [List.any_eq_true, beq_iff_eq]

theorem portHolding_of_mem (hs : HandleInv s) (he : e ∈ (s.ports.get p).outstanding) :
    s.portHolding e.handle = some p := by
  have hsome : (s.portHolding e.handle).isSome = true :=
    List.find?_isSome.2 ⟨p, List.mem_finRange p, any_handle_iff.2 ⟨e, he, rfl⟩⟩
  obtain ⟨q, hq⟩ := Option.isSome_iff_exists.1 hsome
  obtain ⟨x, hx, hxe⟩ := any_handle_iff.1 (List.find?_some hq :)
  rw [hq, (hs.outstanding_unique he hx hxe.symm).1]

theorem portHolding_eq_none (hn : ∀ p, ∀ e ∈ (s.ports.get p).outstanding, e.handle ≠ h) : s.portHolding h = none :=
  List.find?_eq_none.2 fun p _ hp =>
    let ⟨e, he, heh⟩ := any_handle_iff.1 hp
    hn p e he heh

theorem find_outstanding (hs : HandleInv s) (he : e ∈ (s.ports.get p).outstanding) :
    (s.ports.get p).outstanding.find? (·.handle == e.handle) = some e := by
  have hsome : ((s.ports.get p).outstanding.find? (·.handle == e.handle)).isSome = true :=
    List.find?_isSome.2 ⟨e, he, beq_self_eq_true _⟩
  obtain ⟨x, hx⟩ := Option.isSome_iff_exists.1 hsome
  have hxe : x.handle = e.handle := beq_iff_eq.1 (List.find?_some hx :)
  rw [hx, (hs.outstanding_unique he (List.mem_of_find?_eq_some hx) hxe.symm).2]

end holding

/-! ### The Stream Table told (R60) -/

section settled
variable {h : BitVec 16} {i : Fin 128} {s : State}

theorem handleSettled_wireHeld (hw : ∀ d ∈ s.store, d.handle = h → d.state = .wireHeld ∧ d.stream = i)
    (hd : ∃ d ∈ s.store, d.handle = h ∧ d.state = .wireHeld) :
    handleSettled h s = drainCheck i (freeSlot h s) := by
  unfold handleSettled
  split
  next d hfind =>
    have hmatch := List.find?_some hfind
    have hdh : d.handle = h := beq_iff_eq.1 (Bool.and_eq_true_iff.1 hmatch).1
    rw [(hw d (List.mem_of_find?_eq_some hfind) hdh).2]
  next hnone =>
    obtain ⟨d, hd, hdh, hds⟩ := hd
    exact absurd (by rw [hdh, hds]; simp) (List.find?_eq_none.1 hnone d hd)

theorem handleSettled_unheld (hd : ¬ ∃ d ∈ s.store, d.handle = h ∧ d.state = .wireHeld) : handleSettled h s = s := by
  unfold handleSettled
  split
  next d hfind =>
    have hmatch := Bool.and_eq_true_iff.1 (List.find?_some hfind :)
    exact absurd ⟨d, List.mem_of_find?_eq_some hfind, beq_iff_eq.1 hmatch.1, beq_iff_eq.1 hmatch.2⟩ hd
  · rfl

theorem handleSettled_store (hw : ∀ d ∈ s.store, d.handle = h → d.state = .wireHeld ∧ d.stream = i) :
    (handleSettled h s).store = settledStore h s.store := by
  by_cases hd : ∃ d ∈ s.store, d.handle = h ∧ d.state = .wireHeld
  · rw [handleSettled_wireHeld hw hd, (drainCheck_frame _ _).store]
    refine List.filter_congr fun d hd => ?_
    by_cases hdh : d.handle = h
    · simp [hdh, (hw d hd hdh).1]
    · simp [bne, beq_eq_false_iff_ne.2 hdh]
  · rw [handleSettled_unheld hd]
    refine (List.filter_eq_self.2 fun d hds => ?_).symm
    have hne : ¬ (d.handle = h ∧ d.state = .wireHeld) := fun hx => hd ⟨d, hds, hx⟩
    simpa using not_and_or.1 hne

theorem handleSettled_others (hw : ∀ d ∈ s.store, d.handle = h → d.state = .wireHeld ∧ d.stream = i) :
    OthersSame i s.streams (handleSettled h s).streams := by
  by_cases hd : ∃ d ∈ s.store, d.handle = h ∧ d.state = .wireHeld
  · rw [handleSettled_wireHeld hw hd]
    exact drainCheck_others i (freeSlot h s)
  · rw [handleSettled_unheld hd]
    exact fun _ _ => rfl

theorem freed_iff (hw : ∀ d ∈ s.store, d.handle = h → d.state = .wireHeld ∧ d.stream = i)
    (hd : ∃ d ∈ s.store, d.handle = h ∧ d.state = .wireHeld) :
    ((freeSlot h s).streams.get i).state = .draining ∧ (freeSlot h s).holdsNone i = true ↔ freedBySettling s h i := by
  have hstore := handleSettled_store hw
  rw [handleSettled_wireHeld hw hd, (drainCheck_frame _ _).store] at hstore
  unfold freedBySettling State.holdsNone
  rw [hstore]
  exact and_congr_right fun _ => (and_iff_right hd).symm

/-- A DRAINING stream left with no descriptor is FREE, and its end is posted. -/
theorem handleSettled_freed (hw : ∀ d ∈ s.store, d.handle = h → d.state = .wireHeld ∧ d.stream = i)
    (hf : freedBySettling s h i) :
    (handleSettled h s).streams.get i = { s.streams.get i with state := .free } ∧
    Hears [byPort s (s.streams.get i).egress (noticeDrained i (s.streams.get i).closeReason)] s.now s
      (handleSettled h s) := by
  obtain ⟨_, hd, _⟩ := id hf
  have hslot := freeSlot_frame h s
  have hrecord := drainCheck_record i (freeSlot h s)
  have hheard := drainCheck_hears i (freeSlot h s)
  have hfreed := (freed_iff hw hd).2 hf
  rw [if_pos hfreed] at hrecord hheard
  rw [hslot.byPort, hslot.now, hslot.streams] at hheard
  rw [handleSettled_wireHeld hw hd]
  exact ⟨hrecord, (hslot.hears s.now (by simp)).trans hheard⟩

theorem handleSettled_kept (hw : ∀ d ∈ s.store, d.handle = h → d.state = .wireHeld ∧ d.stream = i)
    (hf : ¬ freedBySettling s h i) :
    (handleSettled h s).streams.get i = s.streams.get i ∧ Hears [] s.now s (handleSettled h s) := by
  by_cases hd : ∃ d ∈ s.store, d.handle = h ∧ d.state = .wireHeld
  · have hslot := freeSlot_frame h s
    have hrecord := drainCheck_record i (freeSlot h s)
    have hheard := drainCheck_hears i (freeSlot h s)
    have hfreed := mt (freed_iff hw hd).1 hf
    rw [if_neg hfreed] at hrecord hheard
    rw [handleSettled_wireHeld hw hd]
    exact ⟨hrecord, (hslot.hears s.now (by simp)).trans hheard⟩
  · rw [handleSettled_unheld hd]
    exact ⟨rfl, .nil _ s⟩

end settled

/-! ### The charge of a loss (R84) -/

section charge
variable (i : Fin 128) (s : State)

theorem chargeLost_eq : chargeLost i s =
    postAt (noticeDiscards i.1 .sentLost) (((countStoreWide .sentLost s).countedFor .sentLost i).streamPort i)
      ((countStoreWide .sentLost s).countedFor .sentLost i) := rfl

theorem chargeLost_record : (chargeLost i s).streams.get i = { s.streams.get i with
    discards := if (s.streams.get i).state = .free then (s.streams.get i).discards
      else countDiscard .sentLost (s.streams.get i).discards } := by
  rw [chargeLost_eq, (postAt_frame _ _ _).streams, countedFor_record, (countStoreWide_frame _ s).streams]

theorem chargeLost_others : OthersSame i s.streams (chargeLost i s).streams := by
  rw [chargeLost_eq, (postAt_frame _ _ _).streams]
  exact countedFor_others .sentLost i (countStoreWide .sentLost s)

theorem chargeLost_storeDiscards : (chargeLost i s).storeDiscards = countDiscard .sentLost s.storeDiscards := by
  rw [chargeLost_eq, (postAt_frame _ _ _).storeDiscards, (countedFor_frame _ _ _).storeDiscards]
  rfl

theorem chargeLost_hears :
    Hears [byPort s (s.streamPort i) (noticeDiscards i.1 .sentLost)] s.now s (chargeLost i s) := by
  have hcounts : SameBut [.streams, .storeDiscards] s ((countStoreWide .sentLost s).countedFor .sentLost i) :=
    ((countStoreWide_frame .sentLost s).mono (by decide)).trans ((countedFor_frame _ _ _).mono (by decide))
  have hport : ((countStoreWide .sentLost s).countedFor .sentLost i).streamPort i = s.streamPort i :=
    streamPort_congr (by rw [countedFor_record]; rfl) (by rw [countedFor_record]; rfl)
  have hpost := postAt_hears (noticeDiscards i.1 .sentLost) (s.streamPort i)
    ((countStoreWide .sentLost s).countedFor .sentLost i)
  rw [hcounts.byPort, hcounts.now] at hpost
  rw [chargeLost_eq, hport]
  exact (hcounts.hears s.now (by simp)).trans hpost

end charge

/-! ### A handle that leaves the list of its port (R83, R84) -/

/-- The handle `e` names leaves its list, its port changes otherwise by `f`, and the Stream Table is told. -/
def State.settledAt (s : State) (p : Fin 24) (e : Outstanding) (f : Port → Port) : State :=
  handleSettled e.handle (s.onPort p f)

section leave
variable {s : State} {p : Fin 24} {e : Outstanding} {f : Port → Port}

theorem settledAt_frame : SameBut ([.ports, .streams, .store] ++ allLinks) s (s.settledAt p e f) :=
  ((State.onPort_frame p f s).mono (by decide)).trans ((handleSettled_frame _ _).mono (by decide))

theorem settledAt_ports : (s.settledAt p e f).ports = s.ports.upd p f := (handleSettled_frame _ _).ports

theorem settledAt_others : OthersSame p s.ports (s.settledAt p e f).ports :=
  settledAt_ports (s := s) ▸ onPort_others p f s

theorem settledAt_port : (s.settledAt p e f).ports.get p = f (s.ports.get p) := by
  rw [settledAt_ports, Tbl.get_upd_self]

section
variable (hs : HandleInv s) (he : e ∈ (s.ports.get p).outstanding)
include hs he

theorem HandleInv.wireHeld : ∀ d ∈ s.store, d.handle = e.handle → d.state = .wireHeld ∧ d.stream = e.stream := by
  obtain ⟨_, _, _, _, hagree⟩ := hs
  exact hagree p e he

theorem settledAt_store : (s.settledAt p e f).store = settledStore e.handle s.store :=
  handleSettled_store (s := s.onPort p f) (hs.wireHeld he)

theorem settledAt_streams : OthersSame e.stream s.streams (s.settledAt p e f).streams :=
  handleSettled_others (s := s.onPort p f) (hs.wireHeld he)

theorem settledAt_freed (hf : freedBySettling s e.handle e.stream) :
    let y := s.streams.get e.stream
    (s.settledAt p e f).streams.get e.stream = { y with state := .free } ∧
    Hears [byPort s y.egress (noticeDrained e.stream y.closeReason)] s.now s (s.settledAt p e f) := by
  obtain ⟨hrecord, hheard⟩ := handleSettled_freed (s := s.onPort p f) (hs.wireHeld he) hf
  exact ⟨hrecord, ((State.onPort_frame p f s).hears s.now (by simp)).trans hheard⟩

theorem settledAt_kept (hf : ¬ freedBySettling s e.handle e.stream) :
    (s.settledAt p e f).streams.get e.stream = s.streams.get e.stream ∧ Hears [] s.now s (s.settledAt p e f) := by
  obtain ⟨hrecord, hheard⟩ := handleSettled_kept (s := s.onPort p f) (hs.wireHeld he) hf
  exact ⟨hrecord, ((State.onPort_frame p f s).hears s.now (by simp)).trans hheard⟩

end
end leave

/-! ### The two events -/

section events
variable {s : State} {p : Fin 24} {e : Outstanding} {h : BitVec 16}

theorem exec_sent {sec : BitVec 48} {ns : BitVec 32} (hu : s.fabric.up = true) (hn : ns.toNat ≤ 999999999) :
    exec (.sent h sec ns) s = .next (takeSent h (sec.toNat * 1000000000 + ns.toNat : Nat) s) := by
  have hread : readSent h sec ns = .ok (.sent h (sec.toNat * 1000000000 + ns.toNat : Nat)) := if_pos hn
  show Host.Outcome.next (takeInbound 2 (readSent h sec ns) s) = _
  rw [hread, takeInbound, if_neg (by rw [hu]; decide)]
  rfl

/-- The record of a port whose handle `h` is sent at wire MT `wire` (R83). -/
def Port.sentOut (h : BitVec 16) (wire : Int) (x : Port) : Port :=
  { x with outstanding := x.outstanding.filter (·.handle != h), sent := satInc x.sent, lastWire := some wire }

/-- The record of a port whose handle `h` is written off (R84). -/
def Port.writtenOff (h : BitVec 16) (x : Port) : Port :=
  { x with outstanding := x.outstanding.filter (·.handle != h), writeOffs := satInc x.writeOffs }

theorem takeSent_outstanding (hs : HandleInv s) (he : e ∈ (s.ports.get p).outstanding) (wire : Int) :
    takeSent e.handle wire s = s.settledAt p e (Port.sentOut e.handle wire) := by
  rw [takeSent, portHolding_of_mem hs he]
  rfl

theorem takeSent_unknown (hn : ∀ p, ∀ e ∈ (s.ports.get p).outstanding, e.handle ≠ h) (wire : Int) :
    takeSent h wire s = postAll (noticeMessageError h.toNat .handle) s := by
  rw [takeSent, portHolding_eq_none hn]

theorem writeOff_eq :
    writeOff p e s = chargeLost e.stream (s.settledAt p e (Port.writtenOff e.handle)) := rfl

theorem execSentOverdueExpiry_due (hs : HandleInv s) (he : e ∈ (s.ports.get p).outstanding) (hd : e.overdue ≤ s.now) :
    execSentOverdueExpiry e.handle s = .next (writeOff p e s) := by
  rw [execSentOverdueExpiry, portHolding_of_mem hs he]
  dsimp only
  rw [find_outstanding hs he]
  exact congrArg _ (if_pos hd)

theorem execSentOverdueExpiry_early (hd : ∀ p, ∀ e ∈ (s.ports.get p).outstanding, e.handle = h → s.now < e.overdue) :
    execSentOverdueExpiry h s = .next s := by
  unfold execSentOverdueExpiry
  split
  next p hp =>
    split
    next e he =>
      have hlate := hd p e (List.mem_of_find?_eq_some he) (beq_iff_eq.1 (List.find?_some he :))
      exact congrArg _ (if_neg (Int.not_le.2 hlate))
    · rfl
  · rfl

/-- A write-off: the handle settled, then the loss charged (R84; log entry 32). -/
theorem writeOff_effects (hs : HandleInv s) (he : e ∈ (s.ports.get p).outstanding) :
    let x := s.ports.get p
    let y := s.streams.get e.stream
    let t := writeOff p e s
    OthersSame p s.ports t.ports ∧ t.ports.get p = x.writtenOff e.handle ∧
    t.store = settledStore e.handle s.store ∧ t.storeDiscards = countDiscard .sentLost s.storeDiscards ∧
    OthersSame e.stream s.streams t.streams ∧
    (freedBySettling s e.handle e.stream → t.streams.get e.stream = { y with state := .free } ∧
      Hears [byPort s y.egress (noticeDrained e.stream y.closeReason),
        ⟨noticeDiscards e.stream.1 .sentLost, false⟩] s.now s t) ∧
    (¬ freedBySettling s e.handle e.stream → t.streams.get e.stream = { y with
        discards := if y.state = .free then y.discards else countDiscard .sentLost y.discards } ∧
      Hears [byPort s (s.streamPort e.stream) (noticeDiscards e.stream.1 .sentLost)] s.now s t) := by
  intro x y t
  have hsettle := settledAt_frame (s := s) (p := p) (e := e) (f := Port.writtenOff e.handle)
  have hcharge := chargeLost_frame e.stream (s.settledAt p e (Port.writtenOff e.handle))
  have hheard := chargeLost_hears e.stream (s.settledAt p e (Port.writtenOff e.handle))
  rw [hsettle.byPort, hsettle.now] at hheard
  have hrecord := chargeLost_record e.stream (s.settledAt p e (Port.writtenOff e.handle))
  have ht : t = chargeLost e.stream (s.settledAt p e (Port.writtenOff e.handle)) := writeOff_eq
  rw [ht]
  refine ⟨?_, ?_, ?_, ?_, (settledAt_streams hs he).trans (chargeLost_others _ _), fun hf => ?_, fun hf => ?_⟩
  · rw [hcharge.ports]
    exact settledAt_others
  · rw [hcharge.ports, settledAt_port]
  · rw [hcharge.store, settledAt_store hs he]
  · rw [chargeLost_storeDiscards, hsettle.storeDiscards]
  · obtain ⟨hfree, htold⟩ := settledAt_freed (f := Port.writtenOff e.handle) hs he hf
    rw [State.streamPort, hfree] at hheard
    rw [hrecord, hfree]
    exact ⟨rfl, htold.trans hheard⟩
  · obtain ⟨hkept, htold⟩ := settledAt_kept (f := Port.writtenOff e.handle) hs he hf
    have hport : (s.settledAt p e (Port.writtenOff e.handle)).streamPort e.stream = s.streamPort e.stream :=
      streamPort_congr (by rw [hkept]) (by rw [hkept])
    rw [hport] at hheard
    rw [hrecord, hkept]
    exact ⟨rfl, htold.trans hheard⟩

end events

/-- Settles O29: a handle stands in one list alone, and a descriptor that holds it is WIRE-HELD and of its stream, so
that what leaves the store is that descriptor. -/
theorem outstandingHandlesAreSettled : Obligations.OutstandingHandlesAreSettled := by
  unfold Obligations.OutstandingHandlesAreSettled
  refine ⟨fun h sec ns s hs hu hn => ⟨fun hunknown => ?_, ?_⟩, fun h s hs => ⟨?_, fun hlate => ?_⟩⟩
  · exact ⟨_, (exec_sent hu hn).trans (congrArg _ (takeSent_unknown hunknown _)), postAll_frame _ s, postAll_hears _ s⟩
  · rintro p e he rfl
    exact ⟨_, (exec_sent hu hn).trans (congrArg _ (takeSent_outstanding hs he _)), settledAt_frame, settledAt_others,
      settledAt_port, settledAt_store hs he, settledAt_streams hs he, settledAt_freed hs he, settledAt_kept hs he⟩
  · rintro p e he rfl hd
    exact ⟨_, execSentOverdueExpiry_due hs he hd, writeOff_frame p e s, writeOff_effects hs he⟩
  · exact ⟨s, execSentOverdueExpiry_early hlate, rfl⟩

end Sys2Proof.Machine
end

section
/-! Several streams in one event: each loses descriptors on its own record, and what they lose together. -/

namespace Sys2Proof.Machine

-- One proof after the other: each waiting thread would hold its own stack.
set_option Elab.async false

/-! ### Descriptors lost, and the other streams -/

section lost
variable {i j : Fin 128} {why : DiscardReason} {ds es : List Descriptor} {s t u : State}

theorem Discarded.trans (h : Discarded why ds s t) (k : Discarded why es t u) : Discarded why (ds ++ es) s u := by
  obtain ⟨hs, hf, hc⟩ := h
  obtain ⟨ks, kf, kc⟩ := k
  refine ⟨?_, ?_, ?_⟩
  · rw [ks, hs, without_append]
  · rw [kf, hf, Fabric.discards_append]
  · rw [kc, hc, List.length_append, countedTimes_append]

/-- The handle of a stored descriptor is that of one of `ds` where the descriptor is one of them. -/
theorem HandleInv.any_handle (hs : HandleInv s) (hds : ∀ e ∈ ds, e ∈ s.store) {d : Descriptor} (hd : d ∈ s.store) :
    ds.any (·.handle == d.handle) = true ↔ d ∈ ds := by
  rw [List.any_eq_true]
  constructor
  · rintro ⟨e, he, hh⟩
    exact hs.unique (hds e he) hd (beq_iff_eq.1 hh) ▸ he
  · exact fun h => ⟨d, h, beq_self_eq_true _⟩

/-- State `u` shows stream `i` as `s` does: its record and its slots. -/
structure Shows (i : Fin 128) (s u : State) : Prop where
  frame : SameBut discardParts s u
  record : u.streams.get i = s.streams.get i
  slots : u.slotsOf i = s.slotsOf i
  handle : HandleInv u

theorem Shows.trans (h : Shows i s t) (k : Shows i t u) : Shows i s u :=
  ⟨h.frame.trans k.frame, k.record.trans h.record, k.slots.trans h.slots, k.handle⟩

theorem Shows.pendingList (h : Shows i s u) : u.pendingList i = s.pendingList i := by
  rw [pendingList_eq, h.slots, pendingList_eq]

theorem Shows.streamPort (h : Shows i s u) : u.streamPort i = s.streamPort i :=
  streamPort_congr (by rw [h.record]) (by rw [h.record])

theorem Shows.heardDiscards (h : Shows i s u) (n : Nat) : heardDiscards why n i u = heardDiscards why n i s := by
  rw [Machine.heardDiscards, h.streamPort, h.frame.byPort, Machine.heardDiscards]

theorem Loses.handleInv {y : Stream} {ns : List Heard} (h : Loses i why ds y ns s t) (hs : HandleInv s) :
    HandleInv t := by
  obtain ⟨hstore, _, _⟩ := h.effects
  refine hs.of_store h.frame.ports ?_
  rw [hstore]
  exact List.filter_sublist.map _

/-- What one stream loses leaves every other as it was. -/
theorem Loses.shows {y : Stream} {ns : List Heard} (h : Loses i why ds y ns s t) (hs : HandleInv s)
    (hds : ∀ d ∈ ds, d ∈ s.slotsOf i) (hj : j ≠ i) : Shows j s t where
  frame := h.frame
  record := h.others j hj
  slots := by
    obtain ⟨hstore, _, _⟩ := h.effects
    refine slotsOf_of_filter hstore fun d hd hfree he => hj ?_
    have hmem : ∀ e ∈ ds, e ∈ s.store := fun e hm => List.mem_of_mem_filter (hds e hm)
    have hlost := (hs.any_handle hmem hd).1 ((Bool.not_eq_false' _).mp hfree)
    rw [← he, ← beq_iff_eq.1 (List.mem_filter.1 (hds d hlost)).2]
  handle := h.handleInv hs

/-- The record of a stream that loses descriptors changes further. -/
theorem Loses.onStream {y : Stream} {ns : List Heard} (h : Loses i why ds y ns s t) (f : Stream → Stream) :
    Loses i why ds (f y) ns s (t.onStream i f) := by
  have hframe := State.onStream_frame i f t
  refine ⟨h.frame.trans (hframe.mono (by decide)), hframe.discarded h.effects, h.others.trans (onStream_others i f t),
    ?_, ?_⟩
  · rw [onStream_get_self, h.record]
  · exact List.append_nil ns ▸ h.heard.trans (hframe.hears s.now (by simp))

/-- A notice posted after a loss. -/
theorem Loses.postAt {y : Stream} {ns : List Heard} (h : Loses i why ds y ns s t) (n : Notice) (p : Option (Fin 24)) :
    Loses i why ds y (ns ++ [byPort s p n]) s (postAt n p t) := by
  have hframe := postAt_frame n p t
  have hpost := postAt_hears n p t
  rw [h.frame.byPort, h.frame.now] at hpost
  exact ⟨h.frame.trans (hframe.mono (by decide)), hframe.discarded h.effects, by rw [hframe.streams]; exact h.others,
    by rw [hframe.streams, h.record], h.heard.trans hpost⟩

end lost

/-! ### Each of several streams -/

/-- From `s` to `t` each stream `i` of `xs` loses `ds i`, its record becomes `y i`, and `ns i` is heard. -/
structure LosesEach (xs : List (Fin 128)) (why : DiscardReason) (ds : Fin 128 → List Descriptor) (y : Fin 128 → Stream)
    (ns : Fin 128 → List Heard) (s t : State) : Prop where
  frame : SameBut discardParts s t
  effects : Discarded why (xs.flatMap ds) s t
  others : ∀ i, i ∉ xs → t.streams.get i = s.streams.get i
  records : ∀ i ∈ xs, t.streams.get i = y i
  heard : Hears (xs.flatMap ns) s.now s t

/-- An operation that judges each stream by its own record and slots acts on each as if it were the only one. -/
theorem forEach_losesEach {xs : List (Fin 128)} {why : DiscardReason} {ds : Fin 128 → List Descriptor}
    {y : Fin 128 → Stream} {ns : Fin 128 → List Heard} {f : Fin 128 → State → State} {s : State} (hx : xs.Nodup)
    (hs : HandleInv s) (hds : ∀ i ∈ xs, ∀ d ∈ ds i, d ∈ s.slotsOf i)
    (hf : ∀ i ∈ xs, ∀ u, Shows i s u → Loses i why (ds i) (y i) (ns i) u (f i u)) :
    LosesEach xs why ds y ns s (forEach xs f s) := by
  induction xs generalizing s with
  | nil => exact ⟨.refl _ s, ⟨(without_nil _).symm, rfl, rfl⟩, fun _ _ => rfl, nofun, .nil _ s⟩
  | cons x xs ih =>
    obtain ⟨hxs, hnodup⟩ := List.nodup_cons.1 hx
    have hhead := hf x List.mem_cons_self s ⟨.refl _ s, rfl, rfl, hs⟩
    have hshows : ∀ i ∈ xs, Shows i s (f x s) := fun i hi =>
      hhead.shows hs (hds x List.mem_cons_self) fun he => hxs (he ▸ hi)
    have htail := ih (s := f x s) hnodup (hhead.handleInv hs)
      (fun i hi d hd => by rw [(hshows i hi).slots]; exact hds i (List.mem_cons_of_mem x hi) d hd)
      fun i hi u hu => hf i (List.mem_cons_of_mem x hi) u ((hshows i hi).trans hu)
    have hheard := htail.heard
    rw [hhead.frame.now] at hheard
    refine ⟨hhead.frame.trans htail.frame, hhead.effects.trans htail.effects, fun i hi => ?_, fun i hi => ?_,
      hhead.heard.trans hheard⟩
    · obtain ⟨hne, hi⟩ := not_or.1 (mt List.mem_cons.2 hi)
      exact (htail.others i hi).trans (hhead.others i hne)
    · obtain rfl | hi := List.mem_cons.1 hi
      · exact (htail.others i hxs).trans hhead.record
      · exact htail.records i hi

/-! ### The lists of several streams emptied (R44) -/

/-- The list of stream `i`, where `sel` selects the stream. -/
def State.dropped (s : State) (sel : Fin 128 → Bool) (i : Fin 128) : List Descriptor :=
  if sel i then s.pendingList i else []

section dropped
variable {s : State} {sel : Fin 128 → Bool} {i : Fin 128} {d : Descriptor} {ds : List Descriptor}

theorem mem_dropped : d ∈ s.dropped sel i ↔ sel i = true ∧ d ∈ s.store ∧ d.stream = i ∧ d.state = .pending := by
  unfold State.dropped
  split
  next h => rw [mem_pendingList, and_iff_right h]
  next h => exact ⟨nofun, fun hd => absurd hd.1 h⟩

theorem mem_all_dropped : d ∈ (numbers 128).flatMap (s.dropped sel) ↔
    d ∈ s.store ∧ sel d.stream = true ∧ d.state = .pending := by
  rw [List.mem_flatMap]
  constructor
  · rintro ⟨i, _, hd⟩
    obtain ⟨hsel, hstore, rfl, hp⟩ := mem_dropped.1 hd
    exact ⟨hstore, hsel, hp⟩
  · rintro ⟨hstore, hsel, hp⟩
    exact ⟨d.stream, List.mem_finRange _, mem_dropped.2 ⟨hsel, hstore, rfl, hp⟩⟩

theorem dropped_slots (hd : d ∈ s.dropped sel i) : d ∈ s.slotsOf i := by
  obtain ⟨_, hstore, hstream, _⟩ := mem_dropped.1 hd
  exact List.mem_filter.2 ⟨hstore, beq_iff_eq.2 hstream⟩

/-- The store without every PENDING descriptor of the streams of `sel`. -/
theorem without_eq_emptiedStore (hs : HandleInv s)
    (hds : ∀ d, d ∈ ds ↔ d ∈ s.store ∧ sel d.stream = true ∧ d.state = .pending) :
    without ds s.store = emptiedStore sel s := by
  refine List.filter_congr fun d hd => congrArg (!·) (Bool.eq_iff_iff.2 ?_)
  rw [hs.any_handle (fun e he => ((hds e).1 he).1) hd, hds, and_iff_right hd, Bool.and_eq_true, beq_iff_eq]

theorem HandleInv.store_nodup (hs : HandleInv s) : s.store.Nodup := by
  obtain ⟨_, hnodup, _⟩ := hs
  exact hnodup.of_map _

theorem all_dropped_nodup (hs : HandleInv s) (sel : Fin 128 → Bool) :
    ((numbers 128).flatMap (s.dropped sel)).Nodup := by
  refine List.nodup_flatMap.2 ⟨fun i _ => ?_, (List.nodup_finRange 128).imp fun {i j} hij d hi hj => hij ?_⟩
  · unfold State.dropped
    split
    · exact hs.store_nodup.filter _
    · exact List.nodup_nil
  · obtain ⟨_, _, rfl, _⟩ := mem_dropped.1 hi
    obtain ⟨_, _, hstream, _⟩ := mem_dropped.1 hj
    exact hstream

theorem all_dropped_length (hs : HandleInv s) : ((numbers 128).flatMap (s.dropped sel)).length =
    (s.store.filter fun d => sel d.stream && d.state == .pending).length := by
  refine List.Perm.length_eq ((List.perm_ext_iff_of_nodup (all_dropped_nodup hs sel) (hs.store_nodup.filter _)).2
    fun d => ?_)
  rw [mem_all_dropped, List.mem_filter, Bool.and_eq_true, beq_iff_eq]

theorem discards_flatMap_dropped (why : DiscardReason) (s : State) (sel : Fin 128 → Bool) (xs : List (Fin 128))
    (f : Fabric) :
    f.discards why (xs.flatMap (s.dropped sel)) =
      xs.foldl (fun f i => if sel i then f.discards why (s.pendingList i) else f) f := by
  induction xs generalizing f with
  | nil => rfl
  | cons x xs ih =>
    rw [List.flatMap_cons, Fabric.discards_append, ih, List.foldl_cons, State.dropped]
    split <;> rfl

end dropped

/-- The notices of stream `i` in an event that empties the lists of `sel`, with `more i` before its STREAM-DRAINED. -/
def heardOf (why : DiscardReason) (sel : Fin 128 → Bool) (more : Fin 128 → List Heard) (s : State) (i : Fin 128) :
    List Heard :=
  (if sel i then heardDiscards why (s.pendingList i).length i s else []) ++ more i ++
    (if freedByEmptying sel s i then
      [byPort s (s.streams.get i).egress (noticeDrained i (s.streams.get i).closeReason)]
    else [])

/-- From `s` to `t` the lists of the streams of `sel` are emptied, each stream `i` is left with the record `y i`, and
`more i` is heard before its STREAM-DRAINED. -/
structure Emptied (why : DiscardReason) (sel : Fin 128 → Bool) (y : Fin 128 → Stream) (more : Fin 128 → List Heard)
    (s t : State) : Prop where
  frame : SameBut discardParts s t
  store : t.store = emptiedStore sel s
  fabric : t.fabric = emptiedFabric why sel s
  counts : t.storeDiscards = emptiedCounts why sel s
  records : ∀ i, t.streams.get i = y i
  heard : Hears (heardEmptying why sel more s) s.now s t

theorem forEach_emptied {why : DiscardReason} {sel : Fin 128 → Bool} {y : Fin 128 → Stream}
    {more : Fin 128 → List Heard} {f : Fin 128 → State → State} {s : State} (hs : HandleInv s)
    (hf : ∀ i u, Shows i s u → Loses i why (s.dropped sel i) (y i) (heardOf why sel more s i) u (f i u)) :
    Emptied why sel y more s (forEach (numbers 128) f s) := by
  obtain ⟨hframe, ⟨hstore, hfabric, hcounts⟩, _, hrecords, hheard⟩ :=
    forEach_losesEach (List.nodup_finRange 128) hs (fun _ _ _ hd => dropped_slots hd) fun i _ u hu => hf i u hu
  refine ⟨hframe, ?_, ?_, ?_, fun i => hrecords i (List.mem_finRange i), hheard⟩
  · exact hstore.trans (without_eq_emptiedStore hs fun _ => mem_all_dropped)
  · exact hfabric.trans (discards_flatMap_dropped why s sel _ _)
  · exact hcounts.trans (congrArg (fun n => countedTimes why n s.storeDiscards) (all_dropped_length hs))

/-! ### Whether a stream is freed (R50) -/

section freed
variable {s u : State} {sel : Fin 128 → Bool} {i : Fin 128}

/-- A stream whose list is emptied holds nothing where all its slots are PENDING. -/
theorem emptiedStore_all (h : sel i = true) :
    (emptiedStore sel s).all (·.stream != i) = (s.slotsOf i).all (·.state == .pending) := by
  unfold emptiedStore State.slotsOf
  rw [List.all_filter, List.all_filter]
  refine congrArg s.store.all (funext fun d => ?_)
  by_cases hd : d.stream = i
  · simp [hd, h]
  · simp [bne, beq_eq_false_iff_ne.2 hd]

theorem without_pendingList_all (hs : HandleInv s) :
    (without (s.pendingList i) s.store).all (·.stream != i) = (s.slotsOf i).all (·.state == .pending) := by
  rw [without_eq_emptiedStore (sel := (· == i)) hs fun d => by rw [mem_pendingList, beq_iff_eq]]
  exact emptiedStore_all (beq_self_eq_true i)

theorem Shows.freed_iff (h : Shows i s u) (hsel : sel i = true) :
    ((s.streams.get i).state = .draining ∧ (without (u.pendingList i) u.store).all (·.stream != i) = true) ↔
      freedByEmptying sel s i = true := by
  rw [without_pendingList_all h.handle, h.slots, ← emptiedStore_all hsel, freedByEmptying, hsel, Bool.true_and,
    Bool.and_eq_true, beq_iff_eq]

end freed

/-! ### Discards of whole lists (R57, R58) -/

theorem Shows.unchanged {i : Fin 128} {s u : State} (h : Shows i s u) (why : DiscardReason) :
    Loses i why [] (s.streams.get i) [] u u :=
  ⟨.refl _ u, ⟨(without_nil _).symm, rfl, rfl⟩, fun _ _ => rfl, h.record, .nil _ u⟩

theorem not_freedByEmptying {s : State} {sel : Fin 128 → Bool} {i : Fin 128} (h : sel i = false) :
    freedByEmptying sel s i = false := by
  rw [freedByEmptying, h, Bool.false_and, Bool.false_and]

/-- A stream that is not selected keeps its list. -/
theorem Shows.spared {i : Fin 128} {s u : State} {sel : Fin 128 → Bool} (h : Shows i s u) (hsel : sel i = false)
    (why : DiscardReason) :
    Loses i why (s.dropped sel i) (emptiedStream why sel s i) (heardOf why sel (fun _ => []) s i) u u := by
  rw [State.dropped, emptiedStream, heardOf, hsel, not_freedByEmptying hsel]
  exact h.unchanged why

/-- A stream that has lost its list is freed where it has drained. -/
theorem Shows.drainCheck {i : Fin 128} {s u t : State} {sel : Fin 128 → Bool} {why : DiscardReason} {y : Stream}
    {ns : List Heard} (h : Shows i s u) (hsel : sel i = true) (hl : Loses i why (u.pendingList i) y ns u t)
    (hy : y.state = (s.streams.get i).state) :
    Loses i why (s.dropped sel i) { y with state := if freedByEmptying sel s i then .free else y.state }
      (ns ++ if freedByEmptying sel s i then [byPort s y.egress (noticeDrained i y.closeReason)] else []) u
      (Machine.drainCheck i t) := by
  have hfreed : (y.state = .draining ∧ (without (u.pendingList i) u.store).all (·.stream != i) = true) ↔
      freedByEmptying sel s i = true := by
    rw [hy]
    exact h.freed_iff hsel
  have hdrain := hl.drainCheck
  dsimp only at hdrain
  rw [if_congr hfreed rfl rfl, if_congr hfreed rfl rfl, h.pendingList, h.frame.byPort] at hdrain
  rw [State.dropped, if_pos hsel]
  exact hdrain

/-- One stream's list emptied. -/
theorem Shows.emptied {i : Fin 128} {s u : State} {sel : Fin 128 → Bool} (h : Shows i s u) (hsel : sel i = true)
    (why : DiscardReason) :
    Loses i why (s.dropped sel i) (emptiedStream why sel s i) (heardOf why sel (fun _ => []) s i) u
      (Machine.drainCheck i (discardAll why i u)) := by
  have hloses := h.drainCheck hsel (discardAll_discards why i u).loses (by rw [h.record])
  rw [h.record, h.pendingList, h.heardDiscards] at hloses
  rw [emptiedStream, if_pos hsel, heardOf, if_pos hsel, List.append_nil]
  exact hloses

theorem discardStreams_emptied (why : DiscardReason) (sel : Stream → Bool) {s : State} (hs : HandleInv s) :
    Emptied why (fun i => sel (s.streams.get i)) (emptiedStream why (fun i => sel (s.streams.get i)) s) (fun _ => []) s
      (discardStreams why sel s) := by
  refine forEach_emptied hs fun i u hu => ?_
  rw [hu.record]
  split
  next h => exact hu.emptied h why
  next h => exact hu.spared (Bool.eq_false_iff.2 h) why

end Sys2Proof.Machine
end

section
/-! Congestion notices: what one stream makes of its notice, and the streams of a port together. -/

namespace Sys2Proof.Machine

-- One proof after the other: each waiting thread would hold its own stack.
set_option Elab.async false

/-! ### One stream (R71, R72) -/

/-- STREAM-CONGESTED of stream `i` is posted where its record `x` stood at level 0. -/
def tellCongested (fromBackoff : Bool) (i : Fin 128) (x : Stream) (s : State) : State :=
  if x.level = 0 then postAt (noticeCongested i fromBackoff) (s.streamPort i) s else s

/-- What is heard of it. -/
def congestedHeard (fromBackoff : Bool) (sel : Fin 128 → Bool) (s : State) (i : Fin 128) : List Heard :=
  if sel i && (s.streams.get i).level == 0 then [byPort s (s.streamPort i) (noticeCongested i fromBackoff)] else []

/-- The record of a stream that sheds its load (R72). -/
def Stream.shedding (x : Stream) : Stream := { x with level := 1, quiet := 0 }

/-- The record of a stream that is slowed down (R71). -/
def Stream.slowed (x : Stream) : Stream := { x with level := min (x.level + 1) 4, clean := 0 }

section one
variable {b : Bool} {i : Fin 128} {s u : State}

theorem congest_clean {m : Nat} (h : (s.streams.get i).recovery = .clean m) :
    congest b i s = tellCongested b i (s.streams.get i) (s.onStream i Stream.slowed) := by
  simp only [congest, h]
  rfl

theorem congest_shed (h : (s.streams.get i).recovery = .shed) :
    congest b i s = drainCheck i (tellCongested b i (s.streams.get i)
      ((discardAll .shed i s).onStream i Stream.shedding)) := by
  simp only [congest, h]
  rfl

theorem Loses.tellCongested {why : DiscardReason} {ds : List Descriptor} {y : Stream} {ns : List Heard}
    {t : State} (h : Loses i why ds y ns s t) (hs : y.state = (s.streams.get i).state)
    (he : y.egress = (s.streams.get i).egress) (b : Bool) (x : Stream) :
    Loses i why ds y
      (ns ++ if x.level = 0 then [byPort s (s.streamPort i) (noticeCongested i b)] else []) s
      (tellCongested b i x t) := by
  have hport : t.streamPort i = s.streamPort i := streamPort_congr (by rw [h.record, hs]) (by rw [h.record, he])
  unfold Machine.tellCongested
  rw [hport]
  split
  · exact h.postAt _ _
  · rw [List.append_nil]
    exact h

theorem Shows.congestedHeard_eq {sel : Fin 128 → Bool} (h : Shows i s u) (hsel : sel i = true) :
    (if (s.streams.get i).level = 0 then [byPort u (u.streamPort i) (noticeCongested i b)] else []) =
      congestedHeard b sel s i := by
  rw [h.frame.byPort, h.streamPort, congestedHeard, hsel, Bool.true_and]
  exact if_congr beq_iff_eq.symm rfl rfl

end one

/-! ### The streams that a notice reaches (R69, R70) -/

/-- The streams of `sel` that shed their load. -/
def State.sheds (s : State) (sel : Fin 128 → Bool) (i : Fin 128) : Bool :=
  sel i && (s.streams.get i).recovery == .shed

/-- The record of a stream after the notices. -/
def congestedStream (sel : Fin 128 → Bool) (s : State) (i : Fin 128) : Stream :=
  let x := emptiedStream .shed (s.sheds sel) s i
  if s.sheds sel i then x.shedding else if sel i then x.slowed else x

section reached
variable {b : Bool} {i : Fin 128} {s u : State} {sel : Fin 128 → Bool}

theorem Shows.unreached (h : Shows i s u) (hsel : sel i = false) :
    Loses i .shed (s.dropped (s.sheds sel) i) (congestedStream sel s i)
      (heardOf .shed (s.sheds sel) (congestedHeard b sel s) s i) u u := by
  have hsheds : s.sheds sel i = false := by rw [State.sheds, hsel, Bool.false_and]
  rw [State.dropped, hsheds, congestedStream, emptiedStream, hsheds, hsel, heardOf, hsheds, congestedHeard, hsel,
    not_freedByEmptying hsheds]
  exact h.unchanged .shed

theorem Shows.slowed {m : Nat} (h : Shows i s u) (hsel : sel i = true) (hm : (s.streams.get i).recovery = .clean m) :
    Loses i .shed (s.dropped (s.sheds sel) i) (congestedStream sel s i)
      (heardOf .shed (s.sheds sel) (congestedHeard b sel s) s i) u (congest b i u) := by
  have hsheds : s.sheds sel i = false := by rw [State.sheds, hm, hsel]; rfl
  have hstream : congestedStream sel s i = (s.streams.get i).slowed := by
    simp [congestedStream, emptiedStream, hsheds, hsel]
  have hheard : heardOf .shed (s.sheds sel) (congestedHeard b sel s) s i = congestedHeard b sel s i := by
    simp [heardOf, hsheds, not_freedByEmptying hsheds]
  have hloses := ((Discards.nil i .shed u).loses.onStream Stream.slowed).tellCongested rfl rfl b (u.streams.get i)
  rw [h.record, h.congestedHeard_eq hsel] at hloses
  rw [congest_clean (by rw [h.record, hm]), h.record, State.dropped, hsheds, hstream, hheard]
  exact hloses

theorem Shows.shed (h : Shows i s u) (hsel : sel i = true) (hm : (s.streams.get i).recovery = .shed) :
    Loses i .shed (s.dropped (s.sheds sel) i) (congestedStream sel s i)
      (heardOf .shed (s.sheds sel) (congestedHeard b sel s) s i) u (congest b i u) := by
  have hsheds : s.sheds sel i = true := by rw [State.sheds, hm, hsel]; rfl
  have hloses := h.drainCheck hsheds (((discardAll_discards .shed i u).loses.onStream Stream.shedding).tellCongested
    rfl rfl b (u.streams.get i)) (by rw [h.record]; rfl)
  rw [h.record, h.congestedHeard_eq hsel, h.pendingList, h.heardDiscards] at hloses
  rw [congest_shed (by rw [h.record, hm]), h.record, congestedStream, if_pos hsheds, emptiedStream, if_pos hsheds,
    heardOf, if_pos hsheds]
  exact hloses

end reached

/-- Every OPEN or DRAINING stream that `sel` selects takes its congestion notice. -/
theorem congestStreams_emptied (b : Bool) (sel : Stream → Bool) {s : State} (hs : HandleInv s) :
    let reached := fun i => (s.streams.get i).live && sel (s.streams.get i)
    Emptied .shed (s.sheds reached) (congestedStream reached s) (congestedHeard b reached s) s
      (congestStreams b sel s) := by
  intro reached
  refine forEach_emptied hs fun i u hu => ?_
  rw [hu.record]
  split
  next hr =>
    cases hm : (s.streams.get i).recovery with
    | clean m => exact hu.slowed (sel := reached) hr hm
    | shed => exact hu.shed (sel := reached) hr hm
  next hr => exact hu.unreached (sel := reached) (Bool.eq_false_iff.2 hr)

theorem Emptied.congested {b : Bool} {sel : Fin 128 → Bool} {s t : State}
    (h : Emptied .shed (s.sheds sel) (congestedStream sel s) (congestedHeard b sel s) s t) : Congested b sel s t :=
  ⟨h.store, h.fabric, h.counts, h.records, h.heard⟩

/-! ### A state that differs elsewhere -/

section base
variable {ps : List Part} {s u : State} {why : DiscardReason} {sel : Fin 128 → Bool} (h : SameBut ps s u)
include h

theorem SameBut.pendingList (h1 : Part.store ∉ ps := by decide) : u.pendingList = s.pendingList := by
  funext i
  rw [State.pendingList, h.store h1]
  rfl

theorem SameBut.streamPort (h1 : Part.streams ∉ ps := by decide) : u.streamPort = s.streamPort := by
  funext i
  rw [State.streamPort, h.streams h1]
  rfl

theorem SameBut.emptiedStore (h1 : Part.store ∉ ps := by decide) : emptiedStore sel u = emptiedStore sel s := by
  rw [Machine.emptiedStore, h.store h1]
  rfl

theorem SameBut.emptiedFrom (h1 : Part.store ∉ ps := by decide) : emptiedFrom why sel u = emptiedFrom why sel s := by
  funext f
  rw [Machine.emptiedFrom, h.pendingList h1]
  rfl

theorem SameBut.emptiedCounts (h1 : Part.store ∉ ps := by decide) (h2 : Part.storeDiscards ∉ ps := by decide) :
    emptiedCounts why sel u = emptiedCounts why sel s := by
  rw [Machine.emptiedCounts, h.store h1, h.storeDiscards h2]
  rfl

theorem SameBut.freedByEmptying (h1 : Part.store ∉ ps := by decide) (h2 : Part.streams ∉ ps := by decide) :
    freedByEmptying sel u = freedByEmptying sel s := by
  funext i
  rw [Machine.freedByEmptying, h.emptiedStore h1, h.streams h2]
  rfl

theorem SameBut.emptiedStream (h1 : Part.store ∉ ps := by decide) (h2 : Part.streams ∉ ps := by decide) :
    emptiedStream why sel u = emptiedStream why sel s := by
  funext i
  rw [Machine.emptiedStream, h.freedByEmptying h1 h2, h.pendingList h1, h.streams h2]
  rfl

theorem SameBut.heardEmptying {more : Fin 128 → List Heard} (h1 : Part.store ∉ ps := by decide)
    (h2 : Part.streams ∉ ps := by decide) (h3 : Part.grants ∉ ps := by decide) :
    heardEmptying why sel more u = heardEmptying why sel more s := by
  have hdiscards : ∀ n i, heardDiscards why n i u = heardDiscards why n i s := fun n i => by
    rw [heardDiscards, h.streamPort h2, h.byPort h3]
    rfl
  simp only [Machine.heardEmptying, hdiscards, h.freedByEmptying h1 h2, h.pendingList h1, h.streams h2, h.byPort h3]

/-- Congestion read from a state that differs neither in the streams, the store and the lane nor in what is heard. -/
theorem SameBut.congested {b : Bool} {t : State} (hc : Congested b sel u t) (h1 : Part.store ∉ ps := by decide)
    (h2 : Part.streams ∉ ps := by decide) (h3 : Part.grants ∉ ps := by decide)
    (h4 : Part.storeDiscards ∉ ps := by decide) (h5 : Part.fabric ∉ ps := by decide) (h6 : Part.time ∉ ps := by decide)
    (h7 : ∀ l, Part.link l ∉ ps := by simp) : Congested b sel s t := by
  obtain ⟨hstore, hfabric, hcounts, hrecords, hheard⟩ := hc
  simp only [h.streams h2, h.streamPort h2, h.byPort h3, h.now h6] at hstore hfabric hcounts hrecords hheard
  rw [h.emptiedStore h1] at hstore
  rw [emptiedFabric, h.emptiedFrom h1, h.fabric h5] at hfabric
  rw [h.emptiedCounts h1 h4] at hcounts
  rw [h.emptiedStream h1 h2] at hrecords
  rw [h.heardEmptying h1 h2 h3] at hheard
  exact ⟨hstore, hfabric, hcounts, hrecords, (h.hears s.now h7).trans hheard⟩

end base

/-! ### BACKOFF (R70) -/

theorem Stream.classIn_eq (classes : Byte) (x : Stream) : x.classIn classes = x.cls.any (inClassSet classes) := by
  unfold Stream.classIn
  cases x.cls <;> rfl

section backoff
variable {b code classes station : Byte} {began : Option Stamp} {p : Fin 24} {k : Fin 32} {s : State}

theorem exec_backoff (hu : s.fabric.up = true) (hb : b.toNat = p.1) (hk : s.stationOn p = some k)
    (hst : station.toNat = k.1) :
    exec (.backoff b code station classes began) s = .next (takeBackoff p code classes s) := by
  have hread : readCellIn b station (.backoff code classes) (s.stampOf began) =
      .ok (.cellIn p station (.backoff code classes) (s.stampOf began)) := by
    rw [readCellIn, number_eq_some.2 hb]
  have hsender : s.sender p station = some k := by
    rw [State.sender, hk]
    exact if_pos hst
  show Host.Outcome.next (takeInbound 4 (readCellIn b station (.backoff code classes) (s.stampOf began)) s) = _
  rw [hread, takeInbound, if_neg (by rw [hu]; decide)]
  show Host.Outcome.next (fromStation p station (fun _ => takeBackoff p code classes) s) = _
  rw [fromStation, hsender]

end backoff

/-- Settles O30: each stream that a matched BACKOFF reaches is judged by its own record and slots, so that the notices
act on all of them as on each alone. -/
theorem backoffCongestsMatchedStreams : Obligations.BackoffCongestsMatchedStreams := by
  unfold Obligations.BackoffCongestsMatchedStreams
  intro b code classes began p k station s hs hu hb hk hst inSet sel
  have hexec := exec_backoff (code := code) (classes := classes) (began := began) hu hb hk hst
  refine ⟨fun hmatch => ⟨_, hexec, takeBackoff_frame p code classes s, ?_⟩, fun hmiss => ⟨_, hexec, ?_⟩⟩
  · have hbase := backoff_frame { s.backoff with matched := satInc s.backoff.matched } s
    have hcongested := (congestStreams_emptied true (fun x => x.classIn classes && x.egress == some p)
      (hbase.handleInv hs)).congested
    have hsel : (fun i => (s.streams.get i).live &&
        ((s.streams.get i).classIn classes && (s.streams.get i).egress == some p)) = sel := by
      funext i
      rw [Stream.classIn_eq, ← Layout.live_eq, Bool.and_comm (Option.any _ _), ← Bool.and_assoc]
      rfl
    rw [takeBackoff, if_pos hmatch]
    refine ⟨?_, hbase.congested ?_⟩
    · rw [(congestStreams_frame _ _ _).backoff]
    · exact hsel ▸ hcongested
  · rw [takeBackoff, if_neg hmiss]
    exact ⟨backoff_frame _ s, rfl⟩

end Sys2Proof.Machine
end

section
/-! PORT-STATE: the fields that differ act in turn, and what a rise of the watermark does. -/

namespace Sys2Proof.Machine

-- One proof after the other: each waiting thread would hold its own stack.
set_option Elab.async false

/-! ### The two halves of a PORT-STATE (R76) -/

/-- The link field of a PORT-STATE acts. -/
def State.linkedAs (s : State) (p : Fin 24) (up : Bool) : State :=
  if (s.ports.get p).up = up then s else linkChange p up s

/-- The pause and watermark fields of a PORT-STATE act. -/
def State.markedAs (s : State) (p : Fin 24) (paused high : Bool) : State :=
  if (s.ports.get p).high = false ∧ high = true then
    watermarkHigh p (s.onPort p fun x => { x with paused := paused, high := high })
  else s.onPort p fun x => { x with paused := paused, high := high }

section halves
variable {p : Fin 24} {up paused high : Bool} {s : State}

theorem onPort_eq_self {f : Port → Port} (h : f (s.ports.get p) = s.ports.get p) : s.onPort p f = s := by
  rw [State.onPort, Tbl.upd_eq_self _ _ _ h]

theorem onPort_congr {f g : Port → Port} (h : f (s.ports.get p) = g (s.ports.get p)) : s.onPort p f = s.onPort p g := by
  rw [State.onPort, Tbl.upd, h]
  rfl

theorem onPort_onPort (f g : Port → Port) : (s.onPort p f).onPort p g = s.onPort p fun x => g (f x) := by
  have htable : (s.ports.upd p f).upd p g = s.ports.upd p fun x => g (f x) := Tbl.ext_get fun q => by
    rw [Tbl.get_upd, Tbl.get_upd_self, Tbl.get_upd, Tbl.get_upd]
    split <;> rfl
  rw [State.onPort, State.onPort_ports, htable]
  rfl

theorem linkChange_ports (p : Fin 24) (up : Bool) (s : State) :
    (linkChange p up s).ports = s.ports.upd p fun x => { x with up := up } := by
  have hmap : (portLinkChanged p up (postAt (noticePortLink p up) (some p) (s.onPort p fun x =>
      { x with up := up }))).ports = s.ports.upd p fun x => { x with up := up } := by
    rw [(portLinkChanged_frame p up _).ports, (postAt_frame _ _ _).ports, State.onPort_ports]
  unfold linkChange
  dsimp only
  split
  · exact hmap
  · exact (portWentDown_frame p _).ports.trans hmap

theorem linkedAs_self (h : (s.ports.get p).up = up) : s.linkedAs p up = s := if_pos h

theorem linkedAs_port : (s.linkedAs p up).ports.get p = { s.ports.get p with up := up } := by
  unfold State.linkedAs
  split
  next h => rw [← h]
  · rw [linkChange_ports, Tbl.get_upd_self]

theorem linkedAs_up (hu : s.fabric.up = true) : (s.linkedAs p up).fabric.up = true := by
  unfold State.linkedAs
  split
  · exact hu
  · exact (linkChange_steady p up hu).up.trans hu

theorem takePortState_eq : takePortState p up paused high s = (s.linkedAs p up).markedAs p paused high := by
  rw [State.markedAs, linkedAs_port]
  rfl

theorem markedAs_of_high (h : (s.ports.get p).high = high) :
    s.markedAs p paused high = s.onPort p fun x => { x with paused := paused } := by
  have hrise : ¬ ((s.ports.get p).high = false ∧ high = true) := fun ⟨hlow, hhigh⟩ => by
    rw [hlow, hhigh] at h
    cases h
  rw [State.markedAs, if_neg hrise]
  exact onPort_congr (by rw [← h])

theorem markedAs_self (hp : (s.ports.get p).paused = paused) (h : (s.ports.get p).high = high) :
    s.markedAs p paused high = s := by
  rw [markedAs_of_high h, onPort_eq_self (by rw [← hp])]

theorem markedAs_low (hp : (s.ports.get p).paused = paused) :
    s.markedAs p paused false = s.onPort p fun x => { x with high := false } := by
  rw [State.markedAs, if_neg (fun h => Bool.false_ne_true h.2)]
  exact onPort_congr (by rw [← hp])

theorem markedAs_risen (hp : (s.ports.get p).paused = paused) (h : (s.ports.get p).high = false) :
    s.markedAs p paused true = watermarkHigh p (s.onPort p fun x => { x with high := true }) := by
  rw [State.markedAs, if_pos ⟨h, rfl⟩]
  exact congrArg _ (onPort_congr (by rw [← hp]))

/-- The pause acts first, the watermark after it. -/
theorem markedAs_of_paused :
    (s.onPort p fun x => { x with paused := paused }).markedAs p paused high = s.markedAs p paused high := by
  rw [State.markedAs, onPort_get_self, onPort_onPort, State.markedAs]

theorem exec_portState (hu : s.fabric.up = true) (up paused high : Bool) :
    exec (.portState (BitVec.ofNat 8 p.1) (boolByte up) (boolByte paused) (boolByte high)) s =
      .next ((s.linkedAs p up).markedAs p paused high) := by
  have hread : readPortState (BitVec.ofNat 8 p.1) (boolByte up) (boolByte paused) (boolByte high) =
      .ok (.portState p up paused high) := by
    rw [readPortState, number_ofNat (by decide), yesNo_eq_some.2 rfl, yesNo_eq_some.2 rfl, yesNo_eq_some.2 rfl]
  rw [← takePortState_eq]
  show Host.Outcome.next (takeInbound 3 (readPortState _ _ _ _) s) = _
  rw [hread, takeInbound, if_neg (by rw [hu]; decide)]
  rfl

theorem HandleInv.onPort {f : Port → Port} (hs : HandleInv s) (hu : s.fabric.up = true)
    (hf : (f (s.ports.get p)).outstanding = (s.ports.get p).outstanding) : HandleInv (s.onPort p f) :=
  (onPort_steady (by rw [hf]) fun hd => by rw [hu] at hd; cases hd).handle hs

/-- A rise of the watermark is a congestion notice to the BULK streams of the port (R69). -/
theorem watermarkHigh_congested (p : Fin 24) (hs : HandleInv s) :
    Congested false (fun i => (s.streams.get i).state != .free && (s.streams.get i).cls == some .bulk &&
      (s.streams.get i).egress == some p) s (watermarkHigh p s) := by
  have hcongested := (congestStreams_emptied false (fun x => x.cls == some .bulk && x.egress == some p) hs).congested
  have hsel : (fun i => (s.streams.get i).live &&
      ((s.streams.get i).cls == some .bulk && (s.streams.get i).egress == some p)) =
      fun i => (s.streams.get i).state != .free && (s.streams.get i).cls == some .bulk &&
        (s.streams.get i).egress == some p :=
    funext fun i => by rw [← Layout.live_eq, Bool.and_assoc]
  exact hsel ▸ hcongested

end halves

/-- Settles O31: the link acts on the state as it stands and leaves pause and watermark, and the pause leaves the
watermark, so that a PORT-STATE is three in turn. -/
theorem portStateActsFieldByField : Obligations.PortStateActsFieldByField := by
  unfold Obligations.PortStateActsFieldByField
  intro p up paused high s hu msg x
  have hexec : ∀ {t : State} (a b c : Bool), t.fabric.up = true →
      exec (msg a b c) t = .next ((t.linkedAs p a).markedAs p b c) := fun a b c ht => exec_portState ht a b c
  have hself : s.linkedAs p x.up = s := linkedAs_self rfl
  refine ⟨?_, ?_, ?_, ?_, fun hlow hs => ?_⟩
  · have hlinked := linkedAs_port (p := p) (up := up) (s := s)
    have hup := linkedAs_up (p := p) (up := up) hu
    refine ⟨s.linkedAs p up, (s.linkedAs p up).onPort p fun x => { x with paused := paused },
      (s.linkedAs p up).markedAs p paused high, ?_, ?_, ?_, hexec _ _ _ hu⟩
    · rw [hexec _ _ _ hu, markedAs_self (by rw [hlinked]) (by rw [hlinked])]
    · rw [hexec _ _ _ hup, linkedAs_self (by rw [hlinked]), markedAs_of_high (by rw [hlinked])]
    · refine (hexec (t := (s.linkedAs p up).onPort p _) up paused high hup).trans ?_
      rw [linkedAs_self (by rw [onPort_get_self, hlinked]), markedAs_of_paused]
  · exact ⟨_, hexec _ _ _ hu, by rw [hself, markedAs_self rfl rfl]⟩
  · refine ⟨_, hexec _ _ _ hu, ?_⟩
    rw [hself, markedAs_of_high rfl]
    exact ⟨State.onPort_frame p _ s, onPort_others p _ s, onPort_get_self p _ s⟩
  · refine ⟨_, hexec _ _ _ hu, ?_⟩
    rw [hself, markedAs_low rfl]
    exact ⟨State.onPort_frame p _ s, onPort_others p _ s, onPort_get_self p _ s⟩
  · refine ⟨_, hexec _ _ _ hu, ?_⟩
    rw [hself, markedAs_risen rfl hlow]
    have hport := State.onPort_frame p (fun x => { x with high := true }) s
    have hrise := watermarkHigh_frame p (s.onPort p fun x => { x with high := true })
    refine ⟨(hport.mono (by decide)).trans (hrise.mono (by decide)), ?_, ?_, ?_⟩
    · rw [hrise.ports]
      exact onPort_others p _ s
    · rw [hrise.ports]
      exact onPort_get_self p _ s
    · exact hport.congested (watermarkHigh_congested p (hs.onPort hu rfl))

end Sys2Proof.Machine
end

section
/-! The link of a port: what its loss and its return do to the station of the port and to the streams on it. -/

namespace Sys2Proof.Machine

-- One proof after the other: each waiting thread would hold its own stack.
set_option Elab.async false

/-! ### The port's record and its notice (R76) -/

/-- The link field of port `p` recorded, and PORT-LINK posted. -/
def State.portLinked (s : State) (p : Fin 24) (up : Bool) : State :=
  postAt (noticePortLink p up) (some p) (s.onPort p fun x => { x with up := up })

section linked
variable {p : Fin 24} {up : Bool} {s : State}

theorem portLinked_frame : SameBut ([.ports] ++ allLinks) s (s.portLinked p up) :=
  ((State.onPort_frame p _ s).mono (by decide)).trans ((postAt_frame _ _ _).mono (by decide))

theorem portLinked_hears : Hears [byPort s (some p) (noticePortLink p up)] s.now s (s.portLinked p up) := by
  have hport := State.onPort_frame p (fun x => { x with up := up }) s
  have hpost := postAt_hears (noticePortLink p up) (some p) (s.onPort p fun x => { x with up := up })
  rw [hport.byPort, hport.now] at hpost
  exact (hport.hears s.now (by simp)).trans hpost

theorem HandleInv.portLinked (hs : HandleInv s) (hu : s.fabric.up = true) : HandleInv (s.portLinked p up) :=
  (postAt_frame _ _ _).handleInv (hs.onPort hu rfl)

theorem linkChange_others : OthersSame p s.ports (linkChange p up s).ports := by
  rw [linkChange_ports]
  exact fun _ hj => Tbl.get_upd_of_ne _ _ hj

theorem linkChange_port : (linkChange p up s).ports.get p = { s.ports.get p with up := up } := by
  rw [linkChange_ports, Tbl.get_upd_self]

/-- A PORT-STATE that changes the link alone. -/
theorem exec_portState_link (hu : s.fabric.up = true) (h : (s.ports.get p).up ≠ up) :
    exec (.portState (BitVec.ofNat 8 p.1) (boolByte up) (boolByte (s.ports.get p).paused)
      (boolByte (s.ports.get p).high)) s = .next (linkChange p up s) := by
  have hlinked := linkedAs_port (p := p) (up := up) (s := s)
  rw [exec_portState hu, markedAs_self (by rw [hlinked]) (by rw [hlinked]), State.linkedAs, if_neg h]

end linked

theorem stationPort_of_stationOn {s : State} {p : Fin 24} {i : Fin 32} (h : s.stationOn p = some i) :
    s.stationPort i = some p := Station.isOn_iff.1 (List.find?_some h :)

/-- The station of a port is configured. -/
theorem conf_of_stationOn {s : State} {p : Fin 24} {i : Fin 32} (h : s.stationOn p = some i) :
    ∃ x, (s.stations.get i).conf = some x ∧ x.port = p := by
  have hport := stationPort_of_stationOn h
  unfold State.stationPort at hport
  exact Option.map_eq_some_iff.1 hport

/-! ### The link goes down (R36, R29, R142) -/

/-- Station `i` goes to ABSENT when the link of port `p` goes down. -/
abbrev State.leavesBy (s : State) (p : Fin 24) (i : Fin 32) : Prop :=
  s.stationOn p = some i ∧ s.stationState i ≠ some .absent

section down
variable {p : Fin 24} {s : State}

/-- The station of the port, where it is not ABSENT, goes to ABSENT and leaves every need set; no ORDER is made. -/
theorem portLinkChanged_down {k : Fin 32} (h : s.leavesBy p k) :
    portLinkChanged p false s =
      leaveNeeds k (postAt (noticeStation k .absent) (some p) (setStation k .absent s)) := by
  obtain ⟨hk, hstate⟩ := h
  obtain ⟨x, hx, _⟩ := conf_of_stationOn hk
  have hport := stationPort_of_stationOn hk
  have hmove : portLinkChanged p false s = moveStation k .absent s := by
    rw [stationState_of_conf hx] at hstate
    rw [portLinkChanged, hk]
    dsimp only
    rw [stationState_of_conf hx]
    cases hst : x.state with
    | absent => exact absurd (congrArg some hst) hstate
    | _ => rfl
  rw [hmove, moveStation, hport]
  rfl

theorem portLinkChanged_down_none (h : ∀ i, ¬ s.leavesBy p i) : portLinkChanged p false s = s := by
  unfold portLinkChanged
  split
  · rfl
  next i hi =>
    have habsent : s.stationState i = some .absent := not_not.1 fun hn => h i ⟨hi, hn⟩
    rw [habsent]

theorem leavesBy_iff {i k : Fin 32} (h : s.leavesBy p k) : s.leavesBy p i ↔ i = k := by
  constructor
  · exact fun hi => Option.some.inj (hi.1.symm.trans h.1)
  · rintro rfl
    exact h

theorem portLinkChanged_down_frame :
    SameBut ([.stations, .outputs] ++ allLinks) s (portLinkChanged p false s) := by
  by_cases h : ∃ k, s.leavesBy p k
  · obtain ⟨k, hk⟩ := h
    rw [portLinkChanged_down hk]
    exact (((setStation_frame k _ s).mono (by decide)).trans ((postAt_frame _ _ _).mono (by decide))).trans
      ((leaveNeeds_frame k _).mono (by decide))
  · rw [portLinkChanged_down_none (not_exists.1 h)]
    exact .refl _ s

theorem portLinkChanged_down_station (i : Fin 32) :
    (portLinkChanged p false s).stations.get i = { s.stations.get i with
      conf := if s.leavesBy p i then (s.stations.get i).conf.map ({ · with state := .absent })
        else (s.stations.get i).conf
      lastChange := if s.leavesBy p i then some s.now else (s.stations.get i).lastChange } := by
  by_cases h : ∃ k, s.leavesBy p k
  · obtain ⟨k, hk⟩ := h
    rw [portLinkChanged_down hk, (leaveNeeds_frame k _).stations, (postAt_frame _ _ _).stations]
    by_cases hi : i = k
    · subst hi
      rw [if_pos hk, if_pos hk]
      exact onStation_get_self i _ s
    · have hn := mt (leavesBy_iff hk).1 hi
      rw [if_neg hn, if_neg hn]
      exact onStation_others k _ s i hi
  · rw [portLinkChanged_down_none (not_exists.1 h), if_neg (not_exists.1 h i), if_neg (not_exists.1 h i)]

theorem portLinkChanged_down_output (o : Fin 8) :
    (portLinkChanged p false s).outputs.get o = { s.outputs.get o with
      needs := if (s.outputs.get o).mode = .feed then
          (s.outputs.get o).needs.filter fun i => decide (¬ s.leavesBy p i)
        else (s.outputs.get o).needs } := by
  by_cases h : ∃ k, s.leavesBy p k
  · obtain ⟨k, hk⟩ := h
    have hfilter : (fun i => decide (¬ s.leavesBy p i)) = (· != k) := funext fun i => by
      rw [decide_eq_decide.2 (not_congr (leavesBy_iff hk)), bne, beq_eq_decide, decide_not]
    rw [portLinkChanged_down hk, leaveNeeds_output, hfilter, (postAt_frame _ _ _).outputs,
      (setStation_frame _ _ _).outputs]
  · have hall : ∀ xs : List (Fin 32), (xs.filter fun i => decide (¬ s.leavesBy p i)) = xs := fun xs =>
      List.filter_eq_self.2 fun i _ => decide_eq_true (not_exists.1 h i)
    rw [portLinkChanged_down_none (not_exists.1 h), hall, ite_self]

theorem portLinkChanged_down_hears :
    Hears (((numbers 32).filter fun i => decide (s.leavesBy p i)).map fun i =>
      byPort s (some p) (noticeStation i .absent)) s.now s (portLinkChanged p false s) := by
  by_cases h : ∃ k, s.leavesBy p k
  · obtain ⟨k, hk⟩ := h
    have hfilter : ((numbers 32).filter fun i => decide (s.leavesBy p i)) = [k] := by
      have hbeq : (fun i => decide (s.leavesBy p i)) = (· == k) := funext fun i => by
        rw [decide_eq_decide.2 (leavesBy_iff hk), beq_eq_decide]
      rw [hbeq, List.filter_beq, numbers,
        List.count_eq_one_of_mem (List.nodup_finRange 32) (List.mem_finRange k)]
      rfl
    have hset := setStation_frame k .absent s
    have hpost := postAt_hears (noticeStation k .absent) (some p) (setStation k .absent s)
    rw [hset.byPort, hset.now] at hpost
    rw [hfilter, portLinkChanged_down hk]
    have hneeds := (leaveNeeds_frame k (postAt (noticeStation k .absent) (some p) (setStation k .absent s))).hears s.now
      (by simp)
    exact ((hset.hears s.now (by simp)).trans hpost).trans hneeds
  · have hfilter : ((numbers 32).filter fun i => decide (s.leavesBy p i)) = [] :=
      List.filter_eq_nil_iff.2 fun i _ hi => not_exists.1 h i (of_decide_eq_true hi)
    rw [hfilter, portLinkChanged_down_none (not_exists.1 h)]
    exact .nil _ s

end down

/-- Lists emptied from a state `u` that differs from `s` neither in the streams nor in the store. -/
theorem Emptied.rebase {ps : List Part} {why : DiscardReason} {sel : Fin 128 → Bool} {more : Fin 128 → List Heard}
    {s u t : State} (h : Emptied why sel (emptiedStream why sel u) more u t) (hb : SameBut ps s u)
    (h1 : Part.store ∉ ps := by decide) (h2 : Part.streams ∉ ps := by decide) (h3 : Part.grants ∉ ps := by decide)
    (h4 : Part.storeDiscards ∉ ps := by decide) (h5 : Part.time ∉ ps := by decide) :
    t.store = emptiedStore sel s ∧ t.fabric = emptiedFrom why sel s u.fabric ∧
    t.storeDiscards = emptiedCounts why sel s ∧ (∀ i, t.streams.get i = emptiedStream why sel s i) ∧
    Hears (heardEmptying why sel more s) s.now u t := by
  obtain ⟨_, hstore, hfabric, hcounts, hrecords, hheard⟩ := h
  rw [hb.emptiedStore h1] at hstore
  rw [emptiedFabric, hb.emptiedFrom h1] at hfabric
  rw [hb.emptiedCounts h1 h4] at hcounts
  rw [hb.emptiedStream h1 h2] at hrecords
  rw [hb.heardEmptying h1 h2 h3, hb.now h5] at hheard
  exact ⟨hstore, hfabric, hcounts, hrecords, hheard⟩

/-- The state at which the Stream Table hears that the link of port `p` has gone down. -/
def State.wentDown (s : State) (p : Fin 24) : State := portLinkChanged p false (s.portLinked p false)

section wentDown
variable {p : Fin 24} {s : State}

theorem linkChange_down : linkChange p false s = portWentDown p (s.wentDown p) := rfl

theorem wentDown_frame : SameBut ([.ports, .stations, .outputs] ++ allLinks) s (s.wentDown p) :=
  (portLinked_frame.mono (by decide)).trans (portLinkChanged_down_frame.mono (by decide))

theorem wentDown_hears : Hears (byPort s (some p) (noticePortLink p false) ::
    ((numbers 32).filter fun i => decide (s.leavesBy p i)).map fun i => byPort s (some p) (noticeStation i .absent))
    s.now s (s.wentDown p) := by
  have hlinked := portLinked_frame (s := s) (p := p) (up := false)
  have hheard := portLinkChanged_down_hears (s := s.portLinked p false) (p := p)
  rw [hlinked.byPort, hlinked.now] at hheard
  exact portLinked_hears.trans hheard

theorem wentDown_station (i : Fin 32) : (s.wentDown p).stations.get i = { s.stations.get i with
    conf := if s.leavesBy p i then (s.stations.get i).conf.map ({ · with state := .absent })
      else (s.stations.get i).conf
    lastChange := if s.leavesBy p i then some s.now else (s.stations.get i).lastChange } := by
  have hlinked := portLinked_frame (s := s) (p := p) (up := false)
  have hstation := portLinkChanged_down_station (s := s.portLinked p false) (p := p) i
  rw [hlinked.stations, hlinked.now] at hstation
  exact hstation

theorem wentDown_output (o : Fin 8) : (s.wentDown p).outputs.get o = { s.outputs.get o with
    needs := if (s.outputs.get o).mode = .feed then
        (s.outputs.get o).needs.filter fun i => decide (¬ s.leavesBy p i)
      else (s.outputs.get o).needs } := by
  have hlinked := portLinked_frame (s := s) (p := p) (up := false)
  have houtput := portLinkChanged_down_output (s := s.portLinked p false) (p := p) o
  rw [hlinked.outputs] at houtput
  exact houtput

theorem linkChange_down_emptied (hs : HandleInv s) (hu : s.fabric.up = true) :
    let sel := fun i => (s.streams.get i).egress == some p
    Emptied .linkDown sel (emptiedStream .linkDown sel (s.wentDown p)) (fun _ => []) (s.wentDown p)
      (linkChange p false s) := by
  intro sel
  have hinv : HandleInv (s.wentDown p) := portLinkChanged_down_frame.handleInv (hs.portLinked hu)
  have hemptied := discardStreams_emptied .linkDown (fun x => x.egress == some p) hinv
  rw [wentDown_frame.streams] at hemptied
  rw [linkChange_down]
  exact hemptied

end wentDown

/-- Settles O32: the port's record and its notice, the station of the port, and the lists of the port's streams, in
turn. -/
theorem portLinkDownEmptiesItsStreams : Obligations.PortLinkDownEmptiesItsStreams := by
  unfold Obligations.PortLinkDownEmptiesItsStreams
  intro p s hs hu hup x sel leaves
  have hexec := exec_portState_link (p := p) (s := s) (up := false) hu (by rw [hup]; nofun)
  have hbase := wentDown_frame (s := s) (p := p)
  have hemptied := linkChange_down_emptied (p := p) hs hu
  have hframe := hemptied.frame
  obtain ⟨hstore, hfabric, hcounts, hrecords, hheard⟩ := hemptied.rebase hbase
  rw [hbase.fabric] at hfabric
  refine ⟨_, hexec, (hbase.mono (by decide)).trans (hframe.mono (by decide)), linkChange_others, linkChange_port,
    hstore, hfabric, hcounts, hrecords, fun i => ?_, fun o => ?_, wentDown_hears.trans hheard⟩
  · rw [hframe.stations]
    exact wentDown_station i
  · rw [hframe.outputs]
    exact wentDown_output o

end Sys2Proof.Machine
end

section
/-! The link of a port comes up: its ABSENT station is ordered to SERVICE or HELD; what an entry into SERVICE does. -/

namespace Sys2Proof.Machine

-- One proof after the other: each waiting thread would hold its own stack.
set_option Elab.async false

/-! ### What the Stream Table hears of the station (R58) -/

theorem forEach_idle {α : Type} (xs : List α) (s : State) : forEach xs (fun _ u => u) s = s := List.foldl_fixed xs

/-- An event that selects no stream empties no list. -/
theorem emptied_none (why : DiscardReason) {s : State} (hs : HandleInv s) :
    Emptied why (fun _ => false) (emptiedStream why (fun _ => false) s) (fun _ => []) s s := by
  have hemptied := discardStreams_emptied why (fun _ => false) hs
  have hidle : discardStreams why (fun _ => false) s = s := forEach_idle (numbers 128) s
  rwa [hidle] at hemptied

/-- The streams that an entry into SERVICE on port `p` holds up (R58). -/
def State.heldUp (s : State) (p : Fin 24) (i : Fin 128) : Bool :=
  (s.streams.get i).egress == some p && (s.streams.get i).cls == some .cyclic && (s.streams.get i).owner != some .sc

theorem serviceEntered_emptied (p : Fin 24) {s : State} (hs : HandleInv s) :
    Emptied .held (s.heldUp p) (emptiedStream .held (s.heldUp p) s) (fun _ => []) s (serviceEntered (· == p) s) := by
  have hemptied := discardStreams_emptied .held
    (fun x => x.egress.any (· == p) && x.cls == some .cyclic && !x.ownedBySc) hs
  have hsel : (fun i => (s.streams.get i).egress.any (· == p) && (s.streams.get i).cls == some .cyclic &&
      !(s.streams.get i).ownedBySc) = s.heldUp p := funext fun i => by
    have hport : (s.streams.get i).egress.any (· == p) = ((s.streams.get i).egress == some p) := by
      cases (s.streams.get i).egress <;> rfl
    rw [hport]
    rfl
  rw [hsel] at hemptied
  exact hemptied

/-- The state that a station takes when the link of its port comes up, by the coverage of the port (R36). -/
def stateOnLink (covered : Bool) : StationState := if covered = true then .service else .held

/-- The order that it is given (R30). -/
def orderOnLink (covered : Bool) : Order := if covered = true then .service else .hold

theorem orderFor_stateOnLink (c : Bool) : orderFor (stateOnLink c) = some (orderOnLink c) := by cases c <;> rfl

theorem tellOfState_emptied {i : Fin 32} {p : Fin 24} {s : State} (hp : s.stationPort i = some p) (hs : HandleInv s)
    (c : Bool) :
    let sel := fun k => c && s.heldUp p k
    Emptied .held sel (emptiedStream .held sel s) (fun _ => []) s (tellOfState i (stateOnLink c) s) := by
  cases c with
  | false => exact emptied_none .held hs
  | true =>
    have htell : tellOfState i .service s = serviceEntered (· == p) s := by
      unfold tellOfState
      rw [hp]
    simp only [Bool.true_and]
    show Emptied .held (s.heldUp p) _ _ s (tellOfState i .service s)
    rw [htell]
    exact serviceEntered_emptied p hs

/-! ### The station (R36, R30) -/

section up
variable {p : Fin 24} {i : Fin 32} {s : State} {y : StationConf}

theorem portLinkChanged_up (hi : s.stationOn p = some i) (ha : s.stationState i = some .absent) :
    portLinkChanged p true s = moveStation i (stateOnLink (s.covered .intervene p)) s := by
  rw [portLinkChanged, hi]
  dsimp only
  rw [ha]
  rfl

theorem portLinkChanged_up_none (h : ∀ i, s.stationOn p = some i → s.stationState i ≠ some .absent) :
    portLinkChanged p true s = s := by
  unfold portLinkChanged
  split
  · rfl
  next i hi =>
    split
    next hd _ => cases hd
    next hd _ => cases hd
    next ha => exact absurd ha (h i hi)
    · rfl

theorem portLinked_stationOn : (s.portLinked p true).stationOn = s.stationOn := by
  funext q
  rw [State.stationOn, portLinked_frame.stations]
  rfl

theorem portLinked_stationState : (s.portLinked p true).stationState = s.stationState := by
  funext j
  rw [State.stationState, portLinked_frame.stations]
  rfl

/-- The state at which the Stream Table hears of the station `i` of port `p`, whose link has come up. -/
def State.cameUp (s : State) (p : Fin 24) (i : Fin 32) : State :=
  turnStation i (stateOnLink (s.covered .intervene p)) (s.coveredAt .observe (some p)) (s.portLinked p true)

theorem linkChange_up (hi : s.stationOn p = some i) (ha : s.stationState i = some .absent) :
    linkChange p true s = tellOfState i (stateOnLink (s.covered .intervene p)) (s.cameUp p i) := by
  have hi' : (s.portLinked p true).stationOn p = some i := by rw [portLinked_stationOn, hi]
  have hup := portLinkChanged_up hi' (by rw [portLinked_stationState, ha])
  rw [moveStation, stationPort_of_stationOn hi', portLinked_frame.coveredAt] at hup
  exact hup

theorem linkChange_up_none (h : ∀ i, s.stationOn p = some i → s.stationState i ≠ some .absent) :
    linkChange p true s = s.portLinked p true :=
  portLinkChanged_up_none (s := s.portLinked p true) (by rw [portLinked_stationOn, portLinked_stationState]; exact h)

theorem cameUp_frame : SameBut ([.ports, .stations, .fabric] ++ allLinks) s (s.cameUp p i) :=
  (portLinked_frame.mono (by decide)).trans (turnStation_frame_narrow.mono (by decide))

theorem cameUp_hears :
    Hears [byPort s (some p) (noticePortLink p true),
      byPort s (some p) (noticeStation i (stateOnLink (s.covered .intervene p)))] s.now s (s.cameUp p i) := by
  have hturn := turnStation_hears (i := i) (st := stateOnLink (s.covered .intervene p))
    (b := s.coveredAt .observe (some p)) (s := s.portLinked p true)
  rw [portLinked_frame.now] at hturn
  exact portLinked_hears.trans hturn

theorem cameUp_handleInv (hs : HandleInv s) (hu : s.fabric.up = true) : HandleInv (s.cameUp p i) :=
  (turnStation_steady i _ _ _).handle (hs.portLinked hu)

theorem cameUp_others : OthersSame i s.stations (s.cameUp p i).stations := by
  have hturn := turnStation_others (i := i) (st := stateOnLink (s.covered .intervene p))
    (b := s.coveredAt .observe (some p)) (s := s.portLinked p true)
  rw [portLinked_frame.stations] at hturn
  exact hturn

theorem cameUp_stationPort (hi : s.stationOn p = some i) : (s.cameUp p i).stationPort i = some p := by
  rw [State.cameUp, turnStation_stationPort, portLinked_frame.stationPort]
  exact stationPort_of_stationOn hi

theorem cameUp_station (hu : s.fabric.up = true) (hc : (s.stations.get i).conf = some y) :
    (s.cameUp p i).stations.get i =
      { conf := some { y with state := stateOnLink (s.covered .intervene p) }
        orderSeq := (s.stations.get i).orderSeq + 1
        lastChange := some s.now } := by
  have hlinked := portLinked_frame (s := s) (p := p) (up := true)
  have hconf : ((s.portLinked p true).stations.get i).conf = some y := by rw [hlinked.stations, hc]
  rw [State.cameUp, turnStation_station hconf (orderFor_stateOnLink _), Fabric.nextSeq, hlinked.fabric,
    hlinked.stations, hlinked.now, if_pos hu]

theorem cameUp_fabric (hu : s.fabric.up = true) (hc : (s.stations.get i).conf = some y) (hp : y.port = p) :
    (s.cameUp p i).fabric = s.fabric.queued
      (.cellOut p i (orderOnLink (s.covered .intervene p)) ((s.stations.get i).orderSeq + 1)) := by
  have hlinked := portLinked_frame (s := s) (p := p) (up := true)
  have hconf : ((s.portLinked p true).stations.get i).conf = some y := by rw [hlinked.stations, hc]
  rw [State.cameUp, turnStation_fabric hconf (orderFor_stateOnLink _), Fabric.ordered, hlinked.fabric, hlinked.stations,
    if_pos hu, hp]

end up

/-- Settles O33: the port's record and its notice, the station with its ORDER, and the lists that an entry into SERVICE
empties, in turn. -/
theorem portLinkUpBringsItsStation : Obligations.PortLinkUpBringsItsStation := by
  unfold Obligations.PortLinkUpBringsItsStation
  intro p s hs hu hdown x c st o sel
  have hexec := exec_portState_link (p := p) (s := s) (up := true) hu (by rw [hdown]; nofun)
  refine ⟨fun i y hi hc ha => ?_, fun hnone => ?_⟩
  · have habsent : s.stationState i = some .absent := by rw [stationState_of_conf hc, ha]
    have hport : y.port = p := by
      have hplace := stationPort_of_stationOn hi
      rw [stationPort_of_conf hc] at hplace
      exact Option.some.inj hplace
    have hbase := cameUp_frame (s := s) (p := p) (i := i)
    have hemptied := tellOfState_emptied (cameUp_stationPort hi) (cameUp_handleInv hs hu) (s.covered .intervene p)
    rw [← linkChange_up hi habsent] at hemptied
    have hsel : (fun k => s.covered .intervene p && (s.cameUp p i).heldUp p k) = sel := funext fun k => by
      rw [State.heldUp, hbase.streams, ← Bool.and_assoc, ← Bool.and_assoc]
    dsimp only at hemptied
    rw [hsel] at hemptied
    have hframe := hemptied.frame
    obtain ⟨hstore, hfabric, hcounts, hrecords, hheard⟩ := hemptied.rebase hbase
    rw [cameUp_fabric hu hc hport] at hfabric
    refine ⟨_, hexec, (hbase.mono (by decide)).trans (hframe.mono (by decide)), linkChange_others, linkChange_port, ?_,
      ?_, hstore, hfabric, hcounts, hrecords, cameUp_hears.trans hheard⟩ <;> rw [hframe.stations]
    · exact cameUp_others
    · exact cameUp_station hu hc
  · refine ⟨_, hexec, ?_, linkChange_others, linkChange_port, ?_⟩ <;> rw [linkChange_up_none hnone]
    · exact portLinked_frame
    · exact portLinked_hears

end Sys2Proof.Machine
end

section
/-! What TrackInv and HoldInv read of the state, and the changes that keep them. -/

namespace Sys2Proof.Machine

-- One proof after the other: each waiting thread would hold its own stack.
set_option Elab.async false

/-! ### The order and the times of the track (R94 to R96) -/

/-- R94, R96: the times of a record lie at the distances that gate `g` and points `pts` give from its fill MT. -/
def TrackRecord.timed (g : Gate) (pts : Tbl Point 4) (r : TrackRecord) : Prop :=
  r.gateTime = r.fillMt + usToNs g.delayUs ∧
  ∀ i, (r.entries.get i).trigger = r.fillMt + usToNs (pts.get i).travelUs ∧
    (r.entries.get i).verdictBy = (r.entries.get i).trigger + usToNs (pts.get i).allowanceUs

/-- R94 to R96, for a list of records. -/
def Lined (g : Gate) (pts : Tbl Point 4) (rs : List TrackRecord) : Prop :=
  rs.length ≤ 256 ∧ rs.Pairwise (fun a b => a.fillMt ≤ b.fillMt) ∧ ∀ r ∈ rs, r.timed g pts

theorem trackInv_iff (s : State) : TrackInv s ↔ Lined s.gate s.points s.track.records := Iff.rfl

theorem Lined.nil (g : Gate) (pts : Tbl Point 4) : Lined g pts [] := ⟨Nat.zero_le _, .nil, nofun⟩

theorem Lined.tail {g : Gate} {pts : Tbl Point 4} {r : TrackRecord} {rs : List TrackRecord}
    (h : Lined g pts (r :: rs)) : Lined g pts rs := by
  obtain ⟨hlen, hord, htime⟩ := h
  exact ⟨Nat.le_of_succ_le hlen, hord.of_cons, fun x hx => htime x (List.mem_cons_of_mem r hx)⟩

/-- Record `q` has the times of `r`, each moved by `d`. -/
structure TrackRecord.Moved (d : Int) (r q : TrackRecord) : Prop where
  fillMt : q.fillMt = r.fillMt + d
  gateTime : q.gateTime = r.gateTime + d
  trigger : ∀ i, (q.entries.get i).trigger = (r.entries.get i).trigger + d
  verdictBy : ∀ i, (q.entries.get i).verdictBy = (r.entries.get i).verdictBy + d

theorem TrackRecord.timed.move {g : Gate} {pts : Tbl Point 4} {d : Int} {r q : TrackRecord} (h : r.timed g pts)
    (hq : r.Moved d q) : q.timed g pts := by
  obtain ⟨hgate, hentry⟩ := h
  refine ⟨by rw [hq.gateTime, hq.fillMt, hgate]; omega, fun i => ?_⟩
  obtain ⟨htrigger, hverdict⟩ := hentry i
  constructor
  · rw [hq.trigger, hq.fillMt, htrigger]; omega
  · rw [hq.verdictBy, hq.trigger, hverdict]; omega

theorem Lined.map {g : Gate} {pts : Tbl Point 4} {d : Int} {f : TrackRecord → TrackRecord} {rs : List TrackRecord}
    (h : Lined g pts rs) (hf : ∀ r : TrackRecord, r.Moved d (f r)) : Lined g pts (rs.map f) := by
  obtain ⟨hlen, hord, htime⟩ := h
  refine ⟨by rwa [List.length_map], List.pairwise_map.2 (hord.imp fun {a b} hab => ?_), fun q hq => ?_⟩
  · rw [(hf a).fillMt, (hf b).fillMt]
    exact Int.add_le_add_right hab d
  · obtain ⟨r, hr, rfl⟩ := List.mem_map.1 hq
    exact (htime r hr).move (hf r)

/-- The place of a record among records in order of fill MT: behind every one that is not later (R95). -/
theorem insertRecord_split (r : TrackRecord) {rs : List TrackRecord}
    (h : rs.Pairwise fun a b => a.fillMt ≤ b.fillMt) :
    ∃ before after, rs = before ++ after ∧ insertRecord r rs = before ++ r :: after ∧
      (∀ z ∈ before, z.fillMt ≤ r.fillMt) ∧ ∀ z ∈ after, r.fillMt < z.fillMt := by
  induction rs with
  | nil => exact ⟨[], [], rfl, rfl, nofun, nofun⟩
  | cons x xs ih =>
    obtain ⟨hx, hxs⟩ := List.pairwise_cons.1 h
    rw [insertRecord]
    split
    next hle =>
      obtain ⟨before, after, hsplit, hinsert, hbefore, hafter⟩ := ih hxs
      exact ⟨x :: before, after, by rw [hsplit]; rfl, by rw [hinsert]; rfl,
        List.forall_mem_cons.2 ⟨hle, hbefore⟩, hafter⟩
    next hlt =>
      have hlt := Int.not_le.1 hlt
      exact ⟨[], x :: xs, rfl, rfl, nofun,
        List.forall_mem_cons.2 ⟨hlt, fun z hz => Int.lt_of_lt_of_le hlt (hx z hz)⟩⟩

theorem Lined.insert {g : Gate} {pts : Tbl Point 4} {r : TrackRecord} {rs : List TrackRecord} (h : Lined g pts rs)
    (hr : r.timed g pts) (hlen : rs.length < 256) : Lined g pts (insertRecord r rs) := by
  obtain ⟨_, hord, htime⟩ := h
  obtain ⟨before, after, rfl, hinsert, hbefore, hafter⟩ := insertRecord_split r hord
  obtain ⟨hfirst, hlast, hcross⟩ := List.pairwise_append.1 hord
  rw [hinsert]
  refine ⟨by simp only [List.length_append, List.length_cons] at hlen ⊢; omega,
    List.pairwise_append.2 ⟨hfirst, List.pairwise_cons.2 ⟨fun z hz => Int.le_of_lt (hafter z hz), hlast⟩,
      fun a ha b hb => ?_⟩, fun q hq => ?_⟩
  · obtain rfl | hb := List.mem_cons.1 hb
    · exact hbefore a ha
    · exact hcross a ha b hb
  · obtain hq | hq := List.mem_append.1 hq
    · exact htime q (List.mem_append_left _ hq)
    obtain rfl | hq := List.mem_cons.1 hq
    · exact hr
    · exact htime q (List.mem_append_right _ hq)

/-! ### The modes and the holds of the outputs (R128, R131) -/

/-- What HoldInv reads of an output: its mode and its hold. -/
def Output.gating (x : Output) : OutputMode × Bool := (x.mode, x.hold)

def State.gating (s : State) (o : Fin 8) : OutputMode × Bool := (s.outputs.get o).gating

theorem holdInv_iff (s : State) :
    HoldInv s ↔ s.outWindow = s.track.windowEnd.isSome ∧
      (∀ o, (s.gating o).2 = ((s.gating o).1 == .gate && s.outWindow)) ∧
      ∀ o o', (s.gating o).1 = .gate → (s.gating o').1 = .gate → o = o' := Iff.rfl

theorem SameBut.gating {ps : List Part} {s t : State} (h : SameBut ps s t) (hp : Part.outputs ∉ ps := by decide) :
    t.gating = s.gating := by
  funext o
  rw [State.gating, State.gating, h.outputs hp]

theorem onOutput_gating {o : Fin 8} {f : Output → Output} {s : State}
    (hf : (f (s.outputs.get o)).gating = (s.outputs.get o).gating) : (s.onOutput o f).gating = s.gating := by
  funext j
  rw [State.gating, State.gating, State.onOutput_outputs, Tbl.get_upd]
  split
  next hj => rw [hf, hj]
  · rfl

theorem mapOutputs_gating {f : Output → Output} {s t : State} (ht : t.outputs = s.outputs.map f)
    (hf : ∀ x, (f x).gating = x.gating) : t.gating = s.gating := by
  funext j
  rw [State.gating, State.gating, ht, Tbl.get_map, hf]

@[simp] theorem Output.ask_gating (fin : Int) (x : Output) : (x.ask fin).gating = x.gating := by
  unfold Output.ask
  split <;> rfl

@[simp] theorem askTrigger_gating (o : Option (Fin 8)) (s : State) : (askTrigger o s).gating = s.gating := by
  cases o with
  | none => rfl
  | some o =>
    refine onOutput_gating ?_
    split
    · exact Output.ask_gating _ _
    · rfl

@[simp] theorem askGate_gating (s : State) : (askGate s).gating = s.gating := by
  unfold askGate
  split
  · rfl
  · refine onOutput_gating ?_
    split
    · exact Output.ask_gating _ _
    · rfl

@[simp] theorem leaveNeeds_gating (i : Fin 32) (s : State) : (leaveNeeds i s).gating = s.gating := by
  refine mapOutputs_gating rfl fun x => ?_
  split <;> rfl

theorem takeNeed_gating (i : Fin 32) (o w : Byte) (s : State) : (takeNeed i o w s).gating = s.gating := by
  unfold takeNeed
  split
  · split
    · exact onOutput_gating rfl
    · exact (postAll_frame _ s).gating
  · exact (postAll_frame _ s).gating

theorem Output.takeInstant_gating (c : ClockState) (t : Int) (x : Output) : (x.takeInstant c t).gating = x.gating := by
  unfold Output.takeInstant
  dsimp only
  split
  · exact Output.ask_gating _ _
  · rfl

/-- The window is now open exactly where `w` says so, and the outputs in GATE mode, no others, take the hold that it
gives. -/
theorem HoldInv.of_window {s t : State} {w : Bool} (h : HoldInv s) (hout : t.outWindow = w)
    (htrack : t.track.windowEnd.isSome = w)
    (hg : ∀ o, t.gating o = ((s.gating o).1, if (s.gating o).1 = .gate then w else (s.gating o).2)) : HoldInv t := by
  obtain ⟨_, hheld, hone⟩ := (holdInv_iff s).1 h
  refine (holdInv_iff t).2 ⟨hout.trans htrack.symm, fun o => ?_, fun o o' ho ho' => hone o o' ?_ ?_⟩
  · rw [hg, hout]
    dsimp only
    split
    next hmode => rw [hmode]; rfl
    next hmode => rw [hheld, beq_false_of_ne hmode, Bool.false_and, Bool.false_and]
  · rwa [hg] at ho
  · rwa [hg] at ho'

theorem holdBegins_gating (s : State) (o : Fin 8) :
    (holdBegins s).gating o = ((s.gating o).1, if (s.gating o).1 = .gate then true else (s.gating o).2) := by
  rw [State.gating, holdBegins, Tbl.get_map]
  unfold State.gating Output.gating
  split <;> rfl

theorem holdEnds_gating (s : State) (o : Fin 8) :
    (holdEnds s).gating o = ((s.gating o).1, if (s.gating o).1 = .gate then false else (s.gating o).2) := by
  rw [State.gating, holdEnds, Tbl.get_map]
  unfold State.gating Output.gating
  split <;> rfl

/-! ### Changes that keep both -/

/-- From `s` to `t` the track stays in order, and the hold in agreement with the window. -/
structure TrackKept (s t : State) : Prop where
  track : TrackInv s → TrackInv t
  hold : HoldInv s → HoldInv t

theorem TrackKept.trans {s t u : State} (h : TrackKept s t) (k : TrackKept t u) : TrackKept s u :=
  ⟨k.track ∘ h.track, k.hold ∘ h.hold⟩

section pieces
variable {ps : List Part} {s t : State} (h : SameBut ps s t)
include h

theorem SameBut.trackInv (hs : TrackInv s) (h1 : Part.track ∉ ps := by decide) (h2 : Part.points ∉ ps := by decide)
    (h3 : Part.gate ∉ ps := by decide) : TrackInv t := by
  unfold TrackInv
  rwa [h.track h1, h.points h2, h.gate h3]

/-- A change of the track that leaves records that were in order in order. -/
theorem SameBut.trackInv_of_lined
    (hl : Lined s.gate s.points s.track.records → Lined s.gate s.points t.track.records) (hs : TrackInv s)
    (h2 : Part.points ∉ ps := by decide) (h3 : Part.gate ∉ ps := by decide) : TrackInv t := by
  rw [trackInv_iff, h.points h2, h.gate h3]
  exact hl hs

theorem SameBut.holdInv (hg : t.gating = s.gating) (hw : t.track.windowEnd.isSome = s.track.windowEnd.isSome)
    (hs : HoldInv s) (h1 : Part.outWindow ∉ ps := by decide) : HoldInv t := by
  rw [holdInv_iff, hg, hw, h.outWindow h1]
  exact hs

/-- A change of other blocks, and of the outputs in nothing but pulses, feeds, needs and counters. -/
theorem SameBut.trackKept_of_gating (hg : t.gating = s.gating) (h1 : Part.track ∉ ps := by decide)
    (h2 : Part.points ∉ ps := by decide) (h3 : Part.gate ∉ ps := by decide)
    (h4 : Part.outWindow ∉ ps := by decide) : TrackKept s t where
  track hs := h.trackInv hs h1 h2 h3
  hold hs := h.holdInv hg (by rw [h.track h1]) hs h4

/-- A change of other blocks alone. -/
theorem SameBut.trackKept (h1 : Part.track ∉ ps := by decide) (h2 : Part.points ∉ ps := by decide)
    (h3 : Part.gate ∉ ps := by decide) (h4 : Part.outWindow ∉ ps := by decide)
    (h5 : Part.outputs ∉ ps := by decide) : TrackKept s t := h.trackKept_of_gating (h.gating h5) h1 h2 h3 h4

end pieces

theorem trackKept_chains : Chains TrackKept := ⟨TrackKept.trans, fun h => h.trackKept⟩

/-- A change of the track that leaves the records in order and the window open or closed. -/
theorem onTrack_trackKept {f : Track → Track} {s : State}
    (hl : Lined s.gate s.points s.track.records → Lined s.gate s.points (f s.track).records)
    (hw : (f s.track).windowEnd.isSome = s.track.windowEnd.isSome) : TrackKept s (s.onTrack f) :=
  have hf := State.onTrack_frame f s
  ⟨fun hs => hf.trackInv_of_lined hl hs, fun hs => hf.holdInv hf.gating hw hs⟩

theorem answer_ite_trackKept {s : State} {c : Prop} [Decidable c] {a b : Answer} (ha : TrackKept s a.state)
    (hb : TrackKept s b.state) : TrackKept s (if c then a else b).state := answer_ite_of ha fun _ => hb

end Sys2Proof.Machine
end

section
/-! What the track, the outputs and the stations keep of the order of the track and of the hold. -/

namespace Sys2Proof.Machine

-- One proof after the other: each waiting thread would hold its own stack.
set_option Elab.async false

/-! ### Fills (R98 to R102) -/

theorem clampFill_trackKept (fill arrival : Int) (s : State) : TrackKept s (clampFill fill arrival s).2 := by
  unfold clampFill
  split
  · exact onTrack_trackKept (f := fun t => { t with future := satInc t.future }) id rfl
  · exact trackKept_chains.refl s

theorem escapedFill_trackKept (i : Fin 32) (r : FillResult) (s : State) : TrackKept s (escapedFill i r s) := by
  unfold escapedFill
  split
  · exact onTrack_trackKept id rfl
  · exact (onTrack_trackKept (f := fun t => { t with escaped := satInc t.escaped }) id rfl).trans
      (postStation_frame _ i _).trackKept

theorem forceWindow_trackKept (e : Int) (s : State) : TrackKept s (forceWindow e s) := by
  unfold forceWindow
  split
  next w hw => exact onTrack_trackKept id (by rw [hw]; rfl)
  · refine .trans ⟨fun hs => ?_, fun hs => ?_⟩ (postAll_frame _ _).trackKept
    · exact (holdBegins_frame _).trackInv ((State.onTrack_frame _ s).trackInv_of_lined id hs)
    · exact hs.of_window (w := true) rfl rfl fun o => holdBegins_gating _ o

theorem fullFill_trackKept (i : Fin 32) (r : FillResult) (fill : Int) (s : State) :
    TrackKept s (fullFill i r fill s) := by
  unfold fullFill
  split
  · exact onTrack_trackKept id rfl
  · exact ((forceWindow_trackKept _ s).trans
      (onTrack_trackKept (f := fun t => { t with full := satInc t.full }) id rfl)).trans
      (postStation_frame _ i _).trackKept

theorem newRecord_timed (s : State) (i : Fin 32) (n : Nat) (r : FillResult) (fill arrival : Int) :
    (s.newRecord i n r fill arrival).timed s.gate s.points :=
  ⟨rfl, fun k => by rw [State.newRecord, Tbl.get_map]; exact ⟨rfl, rfl⟩⟩

/-- The record of a fill has an entry that is MISSING from the first (R102). -/
def TrackRecord.late (r : TrackRecord) : Bool := r.entries.xs.any PointEntry.isMissing

/-- Record `r` in its place in the track, and counted where it is late (R102). -/
def Track.joined (r : TrackRecord) (t : Track) : Track :=
  { t with
    records := insertRecord r t.records, nextSeq := t.nextSeq + 1
    lateFill := if r.late then satInc t.lateFill else t.lateFill }

theorem makeRecord_eq (i : Fin 32) (n : Nat) (r : FillResult) (fill arrival : Int) (s : State) :
    makeRecord i n r fill arrival s =
      if (s.newRecord i n r fill arrival).late then
        postStation (noticeLateFill i) i (s.onTrack (Track.joined (s.newRecord i n r fill arrival)))
      else s.onTrack (Track.joined (s.newRecord i n r fill arrival)) := rfl

theorem makeRecord_trackKept (i : Fin 32) (n : Nat) (r : FillResult) (fill arrival : Int) {s : State}
    (h : s.track.records.length < 256) : TrackKept s (makeRecord i n r fill arrival s) := by
  have hmade : TrackKept s (s.onTrack (Track.joined (s.newRecord i n r fill arrival))) :=
    onTrack_trackKept (fun hl => hl.insert (newRecord_timed s i n r fill arrival) h) rfl
  rw [makeRecord_eq]
  split
  · exact hmade.trans (postStation_frame _ i _).trackKept
  · exact hmade

theorem placeFill_trackKept (i : Fin 32) (n : Nat) (r : FillResult) (fill arrival : Int) (s : State) :
    TrackKept s (placeFill i n r fill arrival s) := by
  unfold placeFill
  split
  · exact escapedFill_trackKept i r s
  split
  · exact fullFill_trackKept i r fill s
  next hroom => exact makeRecord_trackKept i n r fill arrival (Nat.lt_of_not_le hroom)

theorem takeFill_trackKept (i : Fin 32) (head result : Byte) (sec : BitVec 48) (ns : BitVec 32) (arrival : Int)
    (s : State) : TrackKept s (takeFill i head result sec ns arrival s) := by
  have hpost := fun w => (postAll_frame (noticeMessageError i.1 w) s).trackKept
  unfold takeFill
  split
  · exact trackKept_chains.refl s
  split
  · exact hpost _
  split
  · exact hpost _
  split
  · split
    · exact hpost _
    · exact (clampFill_trackKept _ _ s).trans (placeFill_trackKept ..)
  · exact hpost _

/-! ### Entries, verdicts and departures (R104, R107, R119, R124) -/

theorem setEntry_trackKept (seq : BitVec 16) (k : Fin 4) (st : EntryState) (s : State) :
    TrackKept s (setEntry seq k st s) := by
  refine onTrack_trackKept (fun hl => hl.map (d := 0) fun r => ?_) rfl
  split
  · refine ⟨(Int.add_zero _).symm, (Int.add_zero _).symm, fun i => ?_, fun i => ?_⟩ <;>
    · rw [Tbl.get_upd, Int.add_zero]
      split
      next hi => rw [hi]
      · rfl
  · exact ⟨(Int.add_zero _).symm, (Int.add_zero _).symm, fun _ => (Int.add_zero _).symm, fun _ => (Int.add_zero _).symm⟩

theorem takeVerdict_trackKept (i : Fin 32) (v d : Byte) (sec : BitVec 48) (ns : BitVec 32) (s : State) :
    TrackKept s (takeVerdict i v d sec ns s) := by
  have hpost := fun w => (postAll_frame (noticeMessageError i.1 w) s).trackKept
  have hstray := fun n u => (postStation_frame n i u).trackKept
  unfold takeVerdict
  split
  · exact hpost _
  split
  · split
    · exact hpost _
    unfold matchVerdict
    split
    · exact setEntry_trackKept ..
    · exact hstray _ s
    · split
      · exact (setEntry_trackKept ..).trans (hstray _ _)
      · exact trackKept_chains.refl s
    · exact hstray _ s
    · exact hstray _ s
  · exact hpost _

theorem depart_trackKept {r : TrackRecord} {rest : List TrackRecord} {s : State}
    (h : s.track.records = r :: rest) : TrackKept s (depart r rest s) := by
  have hleft : TrackKept s (s.onTrack fun t =>
      { countDisposition (s.judge r) t with records := rest, lastDeparture := some (r.departure (s.judge r)) }) :=
    onTrack_trackKept (fun hl => Lined.tail (r := r) (by rwa [h] at hl)) rfl
  unfold depart
  dsimp only
  split
  · exact hleft.trans ((askGate_frame _).trackKept_of_gating (askGate_gating _))
  · exact hleft

theorem execTriggerDeadlineExpiry_trackKept {seq : BitVec 16} {k : Fin 4} {s t : State}
    (h : execTriggerDeadlineExpiry seq k s = .next t) : TrackKept s t := by
  unfold execTriggerDeadlineExpiry at h
  split at h
  · exact Host.Outcome.next.inj h ▸ trackKept_chains.ite _ ((setEntry_trackKept ..).trans
      ((askTrigger_frame _ _).trackKept_of_gating (askTrigger_gating _ _)))
  · exact Host.Outcome.next.inj h ▸ trackKept_chains.refl s

theorem execVerdictDeadlineExpiry_trackKept {seq : BitVec 16} {k : Fin 4} {s t : State}
    (h : execVerdictDeadlineExpiry seq k s = .next t) : TrackKept s t := by
  unfold execVerdictDeadlineExpiry at h
  split at h
  · exact Host.Outcome.next.inj h ▸ trackKept_chains.ite _ (setEntry_trackKept ..)
  · exact Host.Outcome.next.inj h ▸ trackKept_chains.refl s

theorem execGateDeadlineExpiry_trackKept {s t : State} (h : execGateDeadlineExpiry s = .next t) : TrackKept s t := by
  unfold execGateDeadlineExpiry at h
  split at h
  next hrecords => exact Host.Outcome.next.inj h ▸ trackKept_chains.ite _ (depart_trackKept hrecords)
  · exact Host.Outcome.next.inj h ▸ trackKept_chains.refl s

theorem execWindowEndExpiry_trackKept {s t : State} (h : execWindowEndExpiry s = .next t) : TrackKept s t := by
  refine Host.Outcome.next.inj h ▸
    trackKept_chains.ite _ (.trans ⟨fun hs => ?_, fun hs => ?_⟩ (postAll_frame _ _).trackKept)
  · exact (holdEnds_frame _).trackInv ((State.onTrack_frame _ s).trackInv_of_lined id hs)
  · exact hs.of_window (w := false) rfl rfl fun o => holdEnds_gating _ o

/-! ### Outputs (R136, R137, R139, R141) -/

theorem execPulseEndExpiry_trackKept {o : Fin 8} {s t : State} (h : execPulseEndExpiry o s = .next t) :
    TrackKept s t :=
  Host.Outcome.next.inj h ▸
    trackKept_chains.ite _ ((State.onOutput_frame o _ s).trackKept_of_gating (onOutput_gating rfl))

theorem execFeedInstant_trackKept {o : Fin 8} {s t : State} (h : execFeedInstant o s = .next t) : TrackKept s t := by
  unfold execFeedInstant at h
  dsimp only at h
  split at h
  · exact Host.Outcome.next.inj h ▸ trackKept_chains.ite _ ((State.onOutput_frame o _ s).trackKept_of_gating
      (onOutput_gating (Output.takeInstant_gating ..)))
  · exact Host.Outcome.next.inj h ▸ trackKept_chains.refl s

/-- What OUTPUT-SET makes of the mode and the hold: on a change of mode, the hold that R133 gives. -/
theorem Output.configure_gating (c : OutputSettings) (now : Int) (w : Bool) (x : Output) :
    (x.configure c now w).gating = (c.mode, if x.mode = c.mode then x.hold else (c.mode == .gate && w)) := by
  unfold Output.configure
  split
  · rfl
  next heq =>
    have heq := not_not.1 heq
    rw [if_pos heq]
    split <;> exact Prod.ext heq rfl

theorem otherGate_iff {s : State} {o : Fin 8} :
    s.otherGate o = true ↔ ∃ j, j ≠ o ∧ (s.outputs.get j).mode = .gate := by
  rw [State.otherGate, any_numbers]
  simp only [Bool.and_eq_true, bne_iff_ne, beq_iff_eq]

theorem configure_holdInv {o : Fin 8} {c : OutputSettings} {s : State}
    (hn : ¬ (c.mode = .gate ∧ s.otherGate o = true)) (h : HoldInv s) :
    HoldInv (s.onOutput o (·.configure c s.now s.outWindow)) := by
  obtain ⟨hwindow, hheld, hone⟩ := h
  have hget (j : Fin 8) : (s.onOutput o (·.configure c s.now s.outWindow)).gating j =
      if j = o then (c.mode, c.mode == .gate && s.outWindow) else s.gating j := by
    rw [State.gating, State.onOutput_outputs, Tbl.get_upd]
    by_cases hj : j = o
    · rw [if_pos hj, if_pos hj, Output.configure_gating]
      split
      next hm => rw [hheld o, hm]
      · rfl
    · rw [if_neg hj, if_neg hj]
      rfl
  have hfirst (j : Fin 8) (hj : j ≠ o) (hm : (s.outputs.get j).mode = .gate) : c.mode ≠ .gate := fun hc =>
    hn ⟨hc, otherGate_iff.2 ⟨j, hj, hm⟩⟩
  refine (holdInv_iff _).2 ⟨hwindow, fun j => ?_, fun j j' hj hj' => ?_⟩
  · rw [hget]
    split
    · rfl
    · exact hheld j
  · rw [hget] at hj hj'
    split at hj <;> split at hj'
    next h1 h2 => exact h1.trans h2.symm
    next h1 h2 => exact absurd hj (hfirst j' h2 hj')
    next h1 h2 => exact absurd hj' (hfirst j h1 hj)
    next h1 h2 => exact hone j j' hj hj'

theorem ownOutputSet_trackKept (a b c : Byte) (w : BitVec 32) (p e r : Byte) (s : State) :
    TrackKept s (ownOutputSet a b c w p e r s).state := by
  unfold ownOutputSet
  split
  · refine answer_ite_trackKept (trackKept_chains.refl s)
      (answer_ite_of (trackKept_chains.refl s) fun hn => ?_)
    exact ⟨fun hs => (State.onOutput_frame _ _ s).trackInv hs, configure_holdInv hn⟩
  · exact trackKept_chains.refl s

/-! ### Points and the gate (R111, R112) -/

/-- A change of the distances while the track is empty. -/
theorem SameBut.trackKept_of_empty {ps : List Part} {s t : State} (h : SameBut ps s t) (he : s.track.records = [])
    (h1 : Part.track ∉ ps := by decide) (h4 : Part.outWindow ∉ ps := by decide)
    (h5 : Part.outputs ∉ ps := by decide) : TrackKept s t where
  track _ := by
    rw [trackInv_iff, h.track h1, he]
    exact .nil _ _
  hold hs := h.holdInv (h.gating h5) (by rw [h.track h1]) hs h4

theorem ownPointSet_trackKept (a b c d e : Byte) (t h v : BitVec 32) (s : State) :
    TrackKept s (ownPointSet a b c d e t h v s).state := by
  have hr := trackKept_chains.refl s
  unfold ownPointSet
  split
  · refine answer_ite_of hr fun hempty => ?_
    exact answer_ite_trackKept hr <| answer_ite_trackKept hr <| answer_ite_trackKept hr <| answer_ite_trackKept hr <|
      (points_frame _ s).trackKept_of_empty (not_not.1 hempty)
  · exact hr

theorem ownGateSet_trackKept (a : Byte) (d h w : BitVec 32) (s : State) :
    TrackKept s (ownGateSet a d h w s).state := by
  have hr := trackKept_chains.refl s
  unfold ownGateSet
  split
  · exact hr
  · refine answer_ite_of hr fun hempty => ?_
    exact answer_ite_trackKept hr <| answer_ite_trackKept hr <|
      (gate_frame _ s).trackKept_of_empty (not_not.1 (not_or.1 hempty).1)

theorem ownTrackReport_trackKept (l : Link) (z : Byte) (s : State) : TrackKept s (ownTrackReport l z s).state := by
  have hr := trackKept_chains.refl s
  unfold ownTrackReport
  split
  · exact hr
  · exact answer_ite_trackKept (onTrack_trackKept id rfl) hr
  · exact hr

/-! ### Stations, grants and ports (R29, R32, R33, R76, R151, R159) -/

theorem leaveNeeds_trackKept (i : Fin 32) (s : State) : TrackKept s (leaveNeeds i s) :=
  (leaveNeeds_frame i s).trackKept_of_gating (leaveNeeds_gating i s)

theorem moveStation_trackKept (i : Fin 32) (st : StationState) (s : State) : TrackKept s (moveStation i st s) := by
  refine (turnStation_frame_narrow (i := i) (st := st) (b := s.coveredAt .observe (s.stationPort i))).trackKept.trans ?_
  unfold moveStation changeStation tellOfState
  split
  · exact (serviceEntered_frame _ _).trackKept
  · exact leaveNeeds_trackKept i _
  · exact trackKept_chains.refl _

theorem portLinkChanged_trackKept (p : Fin 24) (up : Bool) (s : State) : TrackKept s (portLinkChanged p up s) := by
  have hr := trackKept_chains.refl s
  unfold portLinkChanged
  split
  · exact hr
  split
  · exact hr
  · exact moveStation_trackKept ..
  · exact moveStation_trackKept ..
  · exact hr

theorem allAbsent_trackKept (s : State) : TrackKept s (allAbsent s) := by
  refine trackKept_chains.forEach (fun i u => ?_) _ s
  split
  · exact trackKept_chains.refl u
  · exact trackKept_chains.refl u
  · exact moveStation_trackKept i _ u

theorem configure_trackKept (i : Fin 32) (r : Role) (p : Fin 24) (n : Nat) (s : State) :
    TrackKept s (configure i r p n s) := by
  have hwritten := fun f => (State.onStation_frame i f s).trackKept.trans
    (postStation_frame (noticeConfigured i) i _).trackKept
  unfold configure
  split
  · exact (hwritten _).trans (emitOrder_frame i _ _).trackKept
  split
  · exact hwritten _
  · exact (((hwritten _).trans (emitOrder_frame i _ _).trackKept).trans (clearStationField_frame i _ _).trackKept).trans
      (trackKept_chains.ite _ (leaveNeeds_trackKept i _))

theorem remove_trackKept (i : Fin 32) (s : State) : TrackKept s (remove i s) :=
  (((postStation_frame _ i s).trackKept.trans (State.onStation_frame i _ _).trackKept).trans
    (clearStationField_frame i none _).trackKept).trans (leaveNeeds_trackKept i _)

theorem moveWindow_trackKept (a : GrantAsk) (x y : StationState) (s : State) : TrackKept s (moveWindow a x y s) :=
  trackKept_chains.forEach (fun _ _ => turnStation_frame_narrow.trackKept) _ s

theorem withdraw_trackKept (a : GrantAsk) (s : State) : TrackKept s (withdraw a s) :=
  (trackKept_chains.ite (a.level = .intervene) (moveWindow_trackKept a _ _ s)).trans
    (trackKept_chains.ite _ (closeEnded_frame a _).trackKept)

theorem endGrant_trackKept (k : Fin 4) (why : EndReason) (s : State) : TrackKept s (endGrant k why s) := by
  have hslot := (State.onSlot_frame k (·.release why) s).trackKept
  unfold endGrant
  dsimp only
  refine .trans ?_ (postAll_frame _ _).trackKept
  split
  · exact hslot.trans (withdraw_trackKept _ _)
  · exact hslot

theorem concur_trackKept (k : Fin 4) (a : GrantAsk) (s : State) : TrackKept s (concur k a s) :=
  ((State.onSlot_frame k _ s).trackKept.trans (trackKept_chains.ite _
    ((moveWindow_trackKept a _ _ _).trans (serviceEntered_frame _ _).trackKept))).trans (postAll_frame _ _).trackKept

theorem linkChange_trackKept (p : Fin 24) (up : Bool) (s : State) : TrackKept s (linkChange p up s) := by
  have hmoved := ((State.onPort_frame p (fun x => { x with up := up }) s).trackKept.trans
    (postAt_frame (noticePortLink p up) (some p) _).trackKept).trans (portLinkChanged_trackKept p up _)
  unfold linkChange
  dsimp only
  split
  · exact hmoved
  · exact hmoved.trans (portWentDown_frame p _).trackKept

theorem takePortState_trackKept (p : Fin 24) (u z w : Bool) (s : State) :
    TrackKept s (takePortState p u z w s) := by
  have hlinked : TrackKept s ((if (s.ports.get p).up = u then s else linkChange p u s).onPort p fun x =>
      { x with paused := z, high := w }) := by
    refine .trans ?_ (State.onPort_frame p _ _).trackKept
    split
    · exact trackKept_chains.refl s
    · exact linkChange_trackKept p u s
  exact hlinked.trans (trackKept_chains.ite _ (watermarkHigh_frame p _).trackKept)

theorem linkLost_trackKept (s : State) : TrackKept s (linkLost s) :=
  (((((State.onFabric_frame _ s).trackKept.trans (voidStore_frame _).trackKept).trans
    (drainAll_frame _).trackKept).trans (markPorts_frame _).trackKept).trans (allAbsent_trackKept _)).trans
    (postAll_frame _ _).trackKept

end Sys2Proof.Machine
end

section
/-! What every step keeps of the track and the hold. -/

namespace Sys2Proof.Machine

-- One proof after the other: each waiting thread would hold its own stack.
set_option Elab.async false

/-! ### Steps of MT and resets (R18, R116, R131, R143) -/

theorem TrackRecord.shift_moved (d : Int) (r : TrackRecord) : r.Moved d (r.shift d) :=
  ⟨rfl, rfl, fun i => by rw [TrackRecord.shift, Tbl.get_map]; rfl, fun i => by rw [TrackRecord.shift, Tbl.get_map]; rfl⟩

theorem shiftDeadlines_trackKept (d : Int) (s : State) : TrackKept s (shiftDeadlines d s) where
  track := (shiftDeadlines_frame d s).trackInv_of_lined fun hl => hl.map (TrackRecord.shift_moved d)
  hold := (shiftDeadlines_frame d s).holdInv
    (mapOutputs_gating (f := (·.shift d (shiftStore d s).now)) rfl fun _ => rfl) Option.isSome_map

theorem stepTime_trackKept (src : TimedSource) (o : Int) (s : State) : TrackKept s (stepTime src o s) :=
  ((State.onTime_frame _ s).trackKept.trans (shiftDeadlines_trackKept _ _)).trans (postAll_frame _ _).trackKept

theorem sample_trackKept (src : TimedSource) (o : Int) (ms : Nat) (mt : Int) (s : State) :
    TrackKept s (sample src o ms mt s) := by
  unfold sample
  dsimp only
  split
  · exact (recordOffset_frame _ _ _ s).trackKept.trans (stepTime_trackKept ..)
  · exact ((recordOffset_frame _ _ _ s).trackKept.trans (State.onTime_frame _ _).trackKept).trans
      (lockStage_frame _ _).trackKept

theorem takeSync_trackKept (q : Byte) (sec : BitVec 48) (ns : BitVec 32) (x : Stamp) (s : State) :
    TrackKept s (takeSync q sec ns x s) := by
  have harrived := fun b d => (State.onTime_frame (fun t => { t with lastSeq := some q }) s).trackKept.trans
    (arrival_frame .grandmaster b d x _).trackKept
  unfold takeSync
  dsimp only
  split
  · exact (postAll_frame _ s).trackKept
  split
  · exact (postAll_frame _ s).trackKept
  split
  · exact (harrived _ _).trans (sample_trackKept ..)
  · exact harrived _ _

theorem execPulseEdge_trackKept {e : PulseEdge} {x : Option Stamp} {s t : State}
    (h : execPulseEdge e s x = .next t) : TrackKept s t := by
  unfold execPulseEdge at h
  dsimp only at h
  split at h
  · exact Host.Outcome.next.inj h ▸ trackKept_chains.refl s
  split at h
  · exact Host.Outcome.next.inj h ▸ (State.onTime_frame _ s).trackKept
  · exact Host.Outcome.next.inj h ▸ (arrival_frame .hallPulse _ _ _ s).trackKept.trans
      (trackKept_chains.ite _ ((State.onTime_frame _ _).trackKept.trans (sample_trackKept ..)))

/-- A warm reset empties the track, and holds the output in GATE mode for the window it opens (R116, R131, R144). -/
theorem warmTrack_trackKept (s : State) : TrackKept s (warmTrack s) where
  track _ := (trackInv_iff _).2 (.nil _ _)
  hold hs := by
    refine hs.of_window (w := true) rfl rfl fun o => ?_
    have hgating : State.gating { s with track := s.track.warm s.warmWindow, outputs := s.outputs.map (·.warm s.now) } =
        s.gating := mapOutputs_gating rfl fun _ => rfl
    rw [warmTrack, holdBegins_gating, hgating]

theorem warm_trackKept (n : Notice) (s : State) : TrackKept s (warm n s) :=
  (((((((warmFabric_frame s).trackKept.trans (warmStations_frame _).trackKept).trans
    (warmStreams_frame _).trackKept).trans (warmPorts_frame _).trackKept).trans (warmTrack_trackKept _)).trans
    (warmGrants_frame _).trackKept).trans (idleSlots_frame _).trackKept).trans
    ((clearLinks_frame _).trackKept.trans (postAll_frame n _).trackKept)

/-! ### Requests -/

theorem ownStationSet_trackKept (a b c d : Byte) (s : State) : TrackKept s (ownStationSet a b c d s).state := by
  have hr := trackKept_chains.refl s
  unfold ownStationSet
  split
  · exact answer_ite_trackKept hr <| answer_ite_trackKept hr <| answer_ite_trackKept hr <| answer_ite_trackKept hr <|
      answer_ite_trackKept hr (configure_trackKept ..)
  · exact hr

theorem ownStationRemove_trackKept (a : Byte) (s : State) : TrackKept s (ownStationRemove a s).state := by
  have hr := trackKept_chains.refl s
  unfold ownStationRemove
  split
  · exact hr
  split
  · exact answer_ite_trackKept hr (remove_trackKept _ s)
  · exact answer_ite_trackKept hr (remove_trackKept _ s)
  · exact hr

theorem ownStationRun_trackKept (a : Byte) (s : State) : TrackKept s (ownStationRun a s).state := by
  unfold ownStationRun
  split
  · exact trackKept_chains.refl s
  · exact answer_ite_trackKept (moveStation_trackKept _ .run s) (trackKept_chains.refl s)

theorem ownStationHold_trackKept (a : Byte) (s : State) : TrackKept s (ownStationHold a s).state := by
  have hr := trackKept_chains.refl s
  unfold ownStationHold
  split
  · exact hr
  split
  · exact moveStation_trackKept _ .held s
  · exact hr
  · exact hr
  · exact hr

theorem ownGrantConcur_trackKept (a : Byte) (n : BitVec 16) (s : State) :
    TrackKept s (ownGrantConcur a n s).state := by
  have hr := trackKept_chains.refl s
  unfold ownGrantConcur
  split
  · exact hr
  dsimp only
  split
  · exact answer_ite_trackKept hr (concur_trackKept ..)
  · exact hr

theorem ownGrantDecline_trackKept (a : Byte) (n : BitVec 16) (s : State) :
    TrackKept s (ownGrantDecline a n s).state := by
  unfold ownGrantDecline
  split
  · exact trackKept_chains.refl s
  · exact answer_ite_trackKept (endGrant_trackKept ..) (trackKept_chains.refl s)

theorem ownGrantRelease_trackKept (a : Byte) (n : BitVec 16) (s : State) :
    TrackKept s (ownGrantRelease a n s).state := by
  unfold ownGrantRelease
  split
  · exact trackKept_chains.refl s
  · exact answer_ite_trackKept (trackKept_chains.refl s) (endGrant_trackKept ..)

theorem ownGrantRevoke_trackKept (a : Byte) (n : BitVec 16) (s : State) :
    TrackKept s (ownGrantRevoke a n s).state := by
  unfold ownGrantRevoke
  split
  · exact trackKept_chains.refl s
  · exact answer_ite_trackKept (trackKept_chains.refl s) (endGrant_trackKept ..)

theorem owner_trackKept (r : Request) (l : Link) (s : State) : TrackKept s (owner r l s).state := by
  cases r
  case stationSet => exact ownStationSet_trackKept ..
  case stationRemove => exact ownStationRemove_trackKept ..
  case stationRun => exact ownStationRun_trackKept ..
  case stationHold => exact ownStationHold_trackKept ..
  case pointSet => exact ownPointSet_trackKept ..
  case gateSet => exact ownGateSet_trackKept ..
  case trackReport => exact ownTrackReport_trackKept ..
  case outputSet => exact ownOutputSet_trackKept ..
  case grantConcur => exact ownGrantConcur_trackKept ..
  case grantDecline => exact ownGrantDecline_trackKept ..
  case grantRelease => exact ownGrantRelease_trackKept ..
  case grantRevoke => exact ownGrantRevoke_trackKept ..
  case partReset => exact warm_trackKept _ s
  all_goals
    exact (owner_frame _ l s).trackKept (by dsimp only [ownerParts]; decide) (by dsimp only [ownerParts]; decide)
      (by dsimp only [ownerParts]; decide) (by dsimp only [ownerParts]; decide) (by dsimp only [ownerParts]; decide)

/-! ### Messages, commands and steps -/

theorem fromStation_trackKept (p : Fin 24) (k : Byte) {own : Fin 32 → State → State}
    (ho : ∀ i u, TrackKept u (own i u)) (s : State) : TrackKept s (fromStation p k own s) := by
  unfold fromStation
  split
  · exact ho _ s
  · exact (rejectCell_frame p _ s).trackKept

theorem takeNeed_trackKept (i : Fin 32) (o w : Byte) (s : State) : TrackKept s (takeNeed i o w s) :=
  (takeNeed_frame i o w s).trackKept_of_gating (takeNeed_gating i o w s)

theorem takeCell_trackKept (p : Fin 24) (k : Byte) (c : Cell) (x : Stamp) (s : State) :
    TrackKept s (takeCell p k c x s) := by
  have hreject := fun w => (rejectCell_frame p w s).trackKept
  cases c
  case badKind => exact hreject _
  case badLength => exact hreject _
  case sync =>
    dsimp only [takeCell]
    split
    · exact takeSync_trackKept ..
    · exact hreject _
  case fillDone => exact fromStation_trackKept p k (fun i u => takeFill_trackKept i _ _ _ _ _ u) s
  case verdict => exact fromStation_trackKept p k (fun i u => takeVerdict_trackKept i _ _ _ _ u) s
  case backoff => exact fromStation_trackKept p k (fun _ u => (takeBackoff_frame p _ _ u).trackKept) s
  case need => exact fromStation_trackKept p k (fun i u => takeNeed_trackKept i _ _ u) s

theorem takeInbound_trackKept (k : Byte) (m : Except Malformed Inbound) (s : State) :
    TrackKept s (takeInbound k m s) := by
  unfold takeInbound
  split
  · exact trackKept_chains.refl s
  cases m with
  | error why => exact (malformed_frame _ _ s).trackKept
  | ok m =>
    cases m with
    | enqueue => exact (takeEnqueue_frame _ _ _ s).trackKept
    | sent => exact (takeSent_frame _ _ s).trackKept
    | portState => exact takePortState_trackKept ..
    | cellIn => exact takeCell_trackKept ..

theorem exec_trackKept {c : Instr} {s t : State} (h : exec c s = .next t) : TrackKept s t := by
  cases hr : c.asRequest with
  | some x =>
    obtain ⟨l, tag, r⟩ := x
    rw [exec_request hr] at h
    exact Host.Outcome.next.inj h ▸ trackKept_chains.request (owner_trackKept r l) l tag r s
  | none =>
    have hframe := exec_frame hr h
    cases c
    case powerOnReset => exact Host.Outcome.next.inj h ▸ ⟨fun _ => reset_trackInv, fun _ => reset_holdInv⟩
    case warmReset => exact Host.Outcome.next.inj h ▸ warm_trackKept _ s
    case pulseEdge => exact execPulseEdge_trackKept h
    case replyPlaced l => exact Host.Outcome.next.inj h ▸ trackKept_chains.replyPlaced owner_trackKept l s
    case alignmentLossExpiry => exact Host.Outcome.next.inj h ▸ trackKept_chains.ite _ (linkLost_trackKept s)
    case restartSignal => exact Host.Outcome.next.inj h ▸ trackKept_chains.ite _ (linkLost_trackKept s)
    case askTimeoutExpiry k => exact Host.Outcome.next.inj h ▸ trackKept_chains.ite _ (endGrant_trackKept k _ s)
    case expiryMtExpiry k => exact Host.Outcome.next.inj h ▸ trackKept_chains.ite _ (endGrant_trackKept k _ s)
    case triggerDeadlineExpiry => exact execTriggerDeadlineExpiry_trackKept h
    case verdictDeadlineExpiry => exact execVerdictDeadlineExpiry_trackKept h
    case gateDeadlineExpiry => exact execGateDeadlineExpiry_trackKept h
    case windowEndExpiry => exact execWindowEndExpiry_trackKept h
    case pulseEndExpiry => exact execPulseEndExpiry_trackKept h
    case feedInstant => exact execFeedInstant_trackKept h
    case malformedMessage | enqueue | sent | portState | cellIn | sync | fillDone | verdict | backoff | need =>
      exact Host.Outcome.next.inj h ▸ takeInbound_trackKept ..
    case mtAdvance | write | read | trainingComplete | outboundMessageSent | faultDeadlineExpiry |
        holdoverDeadlineExpiry | stalenessDeadlineExpiry | pacingQueueExpiry | release | sentOverdueExpiry |
        warningTimeExpiry | lossOfAlignment | alignmentRegained =>
      dsimp only [execParts] at hframe
      exact hframe.trackKept
    all_goals cases hr

/-- Settles O58: the track changes by a record put in its place, the departure of its head, the state of an entry or one
step of all its times; the distances change on an empty track alone; and each change of the window or of a mode sets the
hold with it. -/
theorem everyStepKeepsTheTrack : Obligations.EveryStepKeepsTheTrack := by
  unfold Obligations.EveryStepKeepsTheTrack
  intro s t h
  unfold step at h
  split at h
  next rest _ =>
    have hkept := exec_trackKept (s := s.withQueue rest) h
    exact ⟨hkept.track, hkept.hold⟩
  · exact Host.Outcome.next.inj h ▸ ⟨id, id⟩

end Sys2Proof.Machine
end

section
/-! POINT-SET and GATE-SET: how their fields are read, and their checks; and the counters that TRACK-REPORT zeroes. -/

namespace Sys2Proof.Machine

-- One proof after the other: each waiting thread would hold its own stack.
set_option Elab.async false

/-! ### How the fields are read (R93, R94, section 11.2) -/

theorem boolByte_lt (w : Bool) : (boolByte w).toNat < 2 := by cases w <;> decide

theorem numberByte_cases {n : Nat} (hn : n ≤ 256) (x : Option (Fin n)) :
    numberByte x = 0xFF ∨ (numberByte x).toNat < n := by
  cases x with
  | none => exact .inl rfl
  | some k =>
    refine .inr ?_
    rw [numberByte, BitVec.toNat_ofNat]
    omega

/-- R93: the times of a point lie within their ranges. -/
def Point.ranged (y : Point) : Prop :=
  1 ≤ y.travelUs ∧ y.travelUs ≤ 60000000 ∧ 10 ≤ y.halfWindowUs ∧ y.halfWindowUs ≤ 100000 ∧
  1000 ≤ y.allowanceUs ∧ y.allowanceUs ≤ 10000000

theorem readPoint_eq_some {e r m o : Byte} {tr h v : BitVec 32} {y : Point} :
    readPoint e r m o tr h v = some y ↔
      y.ranged ∧ e = boolByte y.enabled ∧ r = boolByte y.required ∧ m.toNat = y.camera.1 ∧ o = numberByte y.output ∧
      tr.toNat = y.travelUs ∧ h.toNat = y.halfWindowUs ∧ v.toNat = y.allowanceUs := by
  simp only [readPoint, Option.bind_eq_bind, Option.bind_eq_some_iff, Option.pure_def, Option.some.injEq, yesNo_eq_some,
    number_eq_some, numberOrNone_eq_some (n := 8) (by decide), inRange_eq_some]
  constructor
  · rintro ⟨w, hw, q, hq, c, hc, x, hx, t, ⟨ht, ht1, ht2⟩, d, ⟨hd, hd1, hd2⟩, a, ⟨ha, ha1, ha2⟩, rfl⟩
    exact ⟨⟨ht1, ht2, hd1, hd2, ha1, ha2⟩, hw, hq, hc, hx, ht, hd, ha⟩
  · rintro ⟨⟨ht1, ht2, hd1, hd2, ha1, ha2⟩, hw, hq, hc, hx, ht, hd, ha⟩
    exact ⟨_, hw, _, hq, _, hc, _, hx, _, ⟨ht, ht1, ht2⟩, _, ⟨hd, hd1, hd2⟩, _, ⟨ha, ha1, ha2⟩, rfl⟩

/-- R94: the times of the gate lie within their ranges. -/
def Gate.ranged (y : Gate) : Prop :=
  1 ≤ y.delayUs ∧ y.delayUs ≤ 60000000 ∧ 100 ≤ y.halfWindowUs ∧ y.halfWindowUs ≤ 1000000 ∧
  1 ≤ y.widthUs ∧ y.widthUs ≤ 100000

theorem readGate_eq_some {o : Byte} {d h w : BitVec 32} {y : Gate} :
    readGate o d h w = some y ↔
      y.ranged ∧ o = numberByte y.output ∧ d.toNat = y.delayUs ∧ h.toNat = y.halfWindowUs ∧ w.toNat = y.widthUs := by
  simp only [readGate, Option.bind_eq_bind, Option.bind_eq_some_iff, Option.pure_def, Option.some.injEq,
    numberOrNone_eq_some (n := 8) (by decide), inRange_eq_some]
  constructor
  · rintro ⟨x, hx, t, ⟨ht, ht1, ht2⟩, a, ⟨ha, ha1, ha2⟩, p, ⟨hp, hp1, hp2⟩, rfl⟩
    exact ⟨⟨ht1, ht2, ha1, ha2, hp1, hp2⟩, hx, ht, ha, hp⟩
  · rintro ⟨⟨ht1, ht2, ha1, ha2, hp1, hp2⟩, hx, ht, ha, hp⟩
    exact ⟨_, hx, _, ⟨ht, ht1, ht2⟩, _, ⟨ha, ha1, ha2⟩, _, ⟨hp, hp1, hp2⟩, rfl⟩

/-! ### The checks (R111, R112) -/

/-- What a POINT-SET whose fields lie in their ranges is answered with: the checks of R111 from the second on. -/
def State.pointStatus (s : State) (k : Fin 4) (y : Point) : Status :=
  if s.track.records ≠ [] then .refusedState
  else if y.enabled = true ∧ (s.stations.get y.camera).conf.map (·.role) ≠ some .camera then .refusedRange
  else if y.enabled = true ∧ s.pointClash k y = true then .refusedConflict
  else if y.enabled = true ∧ s.wrongMode .trigger y.output = true then .refusedConflict
  else if y.enabled = true ∧ s.gate.delayUs ≤ y.travelUs + y.allowanceUs then .refusedRange
  else .done

/-- What a GATE-SET whose fields lie in their ranges is answered with: the checks of R112 from the second on. -/
def State.gateStatus (s : State) (y : Gate) : Status :=
  if s.track.records ≠ [] ∨ s.track.windowEnd.isSome = true then .refusedState
  else if s.wrongMode .gate y.output = true then .refusedConflict
  else if s.points.xs.any (fun pt => pt.enabled && decide (y.delayUs ≤ pt.travelUs + pt.allowanceUs)) = true then
    .refusedRange
  else .done

theorem held_pointStatus (l : Link) (tag : Byte) (q : Request) (s : State) :
    (held l tag q s).pointStatus = s.pointStatus := by cases l <;> rfl

theorem held_gateStatus (l : Link) (tag : Byte) (q : Request) (s : State) :
    (held l tag q s).gateStatus = s.gateStatus := by cases l <;> rfl

theorem pointClash_iff {s : State} {k : Fin 4} {y : Point} :
    s.pointClash k y = true ↔ ∃ j, j ≠ k ∧ (s.points.get j).enabled = true ∧
      ((s.points.get j).camera = y.camera ∨ y.output ≠ none ∧ (s.points.get j).output = y.output) := by
  rw [State.pointClash, any_numbers]
  simp only [Bool.and_eq_true, Bool.or_eq_true, bne_iff_ne, beq_iff_eq, Option.isSome_iff_ne_none, and_assoc]

theorem wrongMode_iff {s : State} {m : OutputMode} {o : Option (Fin 8)} :
    s.wrongMode m o = true ↔ ∃ k, o = some k ∧ (s.outputs.get k).mode ≠ m := by
  cases o <;> simp [State.wrongMode]

theorem pointStatus_disabled {s : State} {k : Fin 4} {y : Point} (h : y.enabled = false) :
    s.pointStatus k y = if s.track.records ≠ [] then .refusedState else .done := by
  simp [State.pointStatus, h]

theorem pointStatus_enabled {s : State} {k : Fin 4} {y : Point} (h : y.enabled = true) :
    s.pointStatus k y =
      if s.track.records ≠ [] then .refusedState
      else if (s.stations.get y.camera).conf.map (·.role) ≠ some .camera then .refusedRange
      else if s.pointClash k y = true then .refusedConflict
      else if s.wrongMode .trigger y.output = true then .refusedConflict
      else if s.gate.delayUs ≤ y.travelUs + y.allowanceUs then .refusedRange
      else .done := by
  simp only [State.pointStatus, h, true_and]

section owners
variable {a e r m o : Byte} {tr h v d w : BitVec 32}

theorem ownPointSet_eq {k : Fin 4} {y : Point} (ha : number 4 a = some k) (hy : readPoint e r m o tr h v = some y)
    (s : State) : ownPointSet a e r m o tr h v s =
      if s.pointStatus k y = .done then done [] { s with points := s.points.set k y }
      else refuse (s.pointStatus k y) s := by
  rw [ownPointSet, ha, hy]
  exact refuse_or (by decide) <| refuse_or (by decide) <| refuse_or (by decide) <| refuse_or (by decide) <|
    refuse_or (by decide) rfl

theorem ownPointSet_range
    (hr : 4 ≤ a.toNat ∨ 2 ≤ e.toNat ∨ 2 ≤ r.toNat ∨ 32 ≤ m.toNat ∨ 8 ≤ o.toNat ∧ o ≠ 0xFF ∨ tr = 0 ∨
      60000000 < tr.toNat ∨ h.toNat < 10 ∨ 100000 < h.toNat ∨ v.toNat < 1000 ∨ 10000000 < v.toNat) (s : State) :
    ownPointSet a e r m o tr h v s = refuse .refusedRange s := by
  unfold ownPointSet
  split
  next k y hk hy =>
    obtain ⟨⟨ht1, ht2, hd1, hd2, ha1, ha2⟩, rfl, rfl, hm, rfl, ht, hd, hv⟩ := readPoint_eq_some.1 hy
    have ha := number_eq_some.1 hk
    have he := boolByte_lt y.enabled
    have hq := boolByte_lt y.required
    have hzero : tr = 0 ↔ tr.toNat = 0 := BitVec.toNat_eq
    have ho := numberByte_cases (by decide) y.output
    have hbad : ¬ (8 ≤ (numberByte y.output).toNat ∧ numberByte y.output ≠ 0xFF) := fun ⟨h8, hne⟩ =>
      ho.elim hne (Nat.not_lt.2 h8)
    simp only [hbad, false_or, hzero] at hr
    omega
  · rfl

theorem ownGateSet_eq {y : Gate} (hy : readGate o d h w = some y) (s : State) :
    ownGateSet o d h w s =
      if s.gateStatus y = .done then done [] { s with gate := y } else refuse (s.gateStatus y) s := by
  rw [ownGateSet, hy]
  exact refuse_or (by decide) <| refuse_or (by decide) <| refuse_or (by decide) rfl

theorem ownGateSet_range
    (hr : 8 ≤ o.toNat ∧ o ≠ 0xFF ∨ d = 0 ∨ 60000000 < d.toNat ∨ h.toNat < 100 ∨ 1000000 < h.toNat ∨ w = 0 ∨
      100000 < w.toNat) (s : State) : ownGateSet o d h w s = refuse .refusedRange s := by
  unfold ownGateSet
  split
  · rfl
  next y hy =>
    obtain ⟨⟨ht1, ht2, hd1, hd2, hw1, hw2⟩, rfl, ht, hd, hw⟩ := readGate_eq_some.1 hy
    have hzero : d = 0 ↔ d.toNat = 0 := BitVec.toNat_eq
    have hnone : w = 0 ↔ w.toNat = 0 := BitVec.toNat_eq
    have ho := numberByte_cases (by decide) y.output
    have hbad : ¬ (8 ≤ (numberByte y.output).toNat ∧ numberByte y.output ≠ 0xFF) := fun ⟨h8, hne⟩ =>
      ho.elim hne (Nat.not_lt.2 h8)
    simp only [hbad, false_or, hzero, hnone] at hr
    omega

end owners

/-! ### The requests -/

section requests
variable {tag : Byte} {s : State} (hw : (s.link .lc).slot.working = false)
include hw

theorem pointSet_completes {a e r m o : Byte} {tr h v : BitVec 32} {k : Fin 4} {y : Point} (ha : number 4 a = some k)
    (hy : readPoint e r m o tr h v = some y) :
    let q : Request := .pointSet a e r m o tr h v
    let c : Instr := .pointSet .lc tag a e r m o tr h v
    (s.pointStatus k y ≠ .done → OnlyReplies c .lc tag q (s.pointStatus k y) [] s) ∧
    (s.pointStatus k y = .done → Completes c s fun t =>
      Replied .lc tag q .done [] [] s t ∧ SameBut [.points, .link .lc] s t ∧ OthersSame k s.points t.points ∧
        t.points.get k = y) := by
  intro q c
  have ht : Taken .lc q s := ⟨hw, rfl⟩
  have hown := ownPointSet_eq ha hy (held .lc tag q s)
  rw [held_pointStatus] at hown
  refine ⟨fun hn => request_onlyReplies rfl ht rfl (hown.trans (if_neg hn)), fun hd => ?_⟩
  obtain ⟨t, hx, hreply, hframe, hrest⟩ :=
    request_sets (c := c) rfl ht rfl (hown.trans (if_pos hd)) (points_frame _ _) (by simp)
  refine ⟨t, hx, hreply, hframe, fun j hj => ?_, ?_⟩ <;> rw [hrest.points]
  · exact (Tbl.get_set_of_ne _ _ hj).trans (by rw [held_points])
  · exact Tbl.get_set_self ..

theorem gateSet_completes {o : Byte} {d h w : BitVec 32} {y : Gate} (hy : readGate o d h w = some y) :
    let q : Request := .gateSet o d h w
    let c : Instr := .gateSet .lc tag o d h w
    (s.gateStatus y ≠ .done → OnlyReplies c .lc tag q (s.gateStatus y) [] s) ∧
    (s.gateStatus y = .done → Completes c s fun t =>
      Replied .lc tag q .done [] [] s t ∧ SameBut [.gate, .link .lc] s t ∧ t.gate = y) := by
  intro q c
  have ht : Taken .lc q s := ⟨hw, rfl⟩
  have hown := ownGateSet_eq hy (held .lc tag q s)
  rw [held_gateStatus] at hown
  refine ⟨fun hn => request_onlyReplies rfl ht rfl (hown.trans (if_neg hn)), fun hd => ?_⟩
  obtain ⟨t, hx, hreply, hframe, hrest⟩ :=
    request_sets (c := c) rfl ht rfl (hown.trans (if_pos hd)) (gate_frame _ _) (by simp)
  exact ⟨t, hx, hreply, hframe, hrest.gate⟩

/-- A TRACK-REPORT with zero YES on the LC link (R113). -/
theorem trackReport_zeroes : Completes (.trackReport .lc tag 1) s fun t =>
    Replied .lc tag (.trackReport 1) .done (trackReport s) [] s t ∧ SameBut [.track, .link .lc] s t ∧
    t.track = zeroCounters s.track := by
  have hown : ownTrackReport .lc 1 (held .lc tag (.trackReport 1) s) =
      done (trackReport s) ((held .lc tag (.trackReport 1) s).onTrack zeroCounters) := rfl
  obtain ⟨t, hx, hreply, hframe, hrest⟩ :=
    request_sets (c := .trackReport .lc tag 1) rfl ⟨hw, rfl⟩ rfl hown (State.onTrack_frame _ _) (by simp)
  exact ⟨t, hx, hreply, hframe, hrest.track⟩

end requests

/-- Settles O34: a point that is not enabled passes the checks that read other records, and each request replaces its
one record or leaves all. -/
theorem trackRequestsSetTheirRecords : Obligations.TrackRequestsSetTheirRecords := by
  unfold Obligations.TrackRequestsSetTheirRecords
  intro l tag s hw
  refine ⟨fun k y hl h1 h2 h3 h4 h5 h6 => ?_, fun a e r m o tr h v hl hbad => ?_, fun y hl h1 h2 h3 h4 h5 h6 => ?_,
    fun o d h w hl hbad => ?_, fun hl => ?_, fun hl => ?_, fun z hz => ?_⟩
  · intro q c answer
    subst hl
    have hanswer : answer = s.pointStatus k y := by
      cases he : y.enabled with
      | false => exact (if_congr Iff.rfl rfl (if_pos he)).trans (pointStatus_disabled he).symm
      | true =>
        refine .trans (if_congr Iff.rfl rfl (if_neg (by rw [he]; decide))) (.trans ?_ (pointStatus_enabled he).symm)
        exact if_congr Iff.rfl rfl <| if_congr Iff.rfl rfl <| if_congr pointClash_iff.symm rfl <|
          if_congr wrongMode_iff.symm rfl rfl
    have hread : readPoint (boolByte y.enabled) (boolByte y.required) (BitVec.ofNat 8 y.camera.1) (numberByte y.output)
        (BitVec.ofNat 32 y.travelUs) (BitVec.ofNat 32 y.halfWindowUs) (BitVec.ofNat 32 y.allowanceUs) = some y := by
      refine readPoint_eq_some.2 ⟨⟨h1, h2, h3, h4, h5, h6⟩, rfl, rfl, ?_, rfl, ?_, ?_, ?_⟩ <;>
        rw [BitVec.toNat_ofNat] <;> omega
    rw [hanswer]
    exact pointSet_completes hw (number_ofNat (by decide) k) hread
  · subst hl
    exact request_onlyReplies rfl ⟨hw, rfl⟩ rfl (ownPointSet_range hbad _)
  · intro q c answer
    subst hl
    have hwindow : s.track.windowEnd ≠ none ↔ s.track.windowEnd.isSome = true := Option.isSome_iff_ne_none.symm
    have hslow : (∃ j, (s.points.get j).enabled = true ∧
        y.delayUs ≤ (s.points.get j).travelUs + (s.points.get j).allowanceUs) ↔
        s.points.xs.any (fun pt => pt.enabled && decide (y.delayUs ≤ pt.travelUs + pt.allowanceUs)) = true := by
      rw [Tbl.any_xs]
      simp only [Bool.and_eq_true, decide_eq_true_eq]
    have hanswer : answer = s.gateStatus y :=
      if_congr (or_congr_right hwindow) rfl <| if_congr wrongMode_iff.symm rfl <| if_congr hslow rfl rfl
    have hread : readGate (numberByte y.output) (BitVec.ofNat 32 y.delayUs) (BitVec.ofNat 32 y.halfWindowUs)
        (BitVec.ofNat 32 y.widthUs) = some y := by
      refine readGate_eq_some.2 ⟨⟨h1, h2, h3, h4, h5, h6⟩, rfl, ?_, ?_, ?_⟩ <;> rw [BitVec.toNat_ofNat] <;> omega
    rw [hanswer]
    exact gateSet_completes hw hread
  · subst hl
    exact request_onlyReplies rfl ⟨hw, rfl⟩ rfl (ownGateSet_range hbad _)
  · subst hl
    exact trackReport_zeroes hw
  · exact request_onlyReplies (own := ownTrackReport l 1) rfl ⟨hw, rfl⟩ rfl (if_neg hl)
  · have hown (u : State) : ownTrackReport l z u = refuse .refusedRange u := by
      rw [ownTrackReport, yesNo_eq_none hz]
    exact request_onlyReplies rfl ⟨hw, rfl⟩ rfl (hown _)

end Sys2Proof.Machine
end

section
/-! The deadlines of the entries of a record, and the pulses that the Track Unit asks. -/

namespace Sys2Proof.Machine

-- One proof after the other: each waiting thread would hold its own stack.
set_option Elab.async false

/-! ### Pulses that are asked (R104, R107, R129, R138) -/

theorem usToNs_eq (us : Nat) : usToNs us = (us : Int) * 1000 := by
  rw [usToNs, Int.natCast_mul]
  rfl

theorem Output.ask_eq_asked (fin : Int) (x : Output) : x.ask fin = asked fin x := by
  unfold Output.ask asked
  cases x.pulseEnd <;> rfl

/-- A pulse asked of the one output of `named`, where it is in mode `m`. -/
theorem onOutput_asked {named : Option (Fin 8)} {k : Fin 8} {m : OutputMode} {fin : Output → Int} {s : State}
    (hk : named = some k) (o : Fin 8) :
    (s.onOutput k fun x => if x.mode = m then x.ask (fin x) else x).outputs.get o =
      if named = some o ∧ (s.outputs.get o).mode = m then asked (fin (s.outputs.get o)) (s.outputs.get o)
      else s.outputs.get o := by
  rw [State.onOutput_outputs, Tbl.get_upd, hk]
  by_cases ho : o = k
  · subst ho
    rw [if_pos rfl, Output.ask_eq_asked]
    exact if_congr (by simp) rfl rfl
  · rw [if_neg ho, if_neg fun h => ho (Option.some.inj h.1).symm]

theorem askTrigger_output (named : Option (Fin 8)) (s : State) (o : Fin 8) :
    (askTrigger named s).outputs.get o =
      if named = some o ∧ (s.outputs.get o).mode = .trigger then
        asked (s.now + (s.outputs.get o).widthUs * 1000) (s.outputs.get o)
      else s.outputs.get o := by
  cases named with
  | none => exact (if_neg fun h => nomatch h.1).symm
  | some k =>
    rw [← usToNs_eq]
    exact onOutput_asked (fin := fun x => s.now + usToNs x.widthUs) rfl o

theorem askGate_output (s : State) (o : Fin 8) :
    (askGate s).outputs.get o =
      if s.gate.output = some o ∧ (s.outputs.get o).mode = .gate then
        asked (s.now + s.gate.widthUs * 1000) (s.outputs.get o)
      else s.outputs.get o := by
  rw [← usToNs_eq]
  unfold askGate
  split
  next hnone => exact (if_neg fun h => by rw [hnone] at h; cases h.1).symm
  next k hk => exact onOutput_asked (fin := fun _ => s.now + usToNs s.gate.widthUs) hk o

/-! ### The record that carries a number (R95) -/

theorem recordOf_mem {s : State} {seq : BitVec 16} {r : TrackRecord} (h : s.recordOf seq = some r) :
    r ∈ s.track.records ∧ r.seq = seq :=
  ⟨List.mem_of_find?_eq_some h, eq_of_beq (List.find?_some (p := fun x : TrackRecord => x.seq == seq) h)⟩

theorem recordOf_of_mem {s : State} {seq : BitVec 16} {r : TrackRecord} (hu : seqsUnique s) (hr : r ∈ s.track.records)
    (hs : r.seq = seq) : s.recordOf seq = some r := by
  have hsome : (s.recordOf seq).isSome = true := List.find?_isSome.2 ⟨r, hr, beq_iff_eq.2 hs⟩
  obtain ⟨q, hq⟩ := Option.isSome_iff_exists.1 hsome
  obtain ⟨hmem, hseq⟩ := recordOf_mem hq
  rw [hq, List.inj_on_of_nodup_map hu hmem hr (hseq.trans hs.symm)]

theorem setEntry_entrySet (seq : BitVec 16) (k : Fin 4) (st : EntryState) (s : State) :
    entrySet seq k st s (setEntry seq k st s) := rfl

theorem Point.named_eq_some {pt : Point} {o : Fin 8} : pt.named = some o ↔ pt.enabled = true ∧ pt.output = some o := by
  unfold Point.named
  split
  next he => exact (and_iff_right he).symm
  next he => exact ⟨nofun, fun h => absurd h.1 he⟩

/-! ### The two expiries (R104, R124) -/

section expiries
variable {seq : BitVec 16} {k : Fin 4} {s : State} {r : TrackRecord}

theorem exec_trigger_due (hr : s.recordOf seq = some r) (hst : (r.entries.get k).state = .waiting)
    (ht : (r.entries.get k).trigger ≤ s.now) :
    exec (.triggerDeadlineExpiry seq k) s =
      .next (askTrigger (s.points.get k).named (setEntry seq k (s.triggered k) s)) := by
  show execTriggerDeadlineExpiry seq k s = _
  rw [execTriggerDeadlineExpiry, hr]
  exact congrArg _ (if_pos ⟨hst, ht⟩)

theorem exec_trigger_idle
    (h : ∀ r ∈ s.track.records, r.seq = seq → (r.entries.get k).state = .waiting → s.now < (r.entries.get k).trigger) :
    exec (.triggerDeadlineExpiry seq k) s = .next s := by
  show execTriggerDeadlineExpiry seq k s = _
  unfold execTriggerDeadlineExpiry
  split
  next r hr =>
    obtain ⟨hmem, hseq⟩ := recordOf_mem hr
    exact congrArg _ (if_neg fun hdue => absurd hdue.2 (Int.not_le.2 (h r hmem hseq hdue.1)))
  · rfl

theorem exec_verdict_due (hr : s.recordOf seq = some r) (hst : (r.entries.get k).state = .expected)
    (ht : (r.entries.get k).verdictBy ≤ s.now) :
    exec (.verdictDeadlineExpiry seq k) s = .next (setEntry seq k .missing s) := by
  show execVerdictDeadlineExpiry seq k s = _
  rw [execVerdictDeadlineExpiry, hr]
  exact congrArg _ (if_pos ⟨hst, ht⟩)

theorem exec_verdict_idle
    (h : ∀ r ∈ s.track.records, r.seq = seq → (r.entries.get k).state = .expected →
      s.now < (r.entries.get k).verdictBy) :
    exec (.verdictDeadlineExpiry seq k) s = .next s := by
  show execVerdictDeadlineExpiry seq k s = _
  unfold execVerdictDeadlineExpiry
  split
  next r hr =>
    obtain ⟨hmem, hseq⟩ := recordOf_mem hr
    exact congrArg _ (if_neg fun hdue => absurd hdue.2 (Int.not_le.2 (h r hmem hseq hdue.1)))
  · rfl

end expiries

/-- Settles O36: numbers being unique, the record that carries the number is the one whose entry is judged and set; the
pulse is asked beside it. -/
theorem entryDeadlinesExpire : Obligations.EntryDeadlinesExpire := by
  unfold Obligations.EntryDeadlinesExpire
  intro seq k s hu pt st
  refine ⟨fun r hr hseq hst ht => ?_, fun h => ⟨s, exec_trigger_idle h, rfl⟩, fun r hr hseq hst ht => ?_,
    fun h => ⟨s, exec_verdict_idle h, rfl⟩⟩
  · have hask := askTrigger_frame pt.named (setEntry seq k st s)
    refine ⟨_, exec_trigger_due (recordOf_of_mem hu hr hseq) hst ht, ?_, ?_, fun o => ?_⟩
    · exact ((setEntry_frame seq k st s).mono (by decide)).trans (hask.mono (by decide))
    · exact hask.track.trans (setEntry_entrySet seq k st s)
    · exact (askTrigger_output pt.named (setEntry seq k st s) o).trans
        (if_congr (by rw [Point.named_eq_some, and_assoc]; rfl) rfl rfl)
  · exact ⟨_, exec_verdict_due (recordOf_of_mem hu hr hseq) hst ht, setEntry_frame _ _ _ s, setEntry_entrySet _ _ _ s⟩

end Sys2Proof.Machine
end

section
/-! The departure of the head record, and the end of the forced-reject window. -/

namespace Sys2Proof.Machine

-- One proof after the other: each waiting thread would hold its own stack.
set_option Elab.async false

/-! ### The disposition (R106) -/

theorem TrackRecord.settled_iff {r : TrackRecord} :
    r.settled = true ↔ ∀ k, (r.entries.get k).state ≠ .waiting ∧ (r.entries.get k).state ≠ .expected := by
  simp only [TrackRecord.settled, List.all_eq_true, Tbl.mem_xs, forall_exists_index, forall_apply_eq_imp_iff,
    Bool.and_eq_true, bne_iff_ne]

theorem requiredEntry_iff {s : State} {r : TrackRecord} {f : EntryState → Bool} :
    s.requiredEntry r f = true ↔ ∃ k, (s.points.get k).required = true ∧ f (r.entries.get k).state = true := by
  rw [State.requiredEntry, any_numbers]
  simp only [Bool.and_eq_true]

theorem FillResult.bad_iff {r : FillResult} (h : r ≠ .noContainer) : r ≠ .ok ↔ r = .short ∨ r = .over := by
  cases r <;> simp_all

theorem Disposition.rejects_iff {d : Disposition} : d.rejects = true ↔ d ≠ .pass ∧ d ≠ .skip := by
  cases d <;> decide

/-- R106, read as what holds of the record and of the points. -/
theorem judge_eq (s : State) (r : TrackRecord) [Decidable (∃ k, (r.entries.get k).state = .service)]
    [Decidable (∃ k, (s.points.get k).required = true ∧ (r.entries.get k).state.isFail = true)]
    [Decidable (∃ k, (s.points.get k).required = true ∧ (r.entries.get k).state = .missing)] :
    s.judge r =
      if r.result = .noContainer then .skip
      else if r.result ≠ .ok then .rejectFill
      else if r.running = false ∨ ∃ k, (r.entries.get k).state = .service then .rejectStation
      else if ∃ k, (s.points.get k).required = true ∧ (r.entries.get k).state.isFail = true then .rejectFail
      else if ∃ k, (s.points.get k).required = true ∧ (r.entries.get k).state = .missing then .rejectMissing
      else if s.track.windowEnd ≠ none then .rejectUntracked
      else .pass := by
  have hservice : r.entries.xs.any (·.state == .service) = true ↔ ∃ k, (r.entries.get k).state = .service := by
    simp only [Tbl.any_xs, beq_iff_eq]
  have hmissing : s.requiredEntry r (· == .missing) = true ↔
      ∃ k, (s.points.get k).required = true ∧ (r.entries.get k).state = .missing := by
    simp only [requiredEntry_iff, beq_iff_eq]
  unfold State.judge
  by_cases hempty : r.result = .noContainer
  · rw [if_pos hempty, if_pos hempty]
  · rw [if_neg hempty, if_neg hempty]
    exact if_congr (FillResult.bad_iff hempty).symm rfl <| if_congr (or_congr_right hservice) rfl <|
      if_congr requiredEntry_iff rfl <| if_congr hmissing rfl <| if_congr Option.isSome_iff_ne_none rfl rfl

/-! ### The departure (R107) -/

theorem exec_gate_due {s : State} {r : TrackRecord} {rest : List TrackRecord} (h : s.track.records = r :: rest)
    (ht : r.gateTime ≤ s.now) (hs : r.settled = true) : exec .gateDeadlineExpiry s = .next (depart r rest s) := by
  show execGateDeadlineExpiry s = _
  rw [execGateDeadlineExpiry, h]
  exact congrArg _ (if_pos ⟨ht, hs⟩)

theorem exec_gate_idle {s : State}
    (h : ∀ r rest, s.track.records = r :: rest → ¬ (r.gateTime ≤ s.now ∧ r.settled = true)) :
    exec .gateDeadlineExpiry s = .next s := by
  show execGateDeadlineExpiry s = _
  unfold execGateDeadlineExpiry
  split
  next r rest hrecords => exact congrArg _ (if_neg (h r rest hrecords))
  · rfl

theorem depart_track (r : TrackRecord) (rest : List TrackRecord) (s : State) :
    (depart r rest s).track =
      { disposed (s.judge r) s.track with
        records := rest, lastDeparture := some (r.departure (s.judge r)) } := by
  unfold depart
  dsimp only
  split
  · rw [(askGate_frame _).track]
    rfl
  · rfl

theorem depart_output (r : TrackRecord) (rest : List TrackRecord) (s : State) (o : Fin 8) :
    (depart r rest s).outputs.get o =
      if s.judge r ≠ .pass ∧ s.judge r ≠ .skip ∧ s.gate.output = some o ∧ (s.outputs.get o).mode = .gate then
        asked (s.now + s.gate.widthUs * 1000) (s.outputs.get o)
      else s.outputs.get o := by
  unfold depart
  dsimp only
  split
  next hd =>
    obtain ⟨hpass, hskip⟩ := Disposition.rejects_iff.1 hd
    rw [askGate_output]
    exact if_congr (by simp only [ne_eq, hpass, hskip, not_false_eq_true, true_and]; rfl) rfl rfl
  next hd => exact (if_neg fun h => hd (Disposition.rejects_iff.2 ⟨h.1, h.2.1⟩)).symm

/-! ### The end of the window (R110, R132) -/

/-- The state in which GATE-FORCED is posted with CLOSED. -/
def State.windowClosed (s : State) : State := holdEnds (s.onTrack fun t => { t with windowEnd := none })

theorem windowClosed_frame (s : State) : SameBut [.track, .outputs, .outWindow] s s.windowClosed :=
  ((State.onTrack_frame _ s).mono (by decide)).trans ((holdEnds_frame _).mono (by decide))

theorem windowClosed_output (s : State) (o : Fin 8) :
    s.windowClosed.outputs.get o =
      { s.outputs.get o with hold := (s.outputs.get o).hold && (s.outputs.get o).mode != .gate } := by
  show (s.outputs.map _).get o = _
  rw [Tbl.get_map]
  split
  next hm =>
    have hoff : ((s.outputs.get o).hold && (s.outputs.get o).mode != .gate) = false := by
      rw [hm]
      exact Bool.and_false _
    rw [hoff]
  next hm => rw [bne_iff_ne.2 hm, Bool.and_true]

theorem exec_windowEnd_due {s : State} {e : Int} (h : s.track.windowEnd = some e) (ht : e ≤ s.now) :
    exec .windowEndExpiry s = .next (postAll (noticeGateForced s.occupancy false) s.windowClosed) := by
  show execWindowEndExpiry s = _
  rw [execWindowEndExpiry, h]
  exact congrArg _ (if_pos (decide_eq_true ht))

theorem exec_windowEnd_idle {s : State} (h : ∀ e, s.track.windowEnd = some e → s.now < e) :
    exec .windowEndExpiry s = .next s := by
  have hidle : ¬ reached s.track.windowEnd s.now = true := by
    cases he : s.track.windowEnd with
    | none => exact Bool.false_ne_true
    | some e => exact fun hr => absurd (of_decide_eq_true hr) (Int.not_le.2 (h e he))
  exact congrArg _ (if_neg hidle)

/-- Settles O37: the disposition of R106 in its order, the pulse of a REJECT beside the departure, and the window closed
with the hold. -/
theorem gateExpiryAndWindowEnd : Obligations.GateExpiryAndWindowEnd := by
  unfold Obligations.GateExpiryAndWindowEnd
  refine ⟨fun s => ⟨fun r rest hrecords ht hentries => ?_, fun h => ?_⟩, fun s => ⟨fun e he ht => ?_, fun h => ?_⟩⟩
  · intro required d
    have hd : d = s.judge r := (judge_eq s r).symm
    refine ⟨_, exec_gate_due hrecords ht (TrackRecord.settled_iff.2 hentries), depart_frame r rest s, ?_, fun o => ?_⟩
    · rw [hd]
      exact depart_track r rest s
    · rw [hd]
      exact depart_output r rest s o
  · refine ⟨s, exec_gate_idle fun r rest hrecords ⟨ht, hs⟩ => ?_, rfl⟩
    obtain hearly | ⟨k, hk⟩ := h r rest hrecords
    · exact Int.not_le.2 hearly ht
    · obtain ⟨hwaiting, hexpected⟩ := TrackRecord.settled_iff.1 hs k
      exact hk.elim hwaiting hexpected
  · have hclosed := windowClosed_frame s
    have hpost := postAll_frame (noticeGateForced s.occupancy false) s.windowClosed
    refine ⟨_, exec_windowEnd_due he ht, ?_, rfl, rfl, windowClosed_output s, ?_⟩
    · exact (hclosed.mono (by decide)).trans (hpost.mono (by decide))
    · exact (hclosed.hears s.now (by simp)).trans (postAll_hears _ s.windowClosed)
  · exact ⟨s, exec_windowEnd_idle h, rfl⟩

end Sys2Proof.Machine
end

section
/-! FILL-DONE: its checks, the clamp of its stamp, and the three things that can become of a container. -/

namespace Sys2Proof.Machine

-- One proof after the other: each waiting thread would hold its own stack.
set_option Elab.async false

/-! ### The way of a FILL-DONE to the Track Unit (R170 to R172) -/

theorem exec_fillDone {b code station head result : Byte} {sec : BitVec 48} {ns : BitVec 32} {began : Option Stamp}
    {p : Fin 24} {i : Fin 32} {s : State} (hu : s.fabric.up = true) (hb : b.toNat = p.1) (hi : s.stationOn p = some i)
    (hst : station.toNat = i.1) :
    exec (.fillDone b code station head result sec ns began) s =
      .next (takeFill i head result sec ns (s.stampOf began).mt s) := by
  have hsender : s.sender p station = some i := by
    rw [State.sender, hi]
    exact if_pos hst
  show Host.Outcome.next (takeInbound 4 (readCellIn b station (.fillDone head result sec ns) (s.stampOf began)) s) = _
  rw [readCellIn, number_eq_some.2 hb, takeInbound, if_neg (by rw [hu]; decide)]
  show Host.Outcome.next (fromStation p station (fun k => takeFill k head result sec ns (s.stampOf began).mt) s) = _
  rw [fromStation, hsender]

/-! ### The checks (R98) and the clamp (R99) -/

theorem fillResultOf_code (r : FillResult) : fillResultOf r.code = some r := by cases r <;> rfl

theorem FillResult.code_lt (r : FillResult) : r.code.toNat < 4 := by cases r <;> decide

theorem fillResultOf_eq_some {b : Byte} {r : FillResult} (h : fillResultOf b = some r) : r.code = b := by
  unfold fillResultOf at h
  repeat' split at h
  all_goals cases h
  all_goals exact Eq.symm ‹_›

theorem exists_code {b : Byte} (h : b.toNat < 4) : ∃ r : FillResult, r.code = b := by
  have hb : b = 0 ∨ b = 1 ∨ b = 2 ∨ b = 3 := by bv_omega
  obtain rfl | rfl | rfl | rfl := hb
  exacts [⟨.ok, rfl⟩, ⟨.short, rfl⟩, ⟨.over, rfl⟩, ⟨.noContainer, rfl⟩]

/-- The track with a fill stamp that is ahead of its arrival counted (R99). -/
def Track.clamped (stamp arrival : Int) (t : Track) : Track :=
  { t with future := if arrival < stamp then satInc t.future else t.future }

theorem clampFill_eq (stamp arrival : Int) (s : State) :
    clampFill stamp arrival s = (min stamp arrival, s.onTrack (Track.clamped stamp arrival)) := by
  unfold clampFill Track.clamped
  split
  next h => rw [min_eq_right (Int.le_of_lt h)]
  next h => rw [min_eq_left (Int.not_lt.1 h)]; rfl

section checks
variable {i : Fin 32} {head result : Byte} {sec : BitVec 48} {ns : BitVec 32} {arrival : Int} {x : StationConf}
  {s : State} (hc : (s.stations.get i).conf = some x)
include hc

theorem takeFill_role (hr : x.role ≠ .filler) :
    takeFill i head result sec ns arrival s = postAll (noticeMessageError i.1 .role) s := by
  rw [takeFill, hc]
  exact if_pos hr

theorem takeFill_head (hr : x.role = .filler) (hh : head = 0 ∨ x.heads < head.toNat) :
    takeFill i head result sec ns arrival s = postAll (noticeMessageError i.1 .head) s := by
  rw [takeFill, hc]
  exact (if_neg (not_not.2 hr)).trans (if_pos hh)

theorem takeFill_range (hr : x.role = .filler) (hh : ¬ (head = 0 ∨ x.heads < head.toNat))
    (hbad : 4 ≤ result.toNat ∨ 999999999 < ns.toNat) :
    takeFill i head result sec ns arrival s = postAll (noticeMessageError i.1 .range) s := by
  rw [takeFill, hc]
  refine (if_neg (not_not.2 hr)).trans ((if_neg hh).trans ?_)
  split
  next r hcode =>
    have hlt : result.toNat < 4 := fillResultOf_eq_some hcode ▸ r.code_lt
    exact if_pos (hbad.resolve_left (Nat.not_le.2 hlt))
  · rfl

theorem takeFill_placed {r : FillResult} (hr : x.role = .filler) (hh : ¬ (head = 0 ∨ x.heads < head.toNat))
    (hcode : r.code = result) (hns : ¬ 999999999 < ns.toNat) :
    takeFill i head result sec ns arrival s =
      placeFill i head.toNat r (min (timeOf sec ns) arrival) arrival
        (s.onTrack (Track.clamped (timeOf sec ns) arrival)) := by
  rw [takeFill, hc]
  refine (if_neg (not_not.2 hr)).trans ((if_neg hh).trans ?_)
  rw [← hcode, fillResultOf_code, clampFill_eq]
  exact if_neg hns

end checks

/-! ### What becomes of the container (R100 to R102) -/

theorem Gate.delay_eq (g : Gate) : g.delay = g.delayUs * 1000 := usToNs_eq _

theorem Gate.halfWindow_eq (g : Gate) : g.halfWindow = g.halfWindowUs * 1000 := usToNs_eq _

section fates
variable {i : Fin 32} {n : Nat} {r : FillResult} {fill arrival : Int} {p : Fin 24} {s : State}

theorem placeFill_skip (hr : r = .noContainer)
    (h : fill + s.gate.delayUs * 1000 ≤ arrival ∨ 256 ≤ s.track.records.length) :
    placeFill i n r fill arrival s = s.onTrack (disposed .skip) := by
  rw [← Gate.delay_eq] at h
  unfold placeFill
  split
  · exact if_pos hr
  next hgone => exact (if_pos (h.resolve_left hgone)).trans (if_pos hr)

theorem placeFill_escaped (hr : r ≠ .noContainer) (h : fill + s.gate.delayUs * 1000 ≤ arrival) :
    placeFill i n r fill arrival s =
      postStation (noticeEscaped i) i (s.onTrack fun t => { t with escaped := satInc t.escaped }) := by
  rw [← Gate.delay_eq] at h
  rw [placeFill, if_pos h]
  exact if_neg hr

theorem placeFill_full (hr : r ≠ .noContainer) (h : ¬ fill + s.gate.delayUs * 1000 ≤ arrival)
    (hfull : 256 ≤ s.track.records.length) :
    placeFill i n r fill arrival s =
      postStation (noticeFull i) i
        ((forceWindow (fill + s.gate.delayUs * 1000 + s.gate.halfWindowUs * 1000) s).onTrack
          fun t => { t with full := satInc t.full }) := by
  rw [← Gate.delay_eq] at h
  rw [placeFill, if_neg h, if_pos hfull, ← Gate.delay_eq, ← Gate.halfWindow_eq]
  exact if_neg hr

theorem placeFill_room (h : ¬ fill + s.gate.delayUs * 1000 ≤ arrival) (hroom : ¬ 256 ≤ s.track.records.length) :
    placeFill i n r fill arrival s = makeRecord i n r fill arrival s := by
  rw [← Gate.delay_eq] at h
  rw [placeFill, if_neg h, if_neg hroom]

/-- A notice of the station on port `p`, posted after a change of other parts than its routing reads. -/
theorem postStation_hears_after {ps : List Part} {t : State} {m : Notice} {ns : List Heard}
    (hp : s.stationPort i = some p) (hf : SameBut ps s t) (hh : Hears ns s.now s t) (h1 : Part.time ∉ ps := by decide)
    (h2 : Part.stations ∉ ps := by decide) (h3 : Part.grants ∉ ps := by decide) :
    Hears (ns ++ [byPort s (some p) m]) s.now s (postStation m i t) := by
  have hpost := postStation_hears m i t
  rw [hf.stationPort h2, hp, hf.byPort h3, hf.now h1] at hpost
  exact hh.trans hpost

/-! ### The forced-reject window (R109, R131) -/

theorem forceWindow_open {w e : Int} (h : s.track.windowEnd = some w) :
    forceWindow e s = s.onTrack fun t => { t with windowEnd := some (max w e) } := by
  rw [forceWindow, h]

theorem forceWindow_opens {e : Int} (h : s.track.windowEnd = none) :
    forceWindow e s = postAll (noticeGateForced s.occupancy true)
      (holdBegins (s.onTrack fun t => { t with windowEnd := some e })) := by
  rw [forceWindow, h]

theorem forceWindow_track (e : Int) (s : State) :
    (forceWindow e s).track =
      { s.track with windowEnd := some (match s.track.windowEnd with | some w => max w e | none => e) } := by
  cases h : s.track.windowEnd with
  | none => rw [forceWindow_opens h]; rfl
  | some w => rw [forceWindow_open h]; rfl

theorem holdBegins_output (s : State) (o : Fin 8) :
    (holdBegins s).outputs.get o =
      { s.outputs.get o with hold := (s.outputs.get o).hold || (s.outputs.get o).mode == .gate } := by
  rw [holdBegins, Tbl.get_map]
  split
  next hm =>
    have hon : ((s.outputs.get o).hold || (s.outputs.get o).mode == .gate) = true := by rw [hm]; exact Bool.or_true _
    rw [hon]
  next hm => rw [beq_false_of_ne hm, Bool.or_false]

theorem forceWindow_extends (e : Int) (h : s.track.windowEnd ≠ none) :
    (forceWindow e s).outputs = s.outputs ∧ (forceWindow e s).outWindow = s.outWindow := by
  obtain ⟨w, hw⟩ := Option.ne_none_iff_exists'.1 h
  rw [forceWindow_open hw]
  exact ⟨rfl, rfl⟩

theorem forceWindow_holds (e : Int) (h : s.track.windowEnd = none) :
    (forceWindow e s).outWindow = true ∧ ∀ o, (forceWindow e s).outputs.get o =
      { s.outputs.get o with hold := (s.outputs.get o).hold || (s.outputs.get o).mode == .gate } := by
  rw [forceWindow_opens h]
  exact ⟨rfl, holdBegins_output _⟩

theorem forceWindow_hears (e : Int) (s : State) :
    Hears (if s.track.windowEnd = none then [toAll (noticeGateForced s.track.records.length true)] else []) s.now s
      (forceWindow e s) := by
  cases h : s.track.windowEnd with
  | none =>
    rw [forceWindow_opens h, if_pos rfl]
    have hbegun := ((State.onTrack_frame (fun t => { t with windowEnd := some e }) s).mono
      (qs := [.track, .outputs, .outWindow]) (by decide)).trans ((holdBegins_frame _).mono (by decide))
    exact (hbegun.hears s.now (by simp)).trans (postAll_hears _ _)
  | some w =>
    rw [forceWindow_open h, if_neg nofun]
    exact (State.onTrack_frame _ s).hears _ (by simp)

/-! ### A record in its place (R102) -/

theorem newRecord_entry (k : Fin 4) :
    (s.newRecord i n r fill arrival).entries.get k =
      { state :=
          if (s.points.get k).enabled = false ∨ r = .noContainer then .notUsed
          else if fill + (s.points.get k).travelUs * 1000 ≤ arrival then .missing
          else .waiting
        trigger := fill + (s.points.get k).travelUs * 1000
        verdictBy := fill + (s.points.get k).travelUs * 1000 + (s.points.get k).allowanceUs * 1000 } := by
  rw [State.newRecord, Tbl.get_map, ← usToNs_eq, ← usToNs_eq]
  rfl

theorem newRecord_running {x : StationConf} (hc : (s.stations.get i).conf = some x) :
    (s.newRecord i n r fill arrival).running = decide (x.state = .run) := by
  show (s.stationState i == some .run) = _
  rw [State.stationState, hc, beq_eq_decide]
  exact decide_eq_decide.2 Option.some_inj

theorem TrackRecord.late_iff {y : TrackRecord} : y.late = true ↔ ∃ k, (y.entries.get k).state = .missing := by
  rw [TrackRecord.late, Tbl.any_xs]
  simp only [PointEntry.isMissing, beq_iff_eq]

theorem makeRecord_track :
    (makeRecord i n r fill arrival s).track = s.track.joined (s.newRecord i n r fill arrival) := by
  rw [makeRecord_eq]
  split <;> rfl

/-- Where the record stands: behind every record that is not later, and before every later one (R95). -/
theorem makeRecord_places (h : s.track.records.Pairwise fun a b => a.fillMt ≤ b.fillMt) :
    ∃ before after, s.track.records = before ++ after ∧ (∀ z ∈ before, z.fillMt ≤ fill) ∧
      (∀ z ∈ after, fill < z.fillMt) ∧ (makeRecord i n r fill arrival s).track = { s.track with
        records := before ++ s.newRecord i n r fill arrival :: after
        nextSeq := s.track.nextSeq + 1
        lateFill := if (s.newRecord i n r fill arrival).late then satInc s.track.lateFill else s.track.lateFill } := by
  obtain ⟨before, after, hsplit, hinsert, hbefore, hafter⟩ := insertRecord_split (s.newRecord i n r fill arrival) h
  refine ⟨before, after, hsplit, hbefore, hafter, ?_⟩
  rw [makeRecord_track, Track.joined, hinsert]

theorem makeRecord_hears (hp : s.stationPort i = some p) :
    Hears (if (s.newRecord i n r fill arrival).late = true then [byPort s (some p) (noticeLateFill i)] else []) s.now s
      (makeRecord i n r fill arrival s) := by
  have hjoined := State.onTrack_frame (Track.joined (s.newRecord i n r fill arrival)) s
  have hquiet := hjoined.hears s.now (by simp)
  rw [makeRecord_eq]
  split
  · exact postStation_hears_after hp hjoined hquiet
  · exact hquiet

end fates

/-- Settles O35: the stamp is clamped and counted on the track alone, and the fill is then judged by its gate time, the
room in the track and its result. -/
theorem fillDoneMakesARecord : Obligations.FillDoneMakesARecord := by
  unfold Obligations.FillDoneMakesARecord
  intro b code station head result sec ns began p i x s ⟨_, hordered, _⟩ hu hb hi hst hc
  rw [State.stampedAt_eq]
  intro c arrival posted badHead badField
  have hexec : exec c s = .next (takeFill i head result sec ns arrival s) := exec_fillDone hu hb hi hst
  have hposts {why : MessageFault}
      (h : takeFill i head result sec ns arrival s = postAll (noticeMessageError i.1 why) s) : posted why :=
    ⟨_, hexec, h ▸ postAll_frame _ s, h ▸ postAll_hears _ s⟩
  refine ⟨fun hr => hposts (takeFill_role hc hr), fun hr hh => hposts (takeFill_head hc hr hh),
    fun hr hh hbad => hposts (takeFill_range hc hr hh hbad), fun hr hh hgood => ?_⟩
  obtain ⟨hresult, hns⟩ := not_or.1 hgood
  obtain ⟨r, hcode⟩ := exists_code (Nat.not_le.1 hresult)
  refine ⟨r, hcode, ?_⟩
  intro stamp fill u gate gone full
  have hplaced : exec c s = .next (placeFill i head.toNat r fill arrival (s.onTrack (Track.clamped stamp arrival))) :=
    hexec.trans (congrArg _ (takeFill_placed hc hr hh hcode hns))
  have hclamped := State.onTrack_frame (Track.clamped stamp arrival) s
  have hquiet := hclamped.hears s.now (by simp)
  have hport := stationPort_of_stationOn hi
  generalize hv : s.onTrack (Track.clamped stamp arrival) = v at hplaced hclamped hquiet
  have hvtrack : v.track = u := hv ▸ rfl
  have hgate : v.gate = s.gate := hclamped.gate
  refine ⟨fun hgone hskip => ?_, fun hgone hcontainer => ?_, fun hgone hfull hcontainer => ?_, fun hgone hroom => ?_⟩
  · rw [placeFill_skip hskip (by rw [hgate, hvtrack]; exact hgone)] at hplaced
    exact ⟨_, hplaced, hclamped.trans (State.onTrack_frame _ v), congrArg (disposed .skip) hvtrack⟩
  · rw [placeFill_escaped hcontainer (by rw [hgate]; exact hgone)] at hplaced
    have hframe := hclamped.trans (State.onTrack_frame (fun t => { t with escaped := satInc t.escaped }) v)
    refine ⟨_, hplaced, (hframe.mono (by decide)).trans ((postStation_frame _ i _).mono (by decide)), ?_, ?_⟩
    · exact congrArg (fun t : Track => { t with escaped := satInc t.escaped }) hvtrack
    · exact postStation_hears_after hport hframe (hframe.hears _ (by simp))
  · rw [placeFill_full hcontainer (by rw [hgate]; exact hgone) (by rw [hvtrack]; exact hfull), hgate] at hplaced
    have hforced := forceWindow_hears (gate + s.gate.halfWindowUs * 1000) v
    rw [hclamped.now, hvtrack] at hforced
    have hcounted := State.onTrack_frame (fun t => { t with full := satInc t.full })
      (forceWindow (gate + s.gate.halfWindowUs * 1000) v)
    have hframe := ((hclamped.mono (qs := trackParts) (by decide)).trans (forceWindow_frame _ v)).trans
      (hcounted.mono (by decide))
    refine ⟨_, hplaced, hframe.trans ((postStation_frame _ i _).mono (by decide)), ?_, fun hopen => ?_, fun hshut => ?_,
      postStation_hears_after hport hframe ?_⟩
    · have htrack := forceWindow_track (gate + s.gate.halfWindowUs * 1000) v
      rw [hvtrack] at htrack
      exact congrArg (fun t : Track => { t with full := satInc t.full }) htrack
    · rw [← hclamped.outputs, ← hclamped.outWindow]
      exact forceWindow_extends _ (by rw [hvtrack]; exact hopen)
    · rw [← hclamped.outputs]
      exact forceWindow_holds _ (by rw [hvtrack]; exact hshut)
    · have hheard := (hquiet.trans hforced).trans (hcounted.hears s.now (by simp))
      rwa [List.append_nil] at hheard
  · rw [placeFill_room (by rw [hgate]; exact hgone) (by rw [hvtrack]; exact hroom)] at hplaced
    refine ⟨_, hplaced, ?_⟩
    beta_reduce
    intro entry late
    have hentry (k : Fin 4) : (v.newRecord i head.toNat r fill arrival).entries.get k = entry k := by
      rw [newRecord_entry, hclamped.points]
    have hlate : (v.newRecord i head.toNat r fill arrival).late = true ↔ late :=
      TrackRecord.late_iff.trans (exists_congr fun k => by rw [hentry])
    have hheard := makeRecord_hears (n := head.toNat) (r := r) (fill := fill) (arrival := arrival)
      ((congrFun hclamped.stationPort i).trans hport)
    rw [hclamped.now, hclamped.byPort] at hheard
    obtain ⟨before, after, hsplit, hbefore, hafter, htrack⟩ :=
      makeRecord_places (i := i) (n := head.toNat) (r := r) (fill := fill) (arrival := arrival) (s := v)
        (by rw [hvtrack]; exact hordered)
    rw [hvtrack] at hsplit htrack
    refine ⟨(hclamped.mono (by decide)).trans (makeRecord_frame _ _ _ _ _ v),
      ⟨before, after, v.newRecord i head.toNat r fill arrival, hsplit, hbefore, hafter, ?_, ?_, rfl, rfl, rfl, rfl, ?_,
        ?_, hentry⟩, ?_⟩
    · exact htrack.trans (congrArg (fun m => { u with
        records := before ++ v.newRecord i head.toNat r fill arrival :: after
        nextSeq := s.track.nextSeq + 1, lateFill := m }) (if_congr hlate rfl rfl))
    · show v.track.nextSeq = s.track.nextSeq
      rw [hvtrack]
    · exact newRecord_running (by rw [hclamped.stations]; exact hc)
    · show fill + v.gate.delay = gate
      rw [hgate, Gate.delay_eq]
    · exact hquiet.trans ((if_congr hlate rfl rfl).subst (motive := fun ns => Hears ns s.now v _) hheard)

end Sys2Proof.Machine
end

section
/-! VERDICT: its point, the class that the track gives it, and what each class does. -/

namespace Sys2Proof.Machine

-- One proof after the other: each waiting thread would hold its own stack.
set_option Elab.async false

/-! ### The way of a VERDICT to the Track Unit (R117, R170 to R172) -/

/-- A CELL-IN in UP whose source port is in its range (R170). -/
theorem takeInbound_readCellIn {b station : Byte} {c : Cell} {began : Stamp} {p : Fin 24} {s : State}
    (hu : s.fabric.up = true) (hb : b.toNat = p.1) :
    takeInbound 4 (readCellIn b station c began) s = takeCell p station c began s := by
  rw [readCellIn, number_eq_some.2 hb, takeInbound, if_neg (by rw [hu]; decide)]
  rfl

theorem fromStation_eq {own : Fin 32 → State → State} {station : Byte} {p : Fin 24} {i : Fin 32} {s : State}
    (hi : s.stationOn p = some i) (hst : station.toNat = i.1) : fromStation p station own s = own i s := by
  have hsender : s.sender p station = some i := by
    rw [State.sender, hi]
    exact if_pos hst
  rw [fromStation, hsender]

theorem exec_verdict {b code station verdict detail : Byte} {sec : BitVec 48} {ns : BitVec 32} {began : Option Stamp}
    {p : Fin 24} {i : Fin 32} {s : State} (hu : s.fabric.up = true) (hb : b.toNat = p.1) (hi : s.stationOn p = some i)
    (hst : station.toNat = i.1) :
    exec (.verdict b code station verdict detail sec ns began) s = .next (takeVerdict i verdict detail sec ns s) :=
  congrArg Host.Outcome.next ((takeInbound_readCellIn hu hb).trans (fromStation_eq hi hst))

/-- Point `k` is enabled and names camera `i`. -/
def State.names (s : State) (i : Fin 32) (k : Fin 4) : Prop :=
  (s.points.get k).enabled = true ∧ (s.points.get k).camera = i

theorem pointOf_eq_none {s : State} {i : Fin 32} (h : ∀ k, ¬ s.names i k) : s.pointOf i = none := by
  refine List.find?_eq_none.2 fun k _ => ?_
  rw [Bool.and_eq_true, beq_iff_eq]
  exact h k

theorem pointOf_eq_some {s : State} {i : Fin 32} {k : Fin 4} (hk : s.names i k) (honly : ∀ j, s.names i j → j = k) :
    s.pointOf i = some k := by
  have hnames (j : Fin 4) : ((s.points.get j).enabled && (s.points.get j).camera == i) = true ↔ s.names i j := by
    rw [Bool.and_eq_true, beq_iff_eq]
    rfl
  unfold State.pointOf
  cases hfind : (numbers 4).find? fun j => (s.points.get j).enabled && (s.points.get j).camera == i with
  | none => exact absurd ((hnames k).2 hk) (List.find?_eq_none.1 hfind k (List.mem_finRange k))
  | some j =>
    have hj := List.find?_some hfind
    rw [honly j ((hnames j).1 hj)]

theorem verdictOf_eq_none {b : Byte} (h : 2 ≤ b.toNat) : verdictOf b = none := by
  unfold verdictOf
  rw [if_neg (by bv_omega), if_neg (by bv_omega)]

theorem verdictOf_of_lt {b : Byte} (h : b.toNat < 2) : verdictOf b = some (decide (b = 0)) := by
  have hb : b = 0 ∨ b = 1 := by bv_omega
  obtain rfl | rfl := hb <;> rfl

section checks
variable {i : Fin 32} {k : Fin 4} {verdict detail : Byte} {sec : BitVec 48} {ns : BitVec 32} {s : State}

theorem takeVerdict_point (hp : s.pointOf i = none) :
    takeVerdict i verdict detail sec ns s = postAll (noticeMessageError i.1 .point) s := by
  rw [takeVerdict, hp]

theorem takeVerdict_range (hp : s.pointOf i = some k) (hbad : 2 ≤ verdict.toNat ∨ 999999999 < ns.toNat) :
    takeVerdict i verdict detail sec ns s = postAll (noticeMessageError i.1 .range) s := by
  rw [takeVerdict, hp]
  by_cases hv : verdict.toNat < 2
  · rw [verdictOf_of_lt hv]
    exact if_pos (hbad.resolve_left (Nat.not_le.2 hv))
  · rw [verdictOf_eq_none (Nat.not_lt.1 hv)]

theorem takeVerdict_eq (hp : s.pointOf i = some k) (hv : verdict.toNat < 2) (hns : ns.toNat ≤ 999999999) :
    takeVerdict i verdict detail sec ns s = matchVerdict i k (timeOf sec ns) (decide (verdict = 0)) detail s := by
  rw [takeVerdict, hp, verdictOf_of_lt hv]
  exact if_neg (Nat.not_lt.2 hns)

end checks

/-! ### The closest record (R119, R121) -/

/-- Of the records `rs`, `r` is the one that `found` holds of and that is nearest by `dist`, the older at equal
distance. -/
def Nearest (dist : TrackRecord → Nat) (found : TrackRecord → Prop) (rs : List TrackRecord) (r : TrackRecord) : Prop :=
  found r ∧ ∃ older younger, rs = older ++ r :: younger ∧ (∀ z ∈ older, found z → dist r < dist z) ∧
    ∀ z ∈ younger, found z → dist r ≤ dist z

section nearest
variable {dist : TrackRecord → Nat} {found : TrackRecord → Prop} {rs : List TrackRecord} {b r : TrackRecord}

theorem Nearest.mem (h : Nearest dist found rs r) : r ∈ rs := by
  obtain ⟨_, older, younger, rfl, _, _⟩ := h
  exact List.mem_append_right older List.mem_cons_self

theorem Nearest.dist_le (h : Nearest dist found rs b) {z : TrackRecord} (hz : z ∈ rs) (hf : found z) :
    dist b ≤ dist z := by
  obtain ⟨_, older, younger, rfl, holder, hyounger⟩ := h
  rcases List.mem_append.1 hz with hz | hz
  · exact Nat.le_of_lt (holder z hz hf)
  · rcases List.mem_cons.1 hz with rfl | hz
    · exact Nat.le_refl _
    · exact hyounger z hz hf

/-- The nearest of the younger records stays so where the oldest is not found or is farther. -/
theorem Nearest.cons (h : Nearest dist found rs b) (hr : found r → dist b < dist r) :
    Nearest dist found (r :: rs) b := by
  obtain ⟨hfound, older, younger, rfl, holder, hyounger⟩ := h
  exact ⟨hfound, r :: older, younger, rfl, List.forall_mem_cons.2 ⟨hr, holder⟩, hyounger⟩

theorem nearest_head (hr : found r) (h : ∀ z ∈ rs, found z → dist r ≤ dist z) : Nearest dist found (r :: rs) r :=
  ⟨hr, [], rs, rfl, List.forall_mem_nil _, h⟩

end nearest

/-- Where `fits` says which entries are selected, `closest` answers the nearest of them, and otherwise none. -/
theorem closest_spec (stamp : Int) (k : Fin 4) {sel : PointEntry → Bool} {fits : PointEntry → Prop}
    (hsel : ∀ e, sel e = true ↔ fits e) (rs : List TrackRecord) :
    match closest stamp k sel rs with
    | some r => Nearest (fun q => (q.entries.get k).distance stamp) (fun q => fits (q.entries.get k)) rs r
    | none => ∀ r ∈ rs, ¬ fits (r.entries.get k) := by
  induction rs with
  | nil => exact List.forall_mem_nil _
  | cons r rs ih =>
    rw [closest]
    by_cases hr : sel (r.entries.get k) = true
    · rw [if_pos hr]
      cases hrest : closest stamp k sel rs with
      | none =>
        rw [hrest] at ih
        exact nearest_head ((hsel _).1 hr) fun z hz hf => absurd hf (ih z hz)
      | some b =>
        rw [hrest] at ih
        dsimp only
        by_cases hlt : (b.entries.get k).distance stamp < (r.entries.get k).distance stamp
        · rw [if_pos hlt]
          exact ih.cons fun _ => hlt
        · rw [if_neg hlt]
          exact nearest_head ((hsel _).1 hr) fun z hz hf => Nat.le_trans (Nat.not_lt.1 hlt) (ih.dist_le hz hf)
    · rw [if_neg hr]
      have hskip : ¬ fits (r.entries.get k) := fun hf => hr ((hsel _).2 hf)
      cases hrest : closest stamp k sel rs with
      | none =>
        rw [hrest] at ih
        exact List.forall_mem_cons.2 ⟨hskip, ih⟩
      | some b =>
        rw [hrest] at ih
        exact ih.cons fun hf => absurd hf hskip

section selection
variable {k : Fin 4} {sel : PointEntry → Bool} {fits : PointEntry → Prop} {rs : List TrackRecord}
  (hsel : ∀ e, sel e = true ↔ fits e)
include hsel

theorem closest_eq_none (stamp : Int) (h : ¬ ∃ r ∈ rs, fits (r.entries.get k)) : closest stamp k sel rs = none := by
  have hspec := closest_spec stamp k hsel rs
  cases hc : closest stamp k sel rs with
  | none => rfl
  | some r =>
    rw [hc] at hspec
    exact absurd ⟨r, hspec.mem, hspec.1⟩ h

theorem exists_closest (stamp : Int) (h : ∃ r ∈ rs, fits (r.entries.get k)) :
    ∃ r, Nearest (fun q => (q.entries.get k).distance stamp) (fun q => fits (q.entries.get k)) rs r ∧
      closest stamp k sel rs = some r := by
  have hspec := closest_spec stamp k hsel rs
  cases hc : closest stamp k sel rs with
  | none =>
    rw [hc] at hspec
    obtain ⟨r, hr, hf⟩ := h
    exact absurd hf (hspec r hr)
  | some r =>
    rw [hc] at hspec
    exact ⟨r, hspec, rfl⟩

end selection

/-! ### The class of a verdict (R118) -/

/-- An entry of point `k` lies in the match window of `stamp`, in a state of which `f` holds. -/
def State.fits (s : State) (k : Fin 4) (stamp : Int) (f : EntryState → Prop) (e : PointEntry) : Prop :=
  e.distance stamp ≤ (s.points.get k).halfWindowUs * 1000 ∧ f e.state

/-- Some record of the track has an entry that fits. -/
def State.fitsSome (s : State) (k : Fin 4) (stamp : Int) (f : EntryState → Prop) : Prop :=
  ∃ r ∈ s.track.records, s.fits k stamp f (r.entries.get k)

/-- Of the records whose entry fits, `r` has its trigger time nearest to the stamp. -/
def State.fitsNearest (s : State) (k : Fin 4) (stamp : Int) (f : EntryState → Prop) (r : TrackRecord) : Prop :=
  Nearest (fun q => (q.entries.get k).distance stamp) (fun q => s.fits k stamp f (q.entries.get k)) s.track.records r

/-- The states of R118's row 3. -/
def EntryState.judged (st : EntryState) : Prop := st = .pass ∨ st.isFail = true

section classes
variable {s : State} {k : Fin 4} {stamp : Int} {f : EntryState → Prop}

/-- The selection of a row of R118 in the model's Boolean form. -/
theorem fits_iff {sel : PointEntry → Bool} (hsel : ∀ e, sel e = true ↔ f e.state) (e : PointEntry) :
    (e.inWindow stamp (s.points.get k).halfWindowUs && sel e) = true ↔ s.fits k stamp f e := by
  rw [Bool.and_eq_true, PointEntry.inWindow, decide_eq_true_iff, hsel]
  rfl

theorem fitsSome_iff {x : EntryState} :
    (s.track.records.any fun r => (r.entries.get k).inWindow stamp (s.points.get k).halfWindowUs &&
      (r.entries.get k).state == x) = true ↔ s.fitsSome k stamp (· = x) := by
  rw [List.any_eq_true]
  exact exists_congr fun r => and_congr_right fun _ =>
    fits_iff (sel := fun e => e.state == x) (fun _ => beq_iff_eq) (r.entries.get k)

theorem isExpected_iff (e : PointEntry) : (e.state == .expected) = true ↔ e.state = .expected := beq_iff_eq

theorem judged_iff (e : PointEntry) : e.judged = true ↔ e.state.judged := by
  rw [PointEntry.judged, Bool.or_eq_true, beq_iff_eq, EntryState.judged]

theorem classify_matched (h : s.fitsSome k stamp (· = .expected)) :
    ∃ r, s.fitsNearest k stamp (· = .expected) r ∧ s.classify k stamp = .matched r := by
  obtain ⟨r, hr, hc⟩ := exists_closest (fits_iff isExpected_iff) stamp h
  exact ⟨r, hr, by simp only [State.classify, hc]⟩

section unmatched
variable (hexpected : ¬ s.fitsSome k stamp (· = .expected))
include hexpected

theorem classify_late (h : s.fitsSome k stamp (· = .missing)) : s.classify k stamp = .late := by
  have hc := closest_eq_none (fits_iff isExpected_iff) stamp hexpected
  simp only [State.classify, hc]
  exact if_pos (fitsSome_iff.2 h)

variable (hmissing : ¬ s.fitsSome k stamp (· = .missing))
include hmissing

theorem classify_repeated (h : s.fitsSome k stamp EntryState.judged) :
    ∃ r, s.fitsNearest k stamp EntryState.judged r ∧ s.classify k stamp = .repeated r := by
  have hc := closest_eq_none (fits_iff isExpected_iff) stamp hexpected
  obtain ⟨r, hr, hj⟩ := exists_closest (fits_iff judged_iff) stamp h
  refine ⟨r, hr, ?_⟩
  simp only [State.classify, hc, hj]
  exact if_neg (mt fitsSome_iff.1 hmissing)

variable (hjudged : ¬ s.fitsSome k stamp EntryState.judged)
include hjudged

theorem classify_strayService (h : s.fitsSome k stamp (· = .service)) : s.classify k stamp = .strayService := by
  have hc := closest_eq_none (fits_iff isExpected_iff) stamp hexpected
  have hj := closest_eq_none (fits_iff judged_iff) stamp hjudged
  simp only [State.classify, hc, hj]
  exact (if_neg (mt fitsSome_iff.1 hmissing)).trans (if_pos (fitsSome_iff.2 h))

theorem classify_strayNoRecord (h : ¬ s.fitsSome k stamp (· = .service)) : s.classify k stamp = .strayNoRecord := by
  have hc := closest_eq_none (fits_iff isExpected_iff) stamp hexpected
  have hj := closest_eq_none (fits_iff judged_iff) stamp hjudged
  simp only [State.classify, hc, hj]
  exact (if_neg (mt fitsSome_iff.1 hmissing)).trans (if_neg (mt fitsSome_iff.1 h))

end unmatched

end classes

/-! ### What each class does (R119 to R122) -/

section effects
variable {i : Fin 32} {k : Fin 4} {stamp : Int} {pass : Bool} {detail : Byte} {r : TrackRecord} {p : Fin 24} {s : State}

theorem verdictState_decide {verdict : Byte} :
    verdictState (decide (verdict = 0)) detail = if verdict = 0 then .pass else .fail detail :=
  if_congr decide_eq_true_iff rfl rfl

theorem matchVerdict_matched (h : s.classify k stamp = .matched r) :
    matchVerdict i k stamp pass detail s = setEntry r.seq k (verdictState pass detail) s := by
  rw [matchVerdict, h]

theorem matchVerdict_agrees (h : s.classify k stamp = .repeated r)
    (hc : conflictState (r.entries.get k).state pass detail = none) : matchVerdict i k stamp pass detail s = s := by
  rw [matchVerdict, h]
  dsimp only
  rw [hc]

theorem matchVerdict_conflict {st : EntryState} (h : s.classify k stamp = .repeated r)
    (hc : conflictState (r.entries.get k).state pass detail = some st) :
    matchVerdict i k stamp pass detail s = postStation (noticeStrayConflict i) i (setEntry r.seq k st s) := by
  rw [matchVerdict, h]
  dsimp only
  rw [hc]

theorem EntryState.judged.pass_or_fail {st : EntryState} (h : st.judged) : st = .pass ∨ ∃ d, st = .fail d := by
  refine h.imp_right fun hfail => ?_
  cases st with
  | fail d => exact ⟨d, rfl⟩
  | _ => cases hfail

theorem conflictState_agrees {st : EntryState} (h : st.judged) (hagree : st = .pass ↔ pass = true) :
    conflictState st pass detail = none := by
  obtain rfl | ⟨d, rfl⟩ := h.pass_or_fail
  · rw [hagree.1 rfl]
    rfl
  · rw [Bool.eq_false_iff.2 fun hpass => nomatch hagree.2 hpass]
    rfl

theorem conflictState_fail {st : EntryState} (h : st.judged) (hne : st ≠ .pass) :
    conflictState st true detail = some st := by
  obtain ⟨d, rfl⟩ := h.pass_or_fail.resolve_left hne
  rfl

/-- An entry set to the state it is in already. -/
theorem setEntry_self (hu : seqsUnique s) (hr : r ∈ s.track.records) :
    setEntry r.seq k (r.entries.get k).state s = s := by
  have hrecords : (s.track.records.map fun q => if q.seq = r.seq then
      { q with entries := q.entries.upd k ({ · with state := (r.entries.get k).state }) } else q) = s.track.records := by
    refine (List.map_congr_left fun q hq => ?_).trans (List.map_id _)
    split
    next hseq =>
      obtain rfl := List.inj_on_of_nodup_map hu hq hr hseq
      rw [Tbl.upd_eq_self _ _ _ rfl]
      rfl
    · rfl
  show s.onTrack _ = s
  rw [State.onTrack, hrecords]

/-- A notice of the station on port `p` and nothing else. -/
theorem postStation_alone (hp : s.stationPort i = some p) (n : Notice) :
    SameBut allLinks s (postStation n i s) ∧ Hears [byPort s (some p) n] s.now s (postStation n i s) :=
  ⟨postStation_frame n i s, postStation_hears_after hp (.refl [] s) (.nil s.now s)⟩

end effects

/-- Settles O38: each class of R118 has its row lemma, and of two records at one distance `closest` keeps the one that
it meets first, which is the older. -/
theorem verdictIsMatchedToItsEntry : Obligations.VerdictIsMatchedToItsEntry := by
  unfold Obligations.VerdictIsMatchedToItsEntry
  intro b code station verdict detail sec ns began p i s hu hb hi hst hseqs c names posts
  have hexec : exec c s = .next (takeVerdict i verdict detail sec ns s) := exec_verdict hu hb hi hst
  have hall {why : MessageFault}
      (h : takeVerdict i verdict detail sec ns s = postAll (noticeMessageError i.1 why) s) :
      posts (toAll (noticeMessageError i.1 why)) := ⟨_, hexec, h ▸ postAll_frame _ s, h ▸ postAll_hears _ s⟩
  refine ⟨fun hno => hall (takeVerdict_point (pointOf_eq_none hno)), fun k hk honly => ?_⟩
  have hpoint : s.pointOf i = some k := pointOf_eq_some hk honly
  refine ⟨fun hbad => hall (takeVerdict_range hpoint hbad), fun hv hns => ?_⟩
  intro stamp dist found some' chosen judged
  have hport := stationPort_of_stationOn hi
  have hexec : exec c s = .next (matchVerdict i k stamp (decide (verdict = 0)) detail s) :=
    hexec.trans (congrArg _ (takeVerdict_eq hpoint hv hns))
  have hpost {n : Notice} (h : matchVerdict i k stamp (decide (verdict = 0)) detail s = postStation n i s) :
      posts (byPort s (some p) n) := ⟨_, hexec.trans (congrArg _ h), postStation_alone hport n⟩
  refine ⟨fun he => ?_, fun he hm => hpost ?_, fun he hm hj => ?_, fun he hm hj hsv => hpost ?_,
    fun he hm hj hsv => hpost ?_⟩
  · obtain ⟨r, hr, hclass⟩ := classify_matched he
    rw [matchVerdict_matched hclass, verdictState_decide] at hexec
    exact ⟨r, hr, _, hexec, setEntry_frame _ _ _ s, setEntry_entrySet _ _ _ s⟩
  · rw [matchVerdict, classify_late he hm]
  · obtain ⟨r, hr, hclass⟩ := classify_repeated he hm hj
    have hjudged : (r.entries.get k).state.judged := hr.1.2
    refine ⟨r, hr, fun hagree => ?_, fun hpass hv1 => ?_, fun hfail hv0 => hpost ?_⟩
    · have hnone := conflictState_agrees (detail := detail) hjudged (hagree.trans decide_eq_true_iff.symm)
      exact ⟨s, hexec.trans (congrArg _ (matchVerdict_agrees hclass hnone)), rfl⟩
    · subst hv1
      have hsome : conflictState (r.entries.get k).state false detail = some (.fail detail) := by rw [hpass]; rfl
      have hset := setEntry_frame r.seq k (.fail detail) s
      exact ⟨_, hexec.trans (congrArg _ (matchVerdict_conflict hclass hsome)),
        (hset.mono (by decide)).trans ((postStation_frame _ i _).mono (by decide)), setEntry_entrySet _ _ _ s,
        postStation_hears_after hport hset (hset.hears s.now (by simp))⟩
    · subst hv0
      have hmatch := matchVerdict_conflict (i := i) (detail := detail) hclass (conflictState_fail hjudged hfail)
      rw [setEntry_self hseqs hr.mem] at hmatch
      exact hmatch
  · rw [matchVerdict, classify_strayService he hm hj hsv]
  · rw [matchVerdict, classify_strayNoRecord he hm hj hsv]

end Sys2Proof.Machine
end

section
/-! OUTPUT-SET: how its fields are read, its checks, and the record it leaves. -/

namespace Sys2Proof.Machine

-- One proof after the other: each waiting thread would hold its own stack.
set_option Elab.async false

/-! ### How the fields are read (R136, section 11.2) -/

theorem modeOf_eq_some {b : Byte} {m : OutputMode} : modeOf b = some m ↔ b = m.code := by
  refine ⟨fun h => ?_, fun h => by subst h; cases m <;> rfl⟩
  unfold modeOf at h
  split_ifs at h <;> cases h <;> assumption

theorem activeLevelOf_eq_some {b : Byte} {v : ActiveLevel} : activeLevelOf b = some v ↔ b = v.code := by
  refine ⟨fun h => ?_, fun h => by subst h; cases v <;> rfl⟩
  unfold activeLevelOf at h
  split_ifs at h <;> cases h <;> assumption

theorem periodOf_eq_some {b : Byte} {p : FeedPeriod} : periodOf b = some p ↔ b = p.code := by
  refine ⟨fun h => ?_, fun h => by subst h; cases p <;> rfl⟩
  unfold periodOf at h
  split_ifs at h <;> cases h <;> assumption

theorem OutputMode.code_lt (m : OutputMode) : m.code.toNat < 4 := by cases m <;> decide

theorem ActiveLevel.code_lt (v : ActiveLevel) : v.code.toNat < 2 := by cases v <;> decide

theorem FeedPeriod.code_lt (p : FeedPeriod) : p.code.toNat < 7 := by cases p <;> decide

theorem readOutputSettings_eq_some {m v p e r : Byte} {w : BitVec 32} {y : OutputSettings} :
    readOutputSettings m v w p e r = some y ↔
      (1 ≤ y.widthUs ∧ y.widthUs ≤ 100000) ∧ m = y.mode.code ∧ v = y.level.code ∧ w.toNat = y.widthUs ∧
      p = y.period.code ∧ e = boolByte y.feedEnable ∧ r = boolByte y.runAlways := by
  simp only [readOutputSettings, Option.bind_eq_bind, Option.bind_eq_some_iff, Option.pure_def, Option.some.injEq,
    modeOf_eq_some, activeLevelOf_eq_some, inRange_eq_some, periodOf_eq_some, yesNo_eq_some]
  constructor
  · rintro ⟨k, hm, a, hv, n, ⟨hw, hw1, hw2⟩, d, hp, c, he, b, hr, rfl⟩
    exact ⟨⟨hw1, hw2⟩, hm, hv, hw, hp, he, hr⟩
  · rintro ⟨⟨hw1, hw2⟩, hm, hv, hw, hp, he, hr⟩
    exact ⟨_, hm, _, hv, _, ⟨hw, hw1, hw2⟩, _, hp, _, he, _, hr, rfl⟩

/-! ### The checks (R136) -/

/-- What an OUTPUT-SET whose fields lie in their ranges is answered with: the checks of R136 from the second on. -/
def State.outputStatus (s : State) (o : Fin 8) (y : OutputSettings) : Status :=
  if (s.outputs.get o).mode ≠ y.mode ∧ ((s.pointNaming o).isSome ∨ s.gateNames o = true) ∧ s.track.records ≠ [] then
    .refusedState
  else if y.mode = .gate ∧ s.otherGate o = true then .refusedConflict
  else .done

theorem held_outputStatus (l : Link) (tag : Byte) (q : Request) (s : State) :
    (held l tag q s).outputStatus = s.outputStatus := by cases l <;> rfl

/-- The output is named by the gate record or by an enabled point. -/
theorem outputNamed_iff {s : State} {o : Fin 8} :
    ((s.pointNaming o).isSome ∨ s.gateNames o = true) ↔
      (s.gate.output = some o ∨ ∃ k, (s.points.get k).enabled = true ∧ (s.points.get k).output = some o) := by
  have hpoint : (s.pointNaming o).isSome = true ↔
      ∃ k, (s.points.get k).enabled = true ∧ (s.points.get k).output = some o := by
    simp only [State.pointNaming, List.find?_isSome, numbers, List.mem_finRange, true_and, Bool.and_eq_true, beq_iff_eq]
  rw [hpoint, State.gateNames, beq_iff_eq, or_comm]

section owners
variable {a m v p e r : Byte} {w : BitVec 32}

theorem ownOutputSet_eq {o : Fin 8} {y : OutputSettings} (ha : number 8 a = some o)
    (hy : readOutputSettings m v w p e r = some y) (s : State) : ownOutputSet a m v w p e r s =
      if s.outputStatus o y = .done then done [] (s.onOutput o (·.configure y s.now s.outWindow))
      else refuse (s.outputStatus o y) s := by
  rw [ownOutputSet, ha, hy]
  exact refuse_or (by decide) <| refuse_or (by decide) rfl

theorem ownOutputSet_range
    (h : 8 ≤ a.toNat ∨ 4 ≤ m.toNat ∨ 2 ≤ v.toNat ∨ 7 ≤ p.toNat ∨ 2 ≤ e.toNat ∨ 2 ≤ r.toNat ∨ w = 0 ∨
      100000 < w.toNat) (s : State) : ownOutputSet a m v w p e r s = refuse .refusedRange s := by
  unfold ownOutputSet
  split
  next o y ho hy =>
    obtain ⟨⟨hw1, hw2⟩, rfl, rfl, hw, rfl, rfl, rfl⟩ := readOutputSettings_eq_some.1 hy
    have ha := number_eq_some.1 ho
    have hm := y.mode.code_lt
    have hv := y.level.code_lt
    have hp := y.period.code_lt
    have he := boolByte_lt y.feedEnable
    have hr := boolByte_lt y.runAlways
    have hzero : w = 0 ↔ w.toNat = 0 := BitVec.toNat_eq
    rw [hzero] at h
    omega
  · rfl

end owners

/-! ### The record it leaves (R133, R137, R139) -/

theorem FeedPeriod.ns_pos (p : FeedPeriod) : 0 < p.ns := by cases p <;> decide

/-- R139: the first multiple of the period after an MT lies within one period of it. -/
theorem nextInstant_spec (p : FeedPeriod) (t : Int) :
    t < nextInstant p t ∧ nextInstant p t ≤ t + p.ns ∧ (p.ns : Int) ∣ nextInstant p t := by
  have hpos : 0 < (p.ns : Int) := Int.natCast_pos.2 p.ns_pos
  refine ⟨Int.lt_ediv_add_one_mul_self t hpos, ?_, Int.dvd_mul_left _ _⟩
  rw [nextInstant, Int.add_mul, Int.one_mul]
  exact Int.add_le_add_right (Int.ediv_mul_le t hpos.ne') _

theorem Output.configure_eq (c : OutputSettings) (now : Int) (w : Bool) (x : Output) :
    x.configure c now w =
      if x.mode = c.mode then
        { x.withSettings c with
          nextFeed := if c.mode = .feed ∧ x.period ≠ c.period then some (nextInstant c.period now) else x.nextFeed }
      else
        { x.withSettings c with
          mode := c.mode, pulseEnd := none, needs := []
          nextFeed := if c.mode = .feed then some (nextInstant c.period now) else none
          hold := decide (c.mode = .gate) && w } := by
  unfold Output.configure
  by_cases hm : x.mode = c.mode
  · rw [if_neg (not_not.2 hm), if_pos hm]
    split <;> rfl
  · rw [if_pos hm, if_neg hm]
    rfl

theorem onOutput_others (o : Fin 8) (f : Output → Output) (s : State) :
    OthersSame o s.outputs (s.onOutput o f).outputs := fun _ hj => Tbl.get_upd_of_ne _ f hj

@[simp] theorem onOutput_get_self (o : Fin 8) (f : Output → Output) (s : State) :
    (s.onOutput o f).outputs.get o = f (s.outputs.get o) := Tbl.get_upd_self ..

theorem outputSet_completes {tag a m v p e r : Byte} {w : BitVec 32} {o : Fin 8} {y : OutputSettings} {s : State}
    (hw : (s.link .lc).slot.working = false) (ha : number 8 a = some o)
    (hy : readOutputSettings m v w p e r = some y) :
    let q : Request := .outputSet a m v w p e r
    let c : Instr := .outputSet .lc tag a m v w p e r
    (s.outputStatus o y ≠ .done → OnlyReplies c .lc tag q (s.outputStatus o y) [] s) ∧
    (s.outputStatus o y = .done → Completes c s fun t =>
      Replied .lc tag q .done [] [] s t ∧ SameBut [.outputs, .link .lc] s t ∧ OthersSame o s.outputs t.outputs ∧
        t.outputs.get o = (s.outputs.get o).configure y s.now s.outWindow) := by
  intro q c
  have ht : Taken .lc q s := ⟨hw, rfl⟩
  have hown := ownOutputSet_eq ha hy (held .lc tag q s)
  rw [held_outputStatus] at hown
  refine ⟨fun hn => request_onlyReplies rfl ht rfl (hown.trans (if_neg hn)), fun hd => ?_⟩
  obtain ⟨t, hx, hreply, hframe, hrest⟩ :=
    request_sets (c := c) rfl ht rfl (hown.trans (if_pos hd)) (State.onOutput_frame o _ _) (by simp)
  refine ⟨t, hx, hreply, hframe, ?_, ?_⟩ <;> rw [hrest.outputs]
  · exact held_outputs .lc tag q s ▸ onOutput_others o _ _
  · rw [onOutput_get_self, held_outputs, held_now, (held_frame .lc tag q s).outWindow]

/-- Settles O39: the settings of the request are read back from its bytes, and the next instant of R139 is the fresh
feed instant. -/
theorem outputSetConfiguresTheOutput : Obligations.OutputSetConfiguresTheOutput := by
  unfold Obligations.OutputSetConfiguresTheOutput
  rintro l tag s hw rfl
  refine ⟨fun o y h1 h2 => ?_, fun a m v p e r w hbad =>
    request_onlyReplies rfl ⟨hw, rfl⟩ rfl (ownOutputSet_range hbad _)⟩
  intro q c x named answer
  have hanswer : answer = s.outputStatus o y :=
    if_congr (and_congr_right' (and_congr_left' outputNamed_iff.symm)) rfl <|
      if_congr (and_congr_right' otherGate_iff.symm) rfl rfl
  have hread : readOutputSettings y.mode.code y.level.code (BitVec.ofNat 32 y.widthUs) y.period.code
      (boolByte y.feedEnable) (boolByte y.runAlways) = some y := by
    refine readOutputSettings_eq_some.2 ⟨⟨h1, h2⟩, rfl, rfl, ?_, rfl, rfl, rfl⟩
    rw [BitVec.toNat_ofNat]
    omega
  obtain ⟨hrefused, hdone⟩ := outputSet_completes (tag := tag) hw (number_ofNat (by decide) o) hread
  rw [hanswer]
  refine ⟨hrefused, fun hd => ?_⟩
  obtain ⟨hafter, hwithin, hgrid⟩ := nextInstant_spec y.period s.now
  refine ⟨nextInstant y.period s.now, hafter, hwithin, hgrid, ?_⟩
  obtain ⟨t, hexec, hreply, hframe, hothers, houtput⟩ := hdone hd
  exact ⟨t, hexec, hreply, hframe, hothers, houtput.trans (Output.configure_eq y s.now s.outWindow x)⟩

end Sys2Proof.Machine
end

section
/-! NEED, the pulse end and the feed instant of an output. -/

namespace Sys2Proof.Machine

-- One proof after the other: each waiting thread would hold its own stack.
set_option Elab.async false

/-! ### NEED (R141) -/

theorem exec_need {b code station output word : Byte} {began : Option Stamp} {p : Fin 24} {i : Fin 32} {s : State}
    (hu : s.fabric.up = true) (hb : b.toNat = p.1) (hi : s.stationOn p = some i) (hst : station.toNat = i.1) :
    exec (.need b code station output word began) s = .next (takeNeed i output word s) :=
  congrArg Host.Outcome.next ((takeInbound_readCellIn hu hb).trans (fromStation_eq hi hst))

theorem mem_addNeed {i j : Fin 32} {set : List (Fin 32)} : j ∈ addNeed i set ↔ j = i ∨ j ∈ set := by
  simp only [addNeed, numbers, List.mem_filter, List.mem_finRange, true_and, Bool.or_eq_true, beq_iff_eq,
    List.contains_iff_mem]

theorem mem_dropNeed {i j : Fin 32} {set : List (Fin 32)} : j ∈ dropNeed i set ↔ j ≠ i ∧ j ∈ set := by
  rw [dropNeed, List.mem_filter, bne_iff_ne, and_comm]

/-- The output after a NEED of station `i` with this word: on at 1, off otherwise. -/
def Output.hearNeed (i : Fin 32) (word : Byte) (x : Output) : Output :=
  { x with needs := if word = 1 then addNeed i x.needs else dropNeed i x.needs }

theorem mem_hearNeed {i j : Fin 32} {word : Byte} {x : Output} :
    j ∈ (x.hearNeed i word).needs ↔ if word = 1 then j = i ∨ j ∈ x.needs else j ≠ i ∧ j ∈ x.needs := by
  unfold Output.hearNeed
  split
  · exact mem_addNeed
  · exact mem_dropNeed

section needs
variable {i : Fin 32} {output word : Byte} {s : State}

theorem takeNeed_range (h : 8 ≤ output.toNat ∨ 2 ≤ word.toNat) :
    takeNeed i output word s = postAll (noticeMessageError i.1 .range) s := by
  unfold takeNeed
  split
  next o wants ho hword =>
    have hlt := number_eq_some.1 ho
    have hword := yesNo_lt hword
    omega
  · rfl

variable {o : Fin 8} (ho : output.toNat = o.1) (hword : word.toNat < 2)
include ho hword

theorem takeNeed_mode (hm : (s.outputs.get o).mode ≠ .feed) :
    takeNeed i output word s = postAll (noticeMessageError i.1 .mode) s := by
  rw [takeNeed, number_eq_some.2 ho, yesNo_of_lt hword]
  exact if_neg hm

theorem takeNeed_feed (hm : (s.outputs.get o).mode = .feed) :
    takeNeed i output word s = s.onOutput o (Output.hearNeed i word) := by
  rw [takeNeed, number_eq_some.2 ho, yesNo_of_lt hword]
  refine (if_pos hm).trans (congrArg (fun f => s.onOutput o f) (funext fun x => ?_))
  simp only [decide_eq_true_eq]
  rfl

end needs

/-! ### The pulse end (R130, R138, R140) and the feed instant (R139, R140) -/

/-- R139: the effective width, read by a comparison with half the period. -/
theorem Output.effectiveNs_eq (x : Output) :
    x.effectiveNs = if 2 * (x.widthUs * 1000) < x.period.ns then x.widthUs * 1000 else x.period.ns / 2 := by
  unfold Output.effectiveNs nsPerUs
  split <;> omega

theorem Output.takeInstant_eq (c : ClockState) (t : Int) (x : Output)
    [Decidable ((x.feedEnable = true ∨ x.needs ≠ []) ∧ (c = .locked ∨ c = .holdover ∨ x.runAlways = true))] :
    x.takeInstant c t =
      { (if (x.feedEnable = true ∨ x.needs ≠ []) ∧ (c = .locked ∨ c = .holdover ∨ x.runAlways = true) then
          asked (t + x.effectiveNs) x
        else x) with nextFeed := some (t + x.period.ns) } := by
  have hrunning : x.running c = true ↔
      (x.feedEnable = true ∨ x.needs ≠ []) ∧ (c = .locked ∨ c = .holdover ∨ x.runAlways = true) :=
    (Layout.running_iff c x).trans (and_congr_left' (Layout.wanted_iff x).symm)
  unfold Output.takeInstant
  rw [Output.ask_eq_asked]
  exact congrArg (fun z : Output => { z with nextFeed := some (t + x.period.ns) }) (if_congr hrunning rfl rfl)

section expiries
variable {o : Fin 8} {s : State}

theorem exec_pulseEnd_due {e : Int} (h : (s.outputs.get o).pulseEnd = some e) (ht : e ≤ s.now) :
    exec (.pulseEndExpiry o) s = .next (s.onOutput o fun x => { x with pulseEnd := none }) := by
  show execPulseEndExpiry o s = _
  rw [execPulseEndExpiry, h]
  exact congrArg _ (if_pos (decide_eq_true ht))

theorem exec_pulseEnd_idle (h : ∀ e, (s.outputs.get o).pulseEnd = some e → s.now < e) :
    exec (.pulseEndExpiry o) s = .next s := by
  have hidle : ¬ reached (s.outputs.get o).pulseEnd s.now = true := by
    cases he : (s.outputs.get o).pulseEnd with
    | none => exact Bool.false_ne_true
    | some e => exact fun hr => absurd (of_decide_eq_true hr) (Int.not_le.2 (h e he))
  exact congrArg _ (if_neg hidle)

theorem exec_feedInstant_due {n : Int} (hm : (s.outputs.get o).mode = .feed) (h : (s.outputs.get o).nextFeed = some n)
    (ht : n ≤ s.now) : exec (.feedInstant o) s = .next (s.onOutput o (·.takeInstant s.time.clock n)) := by
  show execFeedInstant o s = _
  rw [execFeedInstant, h]
  exact congrArg _ (if_pos ⟨hm, ht⟩)

theorem exec_feedInstant_idle
    (h : ∀ n, (s.outputs.get o).mode = .feed → (s.outputs.get o).nextFeed = some n → s.now < n) :
    exec (.feedInstant o) s = .next s := by
  show execFeedInstant o s = _
  unfold execFeedInstant
  dsimp only
  split
  next n hn => exact congrArg _ (if_neg fun hdue => absurd hdue.2 (Int.not_le.2 (h n hdue.1 hn)))
  · rfl

end expiries

theorem onOutput_changes (o : Fin 8) (f : Output → Output) (s : State) :
    SameBut [.outputs] s (s.onOutput o f) ∧ OthersSame o s.outputs (s.onOutput o f).outputs ∧
      (s.onOutput o f).outputs.get o = f (s.outputs.get o) :=
  ⟨State.onOutput_frame o f s, onOutput_others o f s, onOutput_get_self o f s⟩

/-- Settles O40: each of the three events changes the one record that it names, at its time and in its mode. -/
theorem needsAndFeedInstantsDriveTheFeed : Obligations.NeedsAndFeedInstantsDriveTheFeed := by
  unfold Obligations.NeedsAndFeedInstantsDriveTheFeed
  refine ⟨fun b code station output word began p i s hu hb hi hst => ?_, fun o s => ?_⟩
  · intro c posts
    have hexec : exec c s = .next (takeNeed i output word s) := exec_need hu hb hi hst
    have hposts {why : MessageFault} (h : takeNeed i output word s = postAll (noticeMessageError i.1 why) s) :
        posts why := ⟨_, hexec, h ▸ postAll_frame _ s, h ▸ postAll_hears _ s⟩
    refine ⟨fun hbad => hposts (takeNeed_range hbad), fun o ho hword =>
      ⟨fun hm => hposts (takeNeed_mode ho hword hm), fun hm => ?_⟩⟩
    obtain ⟨hframe, hothers, hget⟩ := onOutput_changes o (Output.hearNeed i word) s
    refine ⟨_, hexec.trans (congrArg _ (takeNeed_feed ho hword hm)), hframe, hothers, ?_, fun _ => ?_⟩ <;> rw [hget]
    · rfl
    · exact mem_hearNeed
  · intro x
    refine ⟨fun e he ht => ⟨_, exec_pulseEnd_due he ht, onOutput_changes o _ s⟩,
      fun h => ⟨s, exec_pulseEnd_idle h, rfl⟩, fun n hm hn ht => ?_, fun h => ⟨s, exec_feedInstant_idle h, rfl⟩⟩
    intro running width
    have hwidth : x.effectiveNs = width := x.effectiveNs_eq
    obtain ⟨hframe, hothers, hget⟩ := onOutput_changes o (·.takeInstant s.time.clock n) s
    refine ⟨_, exec_feedInstant_due hm hn ht, hframe, hothers, ?_⟩
    rw [hget, Output.takeInstant_eq, hwidth]

end Sys2Proof.Machine
end

section
/-! How the five requests that name a grant read the name, and what they answer. -/

namespace Sys2Proof.Machine

-- One proof after the other: each waiting thread would hold its own stack.
set_option Elab.async false

@[simp] theorem held_grants (l : Link) (tag : Byte) (r : Request) (s : State) : (held l tag r s).grants = s.grants := by
  cases l <;> rfl

/-! ### The name of a grant (R147) -/

section naming
variable {b : Byte} {k : Fin 4} {a : GrantAsk} {n : BitVec 16} {why : Status} {s : State}

theorem named_range (h : 4 ≤ b.toNat) : s.named b n = .error .refusedRange := by
  rw [State.named, number_eq_none.2 h]

/-- A slot is named by its own number and by that of its last ask. -/
theorem named_eq (h : b.toNat = k.1) :
    s.named b n =
      if (s.grants.slots.get k).ask.map (·.number) = some n then .ok k else .error .refusedState := by
  rw [State.named, number_eq_some.2 h]
  dsimp only
  cases (s.grants.slots.get k).ask with
  | none => rfl
  | some a => exact if_congr (Option.some.injEq _ _).symm.to_iff rfl rfl

theorem named_ask (h : b.toNat = k.1) (ha : (s.grants.slots.get k).ask = some a) : s.named b a.number = .ok k := by
  rw [named_eq h, ha]
  exact if_pos rfl

theorem named_refused (hb : b.toNat < 4) (h : ¬ ∃ k : Fin 4, b.toNat = k.1 ∧
    (s.grants.slots.get k).ask.map (·.number) = some n) : s.named b n = .error .refusedState := by
  rw [named_eq (k := ⟨b.toNat, hb⟩) rfl]
  exact if_neg fun hn => h ⟨_, rfl, hn⟩

@[simp] theorem held_named (l : Link) (tag : Byte) (r : Request) (s : State) : (held l tag r s).named = s.named := by
  cases l <;> rfl

/-! ### A grant that is misnamed -/

section misnamed
variable (h : s.named b n = .error why)
include h

theorem ownGrantConcur_misnamed : ownGrantConcur b n s = refuse why s := by rw [ownGrantConcur, h]

theorem ownGrantDecline_misnamed : ownGrantDecline b n s = refuse why s := by rw [ownGrantDecline, h]

theorem ownGrantExtend_misnamed (added : BitVec 16) : ownGrantExtend b n added s = refuse why s := by
  rw [ownGrantExtend, h]

theorem ownGrantRelease_misnamed : ownGrantRelease b n s = refuse why s := by rw [ownGrantRelease, h]

theorem ownGrantRevoke_misnamed : ownGrantRevoke b n s = refuse why s := by rw [ownGrantRevoke, h]

end misnamed

end naming

/-- Settles O41: each of the five requests judges the name first, and all by the same reading. -/
theorem grantsAreNamedByTheirNumber : Obligations.GrantsAreNamedByTheirNumber := by
  unfold Obligations.GrantsAreNamedByTheirNumber
  intro l tag a n added s answer why hwhy
  have hname : s.named a n = .error why := by
    by_cases ha : 4 ≤ a.toNat
    · rw [named_range ha]
      exact congrArg _ (Option.some.inj ((if_pos ha).symm.trans hwhy))
    · replace hwhy := (if_neg ha).symm.trans hwhy
      by_cases hk : ∃ k : Fin 4, a.toNat = k.1 ∧ (s.grants.slots.get k).ask.map (·.number) = some n
      · cases (if_pos hk).symm.trans hwhy
      · rw [named_refused (Nat.lt_of_not_le ha) hk]
        exact congrArg _ (Option.some.inj ((if_neg hk).symm.trans hwhy))
  have hheld : ∀ r, (held l tag r s).named a n = .error why := fun r => by rw [held_named, hname]
  exact ⟨fun ht => request_onlyReplies rfl ht rfl (ownGrantConcur_misnamed (hheld _)),
    fun ht => request_onlyReplies rfl ht rfl (ownGrantDecline_misnamed (hheld _)),
    fun ht => request_onlyReplies rfl ht rfl (ownGrantExtend_misnamed (hheld _) added),
    fun ht => request_onlyReplies rfl ht rfl (ownGrantRelease_misnamed (hheld _)),
    fun ht => request_onlyReplies rfl ht rfl (ownGrantRevoke_misnamed (hheld _))⟩

end Sys2Proof.Machine
end

section
/-! GRANT-POLICY, GRANT-EXTEND and the lease warning. -/

namespace Sys2Proof.Machine

-- One proof after the other: each waiting thread would hold its own stack.
set_option Elab.async false

/-! ### Slots of the Grant Table -/

theorem onSlot_others (k : Fin 4) (f : GrantSlot → GrantSlot) (s : State) :
    OthersSame k s.grants.slots (s.onSlot k f).grants.slots := fun _ hj => Tbl.get_upd_of_ne _ f hj

@[simp] theorem onSlot_get_self (k : Fin 4) (f : GrantSlot → GrantSlot) (s : State) :
    (s.onSlot k f).grants.slots.get k = f (s.grants.slots.get k) := Tbl.get_upd_self ..

/-- The slot changed, and a post on every link. -/
theorem postAll_onSlot_hears (n : Notice) (k : Fin 4) (f : GrantSlot → GrantSlot) (s : State) :
    Hears [toAll n] s.now s (postAll n (s.onSlot k f)) :=
  ((State.onSlot_frame k f s).hears s.now (by simp)).trans (postAll_hears n (s.onSlot k f))

theorem postAll_onSlot_frame (n : Notice) (k : Fin 4) (f : GrantSlot → GrantSlot) (s : State) :
    SameBut ([.grants] ++ allLinks) s (postAll n (s.onSlot k f)) :=
  ((State.onSlot_frame k f s).mono (by decide)).trans ((postAll_frame n _).mono (by decide))

theorem postAll_onSlot_grants (n : Notice) (k : Fin 4) (f : GrantSlot → GrantSlot) (s : State) :
    (postAll n (s.onSlot k f)).grants = (s.onSlot k f).grants := (postAll_frame n _).grants

/-- A request whose owner changes the Grant Table alone. -/
theorem request_grants {c : Instr} {l : Link} {tag : Byte} {r : Request} {own : State → Answer} {s u : State}
    {body : List Byte} {ns : List Heard} (hx : exec c s = .next (request l tag r own s)) (h : Taken l r s)
    (hp : placedAtOnce r = false) (ho : own (held l tag r s) = done body u) (hh : Hears ns s.now (held l tag r s) u)
    (hf : SameBut ([.grants] ++ allLinks) (held l tag r s) u) :
    ∃ t, exec c s = .next t ∧ Replied l tag r .done body ns s t ∧ SameBut ([.grants] ++ allLinks) s t ∧
      t.grants = u.grants := by
  obtain ⟨t, hx, hreply, hrest, hframe⟩ := request_completes hx h hp ho hh
  exact ⟨t, hx, hreply, hframe _ hf, hrest.grants (by simp)⟩

theorem secToNs_eq (n : Nat) : secToNs n = n * 1000000000 := Nat.cast_mul n nsPerSec

theorem inRange_eq_none {lo hi w : Nat} {v : BitVec w} (h : v.toNat < lo ∨ hi < v.toNat) : inRange lo hi v = none :=
  if_neg (by omega)

theorem reached_some {d now : Int} (h : d ≤ now) : reached (some d) now = true := decide_eq_true h

/-- A deadline that lies ahead, or is not held, is not reached. -/
theorem not_reached {d : Option Int} {now : Int} (h : ∀ x, d = some x → now < x) : ¬ reached d now = true := by
  cases d with
  | none => exact Bool.false_ne_true
  | some x => exact fun hr => absurd (of_decide_eq_true hr) (Int.not_le.2 (h x rfl))

/-! ### GRANT-POLICY (R149) -/

theorem ownGrantPolicy_range {v : BitVec 16} (h : v.toNat < 60 ∨ 14400 < v.toNat) (s : State) :
    ownGrantPolicy v s = refuse .refusedRange s := by rw [ownGrantPolicy, inRange_eq_none h]

theorem ownGrantPolicy_set {v : BitVec 16} (h1 : 60 ≤ v.toNat) (h2 : v.toNat ≤ 14400) (s : State) :
    ownGrantPolicy v s = done [] { s with grants := { s.grants with maxLease := v.toNat } } := by
  rw [ownGrantPolicy, inRange_eq_some.2 ⟨rfl, h1, h2⟩]

/-! ### GRANT-EXTEND (R155) -/

section extend
variable {b : Byte} {k : Fin 4} {a : GrantAsk} {v : BitVec 16} {s : State}

theorem ownGrantExtend_range (hn : s.named b a.number = .ok k) (h : v = 0 ∨ 3600 < v.toNat) :
    ownGrantExtend b a.number v s = refuse .refusedRange s := by
  have hv : v.toNat < 1 ∨ 3600 < v.toNat := h.imp (fun h0 => by rw [h0]; exact Nat.one_pos) id
  rw [ownGrantExtend, hn]
  dsimp only
  rw [inRange_eq_none hv]

variable (hn : s.named b a.number = .ok k) (h1 : 1 ≤ v.toNat) (h2 : v.toNat ≤ 3600)
include hn h1 h2

theorem ownGrantExtend_idle (hs : (s.grants.slots.get k).state ≠ .active) :
    ownGrantExtend b a.number v s = refuse .refusedState s := by
  rw [ownGrantExtend, hn]
  dsimp only
  rw [inRange_eq_some.2 ⟨rfl, h1, h2⟩]
  dsimp only
  split
  next hactive _ _ => exact absurd hactive hs
  · rfl

theorem ownGrantExtend_active {m e : Int} (hs : (s.grants.slots.get k).state = .active)
    (hm : (s.grants.slots.get k).activation = some m) (he : (s.grants.slots.get k).expiry = some e) :
    let e' := extended m e v.toNat s.grants.maxLease
    ownGrantExtend b a.number v s = done (timeBytes e')
      (if e' = e then s.onSlot k (·.extendTo e' s.now)
      else postAll (noticeGrant k .extended) (s.onSlot k (·.extendTo e' s.now))) := by
  rw [ownGrantExtend, hn]
  dsimp only
  rw [inRange_eq_some.2 ⟨rfl, h1, h2⟩, hs, hm, he]

end extend

/-- R155: the expiry that an extension leaves is the later one within the bound, and never an earlier one. -/
theorem extended_eq (m e : Int) (added maxLease : Nat) :
    let later := min (e + added * 1000000000) (m + maxLease * 1000000000)
    extended m e added maxLease = if later ≤ e then e else later := by
  rw [extended, secToNs_eq, secToNs_eq, max_comm, max_def]

/-- R155: the warning is brought up to date where more than 60 s remain. -/
theorem GrantSlot.extendTo_eq (e now : Int) (g : GrantSlot) :
    g.extendTo e now = { g with
      expiry := some e
      warned := g.warned && decide (e - now ≤ 60000000000)
      warning := if 60000000000 < e - now then some (e - 60000000000) else g.warning } := by
  unfold GrantSlot.extendTo warnNs
  split
  next h => rw [decide_eq_false (Int.not_le.2 h), Bool.and_false]
  next h => rw [decide_eq_true (Int.not_lt.1 h), Bool.and_true]

/-- An extension changes its slot, and is posted where the expiry moves. -/
theorem extension_frame (moves : Prop) [Decidable moves] (k : Fin 4) (f : GrantSlot → GrantSlot) (s : State) :
    let u := if moves then s.onSlot k f else postAll (noticeGrant k .extended) (s.onSlot k f)
    SameBut ([.grants] ++ allLinks) s u ∧ u.grants = (s.onSlot k f).grants ∧
      Hears (if moves then [] else [toAll (noticeGrant k .extended)]) s.now s u := by
  dsimp only
  split
  · exact ⟨(State.onSlot_frame k f s).mono (by decide), rfl, (State.onSlot_frame k f s).hears s.now (by simp)⟩
  · exact ⟨postAll_onSlot_frame _ k _ s, postAll_onSlot_grants .., postAll_onSlot_hears _ k _ s⟩

/-! ### The lease warning (R154) -/

section warning
variable {k : Fin 4} {s : State}

theorem exec_warning_due {w : Int} (hs : (s.grants.slots.get k).state = .active)
    (hw : (s.grants.slots.get k).warning = some w) (ht : w ≤ s.now) :
    exec (.warningTimeExpiry k) s = .next (postAll (noticeGrant k .warning) (s.onSlot k fun g =>
      { g with warned := true, warning := none })) :=
  congrArg _ (if_pos ⟨hs, by rw [hw]; exact reached_some ht⟩)

theorem exec_warning_early
    (h : ∀ w, (s.grants.slots.get k).state = .active → (s.grants.slots.get k).warning = some w → s.now < w) :
    exec (.warningTimeExpiry k) s = .next s :=
  congrArg _ (if_neg fun hdue => not_reached (fun w => h w hdue.1) hdue.2)

end warning

/-- Settles O45: the policy is one write of the table; an extension is `extended` and `extendTo`, posted where it moves
the expiry; the warning acts at its time. -/
theorem leasesAreExtendedAndWarned : Obligations.LeasesAreExtendedAndWarned := by
  unfold Obligations.LeasesAreExtendedAndWarned
  refine ⟨fun tag v s hw => ⟨fun h => ?_, fun h1 h2 => ?_⟩, fun tag b k a v s hw hb ha => ?_, fun k s => ⟨?_, ?_⟩⟩
  · exact request_onlyReplies rfl ⟨hw, rfl⟩ rfl (ownGrantPolicy_range h _)
  · obtain ⟨t, hx, hreply, hframe, hrest⟩ := request_sets (c := .grantPolicy .lc tag v) (tag := tag) rfl ⟨hw, rfl⟩ rfl
      (ownGrantPolicy_set h1 h2 _) (grants_frame _ _) (by simp)
    exact ⟨t, hx, hreply, hframe, by rw [hrest.grants, held_grants]⟩
  · intro g q c
    have ht : Taken .sc q s := ⟨hw, rfl⟩
    have hname : (held .sc tag q s).named b a.number = .ok k := by rw [held_named, named_ask hb ha]
    refine ⟨fun h => request_onlyReplies rfl ht rfl (ownGrantExtend_range hname h),
      fun h1 h2 hs => request_onlyReplies rfl ht rfl (ownGrantExtend_idle hname h1 h2 (by rwa [held_grants])),
      fun e m h1 h2 hs hm he => ?_⟩
    intro bound later e'
    have hown := ownGrantExtend_active (m := m) (e := e) hname h1 h2 (by rwa [held_grants]) (by rwa [held_grants])
      (by rwa [held_grants])
    have hlater : extended m e v.toNat s.grants.maxLease = e' := extended_eq m e v.toNat s.grants.maxLease
    rw [held_grants, hlater, held_now] at hown
    obtain ⟨hframe, hgrants, hheard⟩ := extension_frame (e' = e) k (·.extendTo e' s.now) (held .sc tag q s)
    rw [held_now] at hheard
    obtain ⟨t, hx, hreply, hframe, ht⟩ := request_grants (c := c) rfl ht rfl hown hheard hframe
    rw [hgrants] at ht
    refine ⟨t, hx, hreply, hframe, ?_, by rw [ht]; rfl, by rw [ht]; rfl, ?_⟩ <;> rw [ht]
    · exact held_grants .sc tag q s ▸ onSlot_others k _ (held .sc tag q s)
    · rw [onSlot_get_self, held_grants, GrantSlot.extendTo_eq]
  · intro w hs hw ht
    refine ⟨_, exec_warning_due hs hw ht, postAll_onSlot_frame _ k _ s, ?_, by rw [postAll_onSlot_grants]; rfl,
      by rw [postAll_onSlot_grants]; rfl, ?_, postAll_onSlot_hears _ k _ s⟩ <;> rw [postAll_onSlot_grants]
    · exact onSlot_others k _ s
    · exact onSlot_get_self k _ s
  · exact fun h => ⟨s, exec_warning_early h, rfl⟩

end Sys2Proof.Machine
end

section
/-! GRANT-ASK: how its fields are read, its checks, and the slot it takes. -/

namespace Sys2Proof.Machine

-- One proof after the other: each waiting thread would hold its own stack.
set_option Elab.async false

/-! ### How the fields are read (R150) -/

theorem levelOf_eq_some {b : Byte} {v : GrantLevel} : levelOf b = some v ↔ b = v.code := by
  unfold levelOf
  cases v <;> simp only [GrantLevel.code] <;> (repeat' split) <;> simp_all

theorem GrantLevel.code_bounds (v : GrantLevel) : 1 ≤ v.code.toNat ∧ v.code.toNat ≤ 3 := by cases v <;> decide

theorem readAsk_eq_some {x y z : Byte} {n : BitVec 16} {v : GrantLevel} {b m : Fin 24} {t : Nat} :
    readAsk x y z n = some (v, b, m, t) ↔
      x = v.code ∧ y.toNat = b.1 ∧ z.toNat = m.1 ∧ (n.toNat = t ∧ 1 ≤ t ∧ t ≤ 3600) ∧ b ≤ m := by
  have hwindow {b' m' : Fin 24} {v' : GrantLevel} {t' : Nat} :
      (if m' < b' then none else some (v', b', m', t')) = some (v, b, m, t) ↔
        b' ≤ m' ∧ v' = v ∧ b' = b ∧ m' = m ∧ t' = t := by
    split
    next h => exact ⟨nofun, fun ⟨hle, _⟩ => absurd hle (Fin.not_le.2 h)⟩
    next h => simp only [Option.some.injEq, Prod.mk.injEq, Fin.not_lt.1 h, true_and]
  simp only [readAsk, Option.bind_eq_bind, Option.bind_eq_some_iff, Option.pure_def, levelOf_eq_some, number_eq_some,
    inRange_eq_some, hwindow]
  constructor
  · rintro ⟨_, hx, _, hy, _, hz, _, hn, hle, rfl, rfl, rfl, rfl⟩
    exact ⟨hx, hy, hz, hn, hle⟩
  · rintro ⟨hx, hy, hz, hn, hle⟩
    exact ⟨_, hx, _, hy, _, hz, _, hn, hle, rfl, rfl, rfl, rfl⟩

/-! ### The checks (R150) -/

/-- Windows overlap where they share a port. -/
theorem GrantSlot.overlaps_iff {g : GrantSlot} (hg : g.Sound) {b m : Fin 24} (hb : b ≤ m) :
    g.overlaps b m = true ↔ ∃ p, b ≤ p ∧ p ≤ m ∧ g.reserves p = true := by
  constructor
  · obtain ⟨_, _, _, hwindow⟩ := hg
    unfold overlaps
    intro h
    cases ha : g.ask with
    | none => rw [ha, Bool.and_false] at h; cases h
    | some a =>
      rw [ha, Bool.and_eq_true] at h
      obtain ⟨hlevel, hmeet⟩ := h
      obtain ⟨hbase, hlimit⟩ := of_decide_eq_true hmeet
      refine ⟨max b a.base, le_max_left _ _, max_le hb hbase, ?_⟩
      rw [reserves, hlevel, ha]
      exact decide_eq_true ⟨le_max_right _ _, max_le hlimit (hwindow a ha)⟩
  · rintro ⟨p, hb, hm, hp⟩
    by_contra h
    rw [not_reserves_of_apart (Bool.eq_false_iff.2 h) hb hm] at hp
    cases hp

theorem freeGrantSlot_eq_some {s : State} {k : Fin 4} (hk : (s.grants.slots.get k).state = .free)
    (hlow : ∀ j, j < k → (s.grants.slots.get j).state ≠ .free) : s.freeGrantSlot = some k := by
  refine List.find?_eq_some_iff_getElem.2 ⟨beq_iff_eq.2 hk, k.1, by simp [numbers], by simp [numbers], fun j hj => ?_⟩
  simpa [numbers] using hlow ⟨j, by omega⟩ hj

theorem freeGrantSlot_eq_none {s : State} (h : ∀ k, (s.grants.slots.get k).state ≠ .free) :
    s.freeGrantSlot = none := List.find?_eq_none.2 fun k _ hk => h k (beq_iff_eq.1 hk)

section owner
variable {x y z : Byte} {n : BitVec 16} {s : State}

theorem ownGrantAsk_range (h : x.toNat = 0 ∨ 4 ≤ x.toNat ∨ 24 ≤ y.toNat ∨ 24 ≤ z.toNat ∨ z.toNat < y.toNat ∨ n = 0 ∨
    3600 < n.toNat) : ownGrantAsk x y z n s = refuse .refusedRange s := by
  unfold ownGrantAsk
  split
  · rfl
  next v b m t hread =>
    obtain ⟨rfl, hy, hz, hn, hle⟩ := readAsk_eq_some.1 hread
    have hv := v.code_bounds
    have hzero : n = 0 ↔ n.toNat = 0 := BitVec.toNat_eq
    rw [hzero] at h
    have hwindow : b.1 ≤ m.1 := hle
    omega

variable {v : GrantLevel} {b m : Fin 24} {t : Nat} (hread : readAsk x y z n = some (v, b, m, t))

/-- The window of an ask at INTERVENE shares a port with one that is reserved (R150, check 2). -/
def State.clashes (s : State) (v : GrantLevel) (b m : Fin 24) : Prop :=
  v = .intervene ∧ ∃ k p, b ≤ p ∧ p ≤ m ∧ (s.grants.slots.get k).reserves p = true

theorem clashes_iff (hg : GrantInv s) (hb : b ≤ m) :
    (v = .intervene ∧ s.grants.slots.xs.any (·.overlaps b m) = true) ↔ s.clashes v b m := by
  obtain ⟨_, hsound⟩ := (grantInv_iff s).1 hg
  rw [Tbl.any_xs, State.clashes]
  exact and_congr_right' (exists_congr fun k => GrantSlot.overlaps_iff (hsound k) hb)

include hread

theorem ownGrantAsk_clash (hg : GrantInv s) (hc : s.clashes v b m) :
    ownGrantAsk x y z n s = refuse .refusedConflict s := by
  rw [ownGrantAsk, hread]
  exact if_pos ((clashes_iff hg (readAsk_window hread)).2 hc)

theorem ownGrantAsk_full (hg : GrantInv s) (hc : ¬ s.clashes v b m) (hfull : s.freeGrantSlot = none) :
    ownGrantAsk x y z n s = refuse .refusedFull s := by
  rw [ownGrantAsk, hread]
  refine (if_neg (mt (clashes_iff hg (readAsk_window hread)).1 hc)).trans ?_
  rw [hfull]

theorem ownGrantAsk_taken {k : Fin 4} (hg : GrantInv s) (hc : ¬ s.clashes v b m) (hk : s.freeGrantSlot = some k) :
    let a : GrantAsk := { number := s.grants.nextNumber, level := v, base := b, limit := m, lease := t, askMt := s.now }
    ownGrantAsk x y z n s = done (askReply k a) (takeAsk k a s) := by
  rw [ownGrantAsk, hread]
  refine (if_neg (mt (clashes_iff hg (readAsk_window hread)).1 hc)).trans ?_
  rw [hk]

end owner

/-! ### The slot that takes the ask (R150, R154) -/

section taken
variable {k : Fin 4} {a : GrantAsk} {now : Int} {g : GrantSlot} {s : State}

theorem takeAsk_number : (takeAsk k a s).grants.nextNumber = s.grants.nextNumber + 1 := by
  unfold takeAsk
  dsimp only
  split <;> rfl

theorem takeAsk_maxLease : (takeAsk k a s).grants.maxLease = s.grants.maxLease := by
  unfold takeAsk
  dsimp only
  split <;> rfl

/-- The event that an ask is posted with: ACTIVE at once at OBSERVE, ASKED at the other levels. -/
def GrantLevel.askEvent (v : GrantLevel) : GrantEvent := if v = .observe then .active else .asked

theorem takeAsk_hears : Hears [toAll (noticeGrant k a.level.askEvent)] s.now s (takeAsk k a s) := by
  have hnumber := grants_frame { s.grants with nextNumber := s.grants.nextNumber + 1 } s
  unfold takeAsk GrantLevel.askEvent
  dsimp only
  split <;> exact (hnumber.hears s.now (by simp)).trans (postAll_onSlot_hears _ k _ _)

theorem GrantSlot.activate_eq (a : GrantAsk) (now : Int) (g : GrantSlot) (ha : g.ask = some a) :
    g.activate a now = activated a now g := by
  unfold GrantSlot.activate activated warnNs
  rw [secToNs_eq, ← ha]
  rfl

theorem GrantSlot.taken_observe (h : a.level = .observe) :
    g.taken a now = { activated a now g with endReason := none } := by
  rw [taken, if_pos h, activate_eq a now _ rfl]
  rfl

theorem GrantSlot.taken_asked (h : a.level ≠ .observe) :
    g.taken a now =
      { g with
        state := .asked, ask := some a, endReason := none, askTimeout := some (now + 120 * 1000000000)
        activation := none, expiry := none } := if_neg h

theorem askReply_observe (h : a.level = .observe) :
    askReply k a = be 1 k.1 ++ field 2 a.number ++ [2] ++ timeBytes (a.askMt + a.lease * 1000000000) := by
  rw [askReply, if_pos h, secToNs_eq, List.append_assoc _ [2]]
  rfl

theorem askReply_asked (h : a.level ≠ .observe) : askReply k a = be 1 k.1 ++ field 2 a.number ++ [1] := by
  rw [askReply, if_neg h]
  rfl

end taken

/-- Settles O42: the fields in range are those that are read, and the slot that is FREE and lowest takes the ask. -/
theorem grantAskTakesASlot : Obligations.GrantAskTakesASlot := by
  unfold Obligations.GrantAskTakesASlot
  intro tag s hw hg
  refine ⟨fun v b m lease hbm h1 h2 => ?_, fun v b m lease h =>
    request_onlyReplies rfl ⟨hw, rfl⟩ rfl (ownGrantAsk_range h)⟩
  intro q c clash a
  have ht : Taken .sc q s := ⟨hw, rfl⟩
  have hread : readAsk v.code (BitVec.ofNat 8 b.1) (BitVec.ofNat 8 m.1) lease = some (v, b, m, lease.toNat) :=
    readAsk_eq_some.2 ⟨rfl, number_eq_some.1 (number_ofNat (by decide) b),
      number_eq_some.1 (number_ofNat (by decide) m), ⟨rfl, h1, h2⟩, hbm⟩
  have hginv : GrantInv (held .sc tag q s) := hg
  refine ⟨fun hc => request_onlyReplies rfl ht rfl (ownGrantAsk_clash hread hginv hc), fun hc hfull =>
    request_onlyReplies rfl ht rfl (ownGrantAsk_full hread hginv hc (freeGrantSlot_eq_none hfull)),
    fun hc k hk hlow => ?_⟩
  intro g
  have hown : ownGrantAsk _ _ _ _ (held .sc tag q s) = done (askReply k a) (takeAsk k a (held .sc tag q s)) :=
    ownGrantAsk_taken hread hginv hc (freeGrantSlot_eq_some hk hlow)
  obtain ⟨t, hx, hreply, hframe, ht⟩ := request_grants (c := c) rfl ht rfl hown
    (held_now .sc tag q s ▸ takeAsk_hears) (takeAsk_frame k a _)
  have hslots : t.grants.slots = s.grants.slots.upd k (·.taken a s.now) := by rw [ht, takeAsk_slots]; rfl
  have hslot : t.grants.slots.get k = g.taken a s.now := by rw [hslots, Tbl.get_upd_self]
  refine ⟨t, hx, hframe, fun j hj => by rw [hslots, Tbl.get_upd_of_ne _ _ hj], by rw [ht, takeAsk_number]; rfl,
    by rw [ht, takeAsk_maxLease]; rfl, fun hv => ⟨?_, ?_⟩, fun hv => ⟨?_, ?_⟩⟩
  · rw [hslot, GrantSlot.taken_observe hv]
  · rw [askReply_observe hv, GrantLevel.askEvent, if_pos hv] at hreply
    exact hreply
  · rw [hslot, GrantSlot.taken_asked hv]
  · rw [askReply_asked hv, GrantLevel.askEvent, if_neg hv] at hreply
    exact hreply

end Sys2Proof.Machine
end

section
/-! The stations of a window: where they stand, and what it does to move them (R37). -/

namespace Sys2Proof.Machine

-- One proof after the other: each waiting thread would hold its own stack.
set_option Elab.async false

/-! ### Where a station stands -/

section stands
variable {s t : State} {a : GrantAsk} {st : StationState} {i : Fin 32} {p : Fin 24}

theorem standsAt_iff : s.standsAt a st i = true ↔
    ∃ x, (s.stations.get i).conf = some x ∧ x.state = st ∧ a.base ≤ x.port ∧ x.port ≤ a.limit := by
  unfold State.standsAt State.stationPort State.stationState GrantAsk.holds
  cases (s.stations.get i).conf with
  | none => simp
  | some x =>
    simp only [Option.map_some, Bool.and_eq_true, decide_eq_true_eq, beq_iff_eq, Option.some.injEq, exists_eq_left']
    exact and_comm

theorem standsIn_eq_some : standsIn s a st i = some p ↔ s.standsAt a st i = true ∧ s.stationPort i = some p := by
  rw [standsAt_iff]
  unfold standsIn State.stationPort
  cases (s.stations.get i).conf with
  | none => simp
  | some x => simp

theorem standsIn_of_standsAt (h : s.standsAt a st i = true) : standsIn s a st i = s.stationPort i := by
  obtain ⟨x, hx, _⟩ := standsAt_iff.1 h
  have hport := stationPort_of_conf hx
  rw [hport, standsIn_eq_some]
  exact ⟨h, hport⟩

theorem standsIn_of_not_standsAt (h : ¬ s.standsAt a st i = true) : standsIn s a st i = none :=
  Option.eq_none_iff_forall_ne_some.2 fun _ hp => h (standsIn_eq_some.1 hp).1

theorem standsIn_isSome : (standsIn s a st i).isSome = s.standsAt a st i := by
  by_cases h : s.standsAt a st i = true
  · obtain ⟨x, hx, _⟩ := standsAt_iff.1 h
    rw [standsIn_of_standsAt h, stationPort_of_conf hx, h]
    rfl
  · rw [standsIn_of_not_standsAt h, Bool.eq_false_iff.2 h]
    rfl

end stands

/-! ### Several stations turned (R29, R30) -/

/-- The Fabric Port after the ORDER `o` of station `i`, where it is configured on a port. -/
def State.orderedAt (s : State) (o : Order) (f : Fabric) (i : Fin 32) : Option (Fin 24) → Fabric
  | some p => f.ordered p i o ((s.stations.get i).orderSeq + 1)
  | none => f

/-- Station record `x` turned into `st` at MT `now`, with `f` the Fabric Port that takes the ORDER. -/
def Station.turned (st : StationState) (f : Fabric) (now : Int) (x : Station) : Station :=
  { conf := x.conf.map ({ · with state := st }), orderSeq := f.nextSeq x.orderSeq, lastChange := some now }

/-- From `s` to `t` the stations `xs` are turned into `st` in order, with the ORDER `o`, and every link hears of it. -/
structure StationsTurned (xs : List (Fin 32)) (st : StationState) (o : Order) (s t : State) : Prop where
  frame : SameBut ([.stations, .fabric] ++ allLinks) s t
  stations : ∀ i, t.stations.get i =
    if i ∈ xs then (s.stations.get i).turned st s.fabric s.now else s.stations.get i
  fabric : t.fabric = xs.foldl (fun f i => s.orderedAt o f i (s.stationPort i)) s.fabric
  heard : Hears (xs.map fun i => ⟨noticeStation i st, true⟩) s.now s t

section turned
variable {xs : List (Fin 32)} {st : StationState} {o : Order} {i : Fin 32} {s : State} {x : StationConf}

theorem turnStation_turned (hc : (s.stations.get i).conf = some x) (ho : orderFor st = some o) :
    StationsTurned [i] st o s (turnStation i st true s) where
  frame := turnStation_frame_narrow
  stations j := by
    by_cases hj : j = i
    · subst hj
      rw [if_pos (List.mem_singleton_self j), turnStation_station hc ho, Station.turned, hc]
      rfl
    · rw [if_neg (mt List.mem_singleton.1 hj), turnStation_others j hj]
  fabric := by
    rw [turnStation_fabric hc ho, List.foldl_cons, stationPort_of_conf hc]
    rfl
  heard := turnStation_hears

/-- Stations turned after others turn as if they were the only ones. -/
theorem StationsTurned.append {ys : List (Fin 32)} {t u : State} (h : StationsTurned xs st o s t)
    (k : StationsTurned ys st o t u)
    (hp : t.stationPort = s.stationPort) (hup : t.fabric.up = s.fabric.up) (hd : ∀ i ∈ ys, i ∉ xs) :
    StationsTurned (xs ++ ys) st o s u where
  frame := h.frame.trans k.frame
  stations i := by
    have hseq : t.fabric.nextSeq = s.fabric.nextSeq := by
      funext q
      rw [Fabric.nextSeq, hup, Fabric.nextSeq]
    rw [k.stations]
    by_cases hy : i ∈ ys
    · rw [if_pos hy, if_pos (List.mem_append_right xs hy), h.stations, if_neg (hd i hy), Station.turned, hseq,
        h.frame.now]
      rfl
    · rw [if_neg hy, h.stations]
      exact if_congr (by rw [List.mem_append, or_iff_left hy]) rfl rfl
  fabric := by
    rw [k.fabric, h.fabric, List.foldl_append]
    refine List.foldl_ext _ _ _ fun f i hi => ?_
    rw [hp]
    unfold State.orderedAt
    rw [h.stations, if_neg (hd i hi)]
  heard := by
    have hheard := k.heard
    rw [h.frame.now] at hheard
    rw [List.map_append]
    exact h.heard.trans hheard

theorem turnStation_up : (turnStation i st true s).fabric.up = s.fabric.up := (turnStation_steady i st true s).up

theorem forEach_turned (hx : xs.Nodup) (hc : ∀ i ∈ xs, (s.stations.get i).conf.isSome = true)
    (ho : orderFor st = some o) : StationsTurned xs st o s (forEach xs (fun i => turnStation i st true) s) := by
  induction xs generalizing s with
  | nil => exact ⟨.refl _ s, fun _ => rfl, rfl, .nil _ s⟩
  | cons i xs ih =>
    obtain ⟨hi, hnodup⟩ := List.nodup_cons.1 hx
    obtain ⟨x, hconf⟩ := Option.isSome_iff_exists.1 (hc i List.mem_cons_self)
    have hfirst := turnStation_turned hconf ho
    have hne : ∀ j ∈ xs, j ∉ [i] := fun j hj he => hi (List.mem_singleton.1 he ▸ hj)
    refine hfirst.append (ih hnodup fun j hj => ?_) (turnStation_stationPort i st true s) turnStation_up hne
    rw [hfirst.stations, if_neg (hne j hj)]
    exact hc j (List.mem_cons_of_mem i hj)

end turned

/-! ### A window moved (R37) -/

/-- The Fabric Port after the ORDERs of the stations of the window of `a` that stand in state `before`. -/
def State.windowOrdered (s : State) (a : GrantAsk) (before : StationState) (o : Order) : Fabric :=
  (numbers 32).foldl (fun f i => s.orderedAt o f i (standsIn s a before i)) s.fabric

/-- What the links hear of the stations of the window of `a` that go from `before` to `after`. -/
def State.windowHeard (s : State) (a : GrantAsk) (before after : StationState) : List Heard :=
  ((numbers 32).filter (s.standsAt a before)).map fun i => ⟨noticeStation i after, true⟩

/-- From `s` to `t` the stations of the window of `a` have gone from `before` to `after`, each with the ORDER `o`. -/
structure WindowMoved (a : GrantAsk) (before after : StationState) (o : Order) (s t : State) : Prop where
  frame : SameBut ([.stations, .fabric] ++ allLinks) s t
  stations : ∀ i, t.stations.get i = stationMoved a before after s i
  fabric : t.fabric = s.windowOrdered a before o
  heard : Hears (s.windowHeard a before after) s.now s t

theorem moveWindow_moved (a : GrantAsk) (before : StationState) {after : StationState} {o : Order}
    (ho : orderFor after = some o) (s : State) :
    WindowMoved a before after o s (moveWindow a before after s) := by
  have hmem : ∀ i, i ∈ (numbers 32).filter (s.standsAt a before) ↔ s.standsAt a before i = true := fun i => by
    rw [List.mem_filter, numbers, and_iff_right (List.mem_finRange i)]
  obtain ⟨hframe, hstations, hfabric, hheard⟩ := forEach_turned (s := s)
    ((List.nodup_finRange 32).filter (s.standsAt a before)) (fun i hi => by
      obtain ⟨x, hx, _⟩ := standsAt_iff.1 ((hmem i).1 hi)
      rw [hx]
      rfl) ho
  refine ⟨hframe, fun i => (hstations i).trans ?_, hfabric.trans ?_, hheard⟩
  · rw [stationMoved, standsIn_isSome]
    exact if_congr (hmem i) rfl rfl
  · rw [List.foldl_filter]
    refine List.foldl_ext _ _ _ fun f i _ => ?_
    split
    next h => rw [standsIn_of_standsAt h]
    next h =>
      rw [standsIn_of_not_standsAt h]
      rfl

/-! ### A state that differs elsewhere -/

section base
variable {ps : List Part} {s u : State} {a : GrantAsk} {before after : StationState} {o : Order} (h : SameBut ps s u)
include h

theorem SameBut.standsIn (h1 : Part.stations ∉ ps := by decide) : standsIn u a before = standsIn s a before := by
  funext i
  unfold Machine.standsIn
  rw [h.stations h1]

theorem SameBut.windowHeard (h1 : Part.stations ∉ ps := by decide) :
    u.windowHeard a before after = s.windowHeard a before after := by
  have hstands : u.standsAt a before = s.standsAt a before := funext fun i => by
    rw [← standsIn_isSome, h.standsIn h1, standsIn_isSome]
  rw [State.windowHeard, hstands]
  rfl

theorem SameBut.stationMoved (h1 : Part.stations ∉ ps := by decide) (h2 : Part.fabric ∉ ps := by decide)
    (h3 : Part.time ∉ ps := by decide) : stationMoved a before after u = stationMoved a before after s := by
  funext i
  rw [Machine.stationMoved, h.standsIn h1, h.stations h1, h.fabric h2, h.now h3]
  rfl

theorem SameBut.windowOrdered (h1 : Part.stations ∉ ps := by decide) (h2 : Part.fabric ∉ ps := by decide) :
    u.windowOrdered a before o = s.windowOrdered a before o := by
  have hordered : u.orderedAt = s.orderedAt := by
    funext o f i p
    unfold State.orderedAt
    rw [h.stations h1]
  rw [State.windowOrdered, hordered, h.standsIn h1, h.fabric h2]
  rfl

end base

/-- The Grant Table of a state put in place of that of another. -/
theorem SameBut.withGrants {ps : List Part} {s u : State} (hg : SameBut (.grants :: ps) s u) :
    SameBut ps { s with grants := u.grants } u := by
  intro p hp
  by_cases hgrants : p = .grants
  · subst hgrants
    rfl
  · have hsame := hg p (by simp [hgrants, hp])
    cases p with
    | link l => cases l <;> exact hsame
    | grants => exact absurd rfl hgrants
    | _ => exact hsame

end Sys2Proof.Machine
end

section
/-! GRANT-CONCUR: its checks, the stations that enter SERVICE, and the lists that they hold up. -/

namespace Sys2Proof.Machine

-- One proof after the other: each waiting thread would hold its own stack.
set_option Elab.async false

/-! ### The checks (R151) -/

section checks
variable {b : Byte} {k : Fin 4} {a : GrantAsk} {s : State}

theorem runsIn_iff : s.runsIn a = true ↔ ∃ i, standsIn s a .run i ≠ none := by
  have hstands : s.runsIn a = (numbers 32).any (s.standsAt a .run) := by
    unfold State.runsIn State.standsAt
    refine congrArg _ (funext fun i => ?_)
    cases s.stationPort i <;> rfl
  rw [hstands, any_numbers]
  exact exists_congr fun i => by rw [← standsIn_isSome, Option.isSome_iff_ne_none]

variable (hn : s.named b a.number = .ok k) (ha : (s.grants.slots.get k).ask = some a)
include hn

theorem ownGrantConcur_not_asked (hs : (s.grants.slots.get k).state ≠ .asked) :
    ownGrantConcur b a.number s = refuse .refusedState s := by
  rw [ownGrantConcur, hn]
  dsimp only
  split
  next hasked _ => exact absurd hasked hs
  · rfl

include ha

theorem ownGrantConcur_runs (hr : a.level = .intervene ∧ ∃ i, standsIn s a .run i ≠ none) :
    ownGrantConcur b a.number s = refuse .refusedState s := by
  by_cases hs : (s.grants.slots.get k).state = .asked
  · rw [ownGrantConcur, hn]
    dsimp only
    rw [hs, ha]
    exact if_pos ⟨hr.1, runsIn_iff.2 hr.2⟩
  · exact ownGrantConcur_not_asked hn hs

theorem ownGrantConcur_asked (hs : (s.grants.slots.get k).state = .asked)
    (hr : ¬ (a.level = .intervene ∧ ∃ i, standsIn s a .run i ≠ none)) :
    ownGrantConcur b a.number s = done (timeBytes (s.now + a.lease * 1000000000)) (concur k a s) := by
  rw [ownGrantConcur, hn]
  dsimp only
  rw [hs, ha]
  refine (if_neg fun h => hr ⟨h.1, runsIn_iff.1 h.2⟩).trans ?_
  rw [secToNs_eq]

end checks

/-! ### The lists held up (R58) -/

/-- The streams that hold CYCLIC traffic on a port of a HELD station of the window. -/
def State.heldUpIn (s : State) (a : GrantAsk) (i : Fin 128) : Bool :=
  (numbers 32).any fun j => (standsIn s a .held j).any (heldCyclic s · i)

/-- The ports of the HELD stations of the window. -/
def State.entersOn (s : State) (a : GrantAsk) (p : Fin 24) : Bool :=
  (numbers 32).any fun i => s.standsAt a .held i && s.stationPort i == some p

theorem entersOn_iff {s : State} {a : GrantAsk} {p : Fin 24} :
    s.entersOn a p = true ↔ ∃ j, standsIn s a .held j = some p := by
  rw [State.entersOn, any_numbers]
  exact exists_congr fun j => by rw [Bool.and_eq_true, beq_iff_eq, standsIn_eq_some]

theorem heldUpIn_eq (s : State) (a : GrantAsk) (i : Fin 128) :
    ((s.streams.get i).egress.any (s.entersOn a) && (s.streams.get i).cls == some .cyclic &&
      !(s.streams.get i).ownedBySc) = s.heldUpIn a i := by
  rw [Bool.eq_iff_iff, State.heldUpIn, any_numbers]
  unfold heldCyclic Stream.ownedBySc
  simp only [Bool.and_eq_true, Option.any_eq_true, entersOn_iff, beq_iff_eq, bne]
  constructor
  · rintro ⟨⟨⟨p, he, j, hj⟩, hclass⟩, howner⟩
    exact ⟨j, p, hj, ⟨he, hclass⟩, howner⟩
  · rintro ⟨j, p, hj, ⟨he, hclass⟩, howner⟩
    exact ⟨⟨⟨p, he, j, hj⟩, hclass⟩, howner⟩

theorem SameBut.heldUpIn {ps : List Part} {s u : State} (h : SameBut ps s u) {a : GrantAsk}
    (h1 : Part.stations ∉ ps := by decide) (h2 : Part.streams ∉ ps := by decide) : u.heldUpIn a = s.heldUpIn a := by
  have hcyclic : heldCyclic u = heldCyclic s := by
    funext p i
    rw [heldCyclic, h.streams h2]
    rfl
  funext i
  rw [State.heldUpIn, h.standsIn h1, hcyclic]
  rfl

/-- From `s` to `t` the HELD stations of the window of `a` have entered SERVICE, and the lists that they hold up are
emptied (R151, step 3). -/
structure WindowEntered (a : GrantAsk) (s t : State) : Prop where
  frame : SameBut ([.stations, .streams, .store, .storeDiscards, .fabric] ++ allLinks) s t
  stations : ∀ i, t.stations.get i = stationMoved a .held .service s i
  store : t.store = emptiedStore (s.heldUpIn a) s
  counts : t.storeDiscards = emptiedCounts .held (s.heldUpIn a) s
  streams : ∀ i, t.streams.get i = emptiedStream .held (s.heldUpIn a) s i
  fabric : t.fabric = emptiedFrom .held (s.heldUpIn a) s (s.windowOrdered a .held .service)
  heard : Hears (s.windowHeard a .held .service ++ heardEmptying .held (s.heldUpIn a) (fun _ => []) s) s.now s t

theorem enterWindow_entered {a : GrantAsk} {s : State} (hs : HandleInv s) : WindowEntered a s (enterWindow a s) := by
  obtain ⟨hframe, hstations, hfabric, hheard⟩ := moveWindow_moved a .held (after := .service) rfl s
  have hemptied := discardStreams_emptied .held
    (fun x => x.egress.any (s.entersOn a) && x.cls == some .cyclic && !x.ownedBySc)
    ((moveWindow_steady a .held .service s).handle hs)
  simp only [hframe.streams, heldUpIn_eq] at hemptied
  obtain ⟨hstore, hlane, hcounts, hrecords, hempty⟩ := hemptied.rebase hframe
  rw [hfabric] at hlane
  exact ⟨(hframe.mono (by decide)).trans (hemptied.frame.mono (by decide)),
    fun i => by rw [← hstations, ← hemptied.frame.stations]; rfl, hstore, hcounts, hrecords, hlane, hheard.trans hempty⟩

/-- What has entered SERVICE, read from a state that differs elsewhere. -/
theorem WindowEntered.rebase {ps : List Part} {a : GrantAsk} {s u t : State} (h : WindowEntered a u t)
    (hb : SameBut ps s u)
    (h1 : Part.stations ∉ ps := by decide) (h2 : Part.streams ∉ ps := by decide) (h3 : Part.store ∉ ps := by decide)
    (h4 : Part.storeDiscards ∉ ps := by decide) (h5 : Part.fabric ∉ ps := by decide)
    (h6 : Part.time ∉ ps := by decide) :
    (∀ i, t.stations.get i = stationMoved a .held .service s i) ∧ t.store = emptiedStore (s.heldUpIn a) s ∧
    t.storeDiscards = emptiedCounts .held (s.heldUpIn a) s ∧
    (∀ i, t.streams.get i = emptiedStream .held (s.heldUpIn a) s i) ∧
    t.fabric = emptiedFrom .held (s.heldUpIn a) s (s.windowOrdered a .held .service) := by
  obtain ⟨_, hstations, hstore, hcounts, hstreams, hfabric, _⟩ := h
  rw [hb.stationMoved h1 h5 h6] at hstations
  rw [hb.heldUpIn h1 h2, hb.emptiedStore h3] at hstore
  rw [hb.heldUpIn h1 h2, hb.emptiedCounts h3 h4] at hcounts
  rw [hb.heldUpIn h1 h2, hb.emptiedStream h3 h2] at hstreams
  rw [hb.heldUpIn h1 h2, hb.emptiedFrom h3, hb.windowOrdered h1 h5] at hfabric
  exact ⟨hstations, hstore, hcounts, hstreams, hfabric⟩

/-! ### The grant that becomes ACTIVE (R154) -/

section concur
variable {k : Fin 4} {a : GrantAsk} {s : State}

/-- The slot activated. -/
def State.activatedAt (s : State) (k : Fin 4) (a : GrantAsk) : State := s.onSlot k (·.activate a s.now)

theorem activatedAt_frame : SameBut [.grants] s (s.activatedAt k a) := State.onSlot_frame k _ s

theorem concur_grants : (concur k a s).grants = (s.activatedAt k a).grants := by
  unfold concur
  dsimp only
  rw [(postAll_frame _ _).grants]
  split
  · exact (enterWindow_frame a _).grants
  · rfl

theorem activatedAt_slot (ha : (s.grants.slots.get k).ask = some a) :
    (s.activatedAt k a).grants.slots.get k = activated a s.now (s.grants.slots.get k) := by
  rw [State.activatedAt, onSlot_get_self, GrantSlot.activate_eq a _ _ ha]

/-- Below INTERVENE the slot alone is changed. -/
theorem concur_below (h : a.level ≠ .intervene) :
    SameBut ([.grants] ++ allLinks) s (concur k a s) ∧
      Hears [toAll (noticeGrant k .active)] s.now s (concur k a s) := by
  rw [concur, if_neg h]
  exact ⟨postAll_onSlot_frame _ k _ s, postAll_onSlot_hears _ k _ s⟩

theorem concur_at_intervene (h : a.level = .intervene) :
    concur k a s = postAll (noticeGrant k .active) (enterWindow a (s.activatedAt k a)) :=
  congrArg (postAll (noticeGrant k .active)) (if_pos h)

/-- At INTERVENE the stations of the window enter SERVICE, with the grant counted as ACTIVE. -/
theorem concur_intervene (h : a.level = .intervene) (hs : HandleInv s) :
    SameBut ([.grants, .stations, .streams, .store, .storeDiscards, .fabric] ++ allLinks) s (concur k a s) ∧
      WindowEntered a (s.activatedAt k a) (enterWindow a (s.activatedAt k a)) ∧
      SameBut allLinks (enterWindow a (s.activatedAt k a)) (concur k a s) ∧
      Hears (s.windowHeard a .held .service ++
          heardEmptying .held (s.heldUpIn a) (fun _ => []) (s.activatedAt k a) ++ [toAll (noticeGrant k .active)])
        s.now s (concur k a s) := by
  have hbase := activatedAt_frame (k := k) (a := a) (s := s)
  have hentered : WindowEntered a (s.activatedAt k a) (enterWindow a (s.activatedAt k a)) :=
    enterWindow_entered (hbase.handleInv hs)
  have hheard := (hbase.hears s.now (by simp)).trans (hbase.now ▸ hentered.heard)
  rw [hbase.windowHeard, hbase.heldUpIn, List.nil_append] at hheard
  have hpost := postAll_hears (noticeGrant k .active) (enterWindow a (s.activatedAt k a))
  rw [hentered.frame.now, hbase.now] at hpost
  rw [concur_at_intervene h]
  refine ⟨?_, hentered, postAll_frame _ _, hheard.trans hpost⟩
  exact (hbase.mono (by decide)).trans ((hentered.frame.mono (by decide)).trans ((postAll_frame _ _).mono (by decide)))

end concur

/-- Settles O43: the slot is activated before the stations move and the lists are emptied, so what the Station Map and
the Stream Table do is read from the state with the grant counted as ACTIVE. -/
theorem grantConcurActivates : Obligations.GrantConcurActivates := by
  unfold Obligations.GrantConcurActivates
  rintro tag b n k a s hw hs - hb ha rfl q c g runs
  have ht : Taken .lc q s := ⟨hw, rfl⟩
  have hname : (held .lc tag q s).named b a.number = .ok k := by rw [held_named, named_ask hb ha]
  have hask : ((held .lc tag q s).grants.slots.get k).ask = some a := ha
  refine ⟨fun h => request_onlyReplies rfl ht rfl ?_, fun hasked hruns => ?_⟩
  · obtain h | h := h
    · exact ownGrantConcur_not_asked hname h
    · exact ownGrantConcur_runs hname hask h
  have hown := ownGrantConcur_asked hname hask hasked hruns
  have hslot := activatedAt_slot hask
  have hothers := onSlot_others k (·.activate a s.now) (held .lc tag q s)
  by_cases hl : a.level = .intervene
  · have hbase : SameBut [.grants, .link .lc] s ((held .lc tag q s).activatedAt k a) :=
      ((held_frame .lc tag q s).mono (by decide)).trans (activatedAt_frame.mono (by decide))
    obtain ⟨hparts, hentered, hafter, hheard⟩ := concur_intervene (k := k) hl (s := held .lc tag q s) hs
    obtain ⟨hstations, hstore, hcounts, hstreams, hfabric⟩ := hentered.rebase hbase
    have hheld := held_frame .lc tag q s
    rw [hheld.windowHeard, hheld.heldUpIn, held_now] at hheard
    obtain ⟨t, hx, hreply, hrest, hframe⟩ := request_completes (c := c) rfl ht rfl hown hheard
    have hgrants := (hrest.grants (by simp)).trans concur_grants
    have hlast := (hafter.mono (by simp)).trans (hrest.mono (qs := allLinks) (by simp [allLinks]))
    refine ⟨t, hx, ?_, ?_, ?_, ?_, fun h => absurd hl h,
      fun _ => ⟨hframe _ hparts, fun i => by rw [hlast.stations, hstations], hlast.store.trans hstore,
        hlast.storeDiscards.trans hcounts, fun i => by rw [hlast.streams]; exact hstreams i,
        hlast.fabric.trans hfabric, ?_⟩⟩ <;> rw [hgrants]
    · exact hothers
    · exact hslot
    · rfl
    · rfl
    · simp only [standsIn_isSome]
      rw [hbase.withGrants.heardEmptying] at hreply
      exact hreply
  · obtain ⟨hframe, hheard⟩ := concur_below (k := k) (s := held .lc tag q s) hl
    obtain ⟨t, hx, hreply, hframe, hgrants⟩ := request_grants (c := c) rfl ht rfl hown hheard hframe
    rw [concur_grants] at hgrants
    refine ⟨t, hx, ?_, ?_, ?_, ?_, fun _ => ⟨hframe, hreply⟩, fun h => absurd h hl⟩ <;> rw [hgrants]
    · exact hothers
    · exact hslot
    · rfl
    · rfl

end Sys2Proof.Machine
end

section
/-! The streams that the end of a grant closes (R51): each is closed with flush on its own record and slots. -/

namespace Sys2Proof.Machine

-- One proof after the other: each waiting thread would hold its own stack.
set_option Elab.async false

/-! ### One stream closed (R47, R49) -/

/-- The record of stream `i` after the streams of `sel` have been closed with flush by the end of a grant. -/
def closedStream (sel : Fin 128 → Bool) (s : State) (i : Fin 128) : Stream :=
  let x := s.streams.get i
  if sel i then { x with
    state := if (emptiedStore sel s).any (·.stream == i) then .draining else .free
    closeReason := x.reasonAfter .grantEnded
    discards := countedTimes .flushed (s.pendingList i).length x.discards }
  else x

/-- What the links hear of stream `i` when the streams of `sel` are closed so. -/
def heardClosed (sel : Fin 128 → Bool) (s : State) (i : Fin 128) : List Heard :=
  let x := s.streams.get i
  if sel i then
    heardDiscards .flushed (s.pendingList i).length i s ++
      if (emptiedStore sel s).any (·.stream == i) then []
      else [byPort s x.egress (noticeDrained i (x.reasonAfter .grantEnded))]
  else []

section one
variable {s u : State} {sel : Fin 128 → Bool} {i : Fin 128}

/-- A stream keeps a slot where its pending list has gone and a WIRE-HELD descriptor is left. -/
theorem Shows.left_iff (h : Shows i s u) (hsel : sel i = true) :
    (without (u.pendingList i) u.store).all (·.stream != i) = true ↔
      ¬ (emptiedStore sel s).any (·.stream == i) = true := by
  rw [without_pendingList_all h.handle, h.slots, ← emptiedStore_all hsel, List.all_eq_not_any_not, Bool.not_eq_true',
    Bool.not_eq_true]
  simp only [bne, Bool.not_not]

theorem Shows.closed (h : Shows i s u) (hsel : sel i = true) :
    Loses i .flushed (s.dropped sel i) (closedStream sel s i) (heardClosed sel s i) u (closeFlush .grantEnded i u) := by
  have hloses := closeFlush_loses .grantEnded i u
  dsimp only at hloses
  rw [if_congr (h.left_iff hsel) rfl rfl, if_congr (h.left_iff hsel) rfl rfl, ite_not, ite_not, h.record, h.pendingList,
    h.heardDiscards, h.frame.byPort] at hloses
  rw [State.dropped, if_pos hsel, closedStream, if_pos hsel, heardClosed, if_pos hsel]
  exact hloses

theorem Shows.not_closed (h : Shows i s u) (hsel : sel i = false) :
    Loses i .flushed (s.dropped sel i) (closedStream sel s i) (heardClosed sel s i) u u := by
  rw [State.dropped, closedStream, heardClosed, hsel]
  exact h.unchanged .flushed

end one

/-! ### Every stream closed (R51) -/

/-- From `s` to `t` the streams of `sel` have been closed with flush by the end of a grant, in ascending number. -/
structure StreamsClosed (sel : Fin 128 → Bool) (s t : State) : Prop where
  frame : SameBut discardParts s t
  store : t.store = emptiedStore sel s
  fabric : t.fabric = emptiedFabric .flushed sel s
  counts : t.storeDiscards = emptiedCounts .flushed sel s
  records : ∀ i, t.streams.get i = closedStream sel s i
  heard : Hears ((numbers 128).flatMap (heardClosed sel s)) s.now s t

section closed
variable {s : State} {sel : Fin 128 → Bool} {f : Fin 128 → State → State}

theorem forEach_closed (hs : HandleInv s)
    (hf : ∀ i u, Shows i s u → f i u = if sel i then closeFlush .grantEnded i u else u) :
    StreamsClosed sel s (forEach (numbers 128) f s) := by
  obtain ⟨hframe, ⟨hstore, hfabric, hcounts⟩, _, hrecords, hheard⟩ :=
    forEach_losesEach (why := .flushed) (y := closedStream sel s) (ns := heardClosed sel s) (f := f)
      (List.nodup_finRange 128) hs (fun _ _ _ hd => dropped_slots (sel := sel) hd) fun i _ u hu => by
        rw [hf i u hu]
        split
        next h => exact hu.closed h
        next h => exact hu.not_closed (Bool.eq_false_iff.2 h)
  refine ⟨hframe, ?_, ?_, ?_, fun i => hrecords i (List.mem_finRange i), hheard⟩
  · exact hstore.trans (without_eq_emptiedStore hs fun _ => mem_all_dropped)
  · exact hfabric.trans (discards_flatMap_dropped .flushed s sel _ _)
  · exact hcounts.trans (congrArg (fun n => countedTimes .flushed n s.storeDiscards) (all_dropped_length hs))

theorem closed_none (hs : HandleInv s) : StreamsClosed (fun _ => false) s s := by
  have hclosed := forEach_closed (f := fun _ u => u) (sel := fun _ => false) hs fun _ _ _ => rfl
  rwa [forEach_idle] at hclosed

theorem endedBy_congr {a : GrantAsk} {i : Fin 128} {u : State} (hx : u.streams.get i = s.streams.get i)
    (hg : u.grants = s.grants) : u.endedBy a i = s.endedBy a i := by
  unfold State.endedBy State.covered
  rw [hx, hg]

theorem closeEnded_closed (a : GrantAsk) (hs : HandleInv s) : StreamsClosed (s.endedBy a) s (closeEnded a s) :=
  forEach_closed hs fun i u hu => by rw [endedBy_congr hu.record hu.frame.grants]

section base
variable {ps : List Part} {u : State} (h : SameBut ps s u)
include h

theorem SameBut.closedStream (h1 : Part.store ∉ ps := by decide) (h2 : Part.streams ∉ ps := by decide) :
    closedStream sel u = closedStream sel s := by
  funext i
  rw [Machine.closedStream, h.streams h2, h.emptiedStore h1, h.pendingList h1]
  rfl

theorem SameBut.heardClosed (h1 : Part.store ∉ ps := by decide) (h2 : Part.streams ∉ ps := by decide)
    (h3 : Part.grants ∉ ps := by decide) : heardClosed sel u = heardClosed sel s := by
  funext i
  rw [Machine.heardClosed, heardDiscards, h.streams h2, h.emptiedStore h1, h.pendingList h1, h.streamPort h2,
    h.byPort h3]
  rfl

end base

/-- Streams closed, read from a state that differs neither in the streams, the store, the lane nor the grants. -/
theorem StreamsClosed.rebase {ps : List Part} {u t : State} (h : StreamsClosed sel u t) (hb : SameBut ps s u)
    (h1 : Part.store ∉ ps := by decide) (h2 : Part.streams ∉ ps := by decide) (h3 : Part.grants ∉ ps := by decide)
    (h4 : Part.storeDiscards ∉ ps := by decide) (h5 : Part.time ∉ ps := by decide) :
    t.store = emptiedStore sel s ∧ t.fabric = emptiedFrom .flushed sel s u.fabric ∧
    t.storeDiscards = emptiedCounts .flushed sel s ∧ (∀ i, t.streams.get i = closedStream sel s i) ∧
    Hears ((numbers 128).flatMap (heardClosed sel s)) s.now u t := by
  obtain ⟨_, hstore, hfabric, hcounts, hrecords, hheard⟩ := h
  rw [hb.emptiedStore h1] at hstore
  rw [emptiedFabric, hb.emptiedFrom h1] at hfabric
  rw [hb.emptiedCounts h1 h4] at hcounts
  rw [hb.closedStream h1 h2] at hrecords
  rw [hb.heardClosed h1 h2 h3, hb.now h5] at hheard
  exact ⟨hstore, hfabric, hcounts, hrecords, hheard⟩

end closed

end Sys2Proof.Machine
end

section
/-! The end of a grant (R159), and its causes (R152, R153, R156 to R158). -/

namespace Sys2Proof.Machine

-- One proof after the other: each waiting thread would hold its own stack.
set_option Elab.async false

/-! ### What the ended grant covered (R51) -/

/-- The slot FREE. -/
def State.freedAt (s : State) (k : Fin 4) (why : EndReason) : State := s.onSlot k (·.release why)

section covered
variable {k : Fin 4} {why : EndReason} {a : GrantAsk} {s : State}

theorem freedAt_frame : SameBut [.grants] s (s.freedAt k why) := State.onSlot_frame k _ s

/-- Once a slot is FREE, a port is covered where another slot covers it. -/
theorem freedAt_covered (v : GrantLevel) (p : Fin 24) : (s.freedAt k why).covered v p = true ↔
    ∃ j, j ≠ k ∧ (s.grants.slots.get j).covers v p = true := by
  rw [State.covered, Tbl.any_xs]
  refine exists_congr fun j => ?_
  by_cases hj : j = k
  · subst hj
    rw [State.freedAt, onSlot_get_self]
    exact ⟨nofun, fun h => absurd rfl h.1⟩
  · rw [State.freedAt, onSlot_others k _ s j hj, and_iff_right hj]

theorem Stream.live_eq (x : Stream) : x.live = (x.state != .free) := by
  unfold Stream.live
  cases x.state <;> rfl

theorem freedAt_endedBy (i : Fin 128) : (s.freedAt k why).endedBy a i = closedByEnd s k a i := by
  have hcovered : ∀ p, (!(s.freedAt k why).covered .configure p) =
      (numbers 4).all fun j => j == k || !(s.grants.slots.get j).covers .configure p := fun p => by
    rw [Bool.eq_iff_iff, Bool.not_eq_true', ← Bool.not_eq_true, freedAt_covered, List.all_eq_true]
    simp [numbers, List.mem_finRange, or_iff_not_imp_left]
  rw [State.endedBy, freedAt_frame.streams, Stream.live_eq, closedByEnd]
  cases (s.streams.get i).egress with
  | none => rfl
  | some p =>
    refine congrArg _ ?_
    exact congrArg (a.holds p && ·) (hcovered p)

end covered

/-! ### The end in its steps (R159) -/

/-- The slot FREE, and the SERVICE stations of an INTERVENE window gone to HELD (R159, steps 1 and 2). -/
def State.afterMoves (s : State) (k : Fin 4) (why : EndReason) (a : GrantAsk) : State :=
  if (s.grants.slots.get k).state = .active ∧ a.level = .intervene then
    moveWindow a .service .held (s.freedAt k why)
  else s.freedAt k why

/-- And the streams of R51 closed (R159, step 3). -/
def State.afterCloses (s : State) (k : Fin 4) (why : EndReason) (a : GrantAsk) : State :=
  if (s.grants.slots.get k).state = .active ∧ a.level ≠ .observe then closeEnded a (s.afterMoves k why a)
  else s.afterMoves k why a

/-- The streams that the end of the grant `a` of slot `k` closes. -/
def State.closesAtEnd (s : State) (k : Fin 4) (a : GrantAsk) (i : Fin 128) : Bool :=
  decide ((s.grants.slots.get k).state = .active ∧ a.level ≠ .observe) && closedByEnd s k a i

section steps
variable {k : Fin 4} {why : EndReason} {a : GrantAsk} {s : State}

theorem endGrant_eq (ha : (s.grants.slots.get k).ask = some a) :
    endGrant k why s = postAll (noticeGrant k (.ended why)) (s.afterCloses k why a) := by
  unfold endGrant State.afterCloses State.afterMoves
  refine congrArg (postAll (noticeGrant k (.ended why))) ?_
  rw [ha]
  by_cases hs : (s.grants.slots.get k).state = .active
  · have hconf : a.level.configures = true ↔ a.level ≠ .observe := by cases a.level <;> decide
    simp only [hs, true_and, withdraw, if_congr hconf rfl rfl]
    rfl
  · rw [if_neg fun h => hs h.1, if_neg fun h => hs h.1]
    split
    next hactive _ => exact absurd hactive hs
    · rfl

/-- From the FREE slot on, steps 1 and 2 move the stations of the window alone. -/
theorem afterMoves_frame : SameBut ([.stations, .fabric] ++ allLinks) (s.freedAt k why) (s.afterMoves k why a) :=
  .ite _ (moveWindow_moved a .service (after := .held) rfl _).frame (.refl _ _)

theorem afterMoves_handleInv (hs : HandleInv s) : HandleInv (s.afterMoves k why a) := by
  have hfree : HandleInv (s.freedAt k why) := freedAt_frame.handleInv hs
  unfold State.afterMoves
  split
  · exact (moveWindow_steady a _ _ _).handle hfree
  · exact hfree

/-- R159, step 2. -/
theorem afterMoves_moved :
    let moves := (s.grants.slots.get k).state = .active ∧ a.level = .intervene
    (∀ i, (s.afterMoves k why a).stations.get i =
      if moves then stationMoved a .service .held s i else s.stations.get i) ∧
    (s.afterMoves k why a).fabric = (if moves then s.windowOrdered a .service .hold else s.fabric) ∧
    Hears (if moves then s.windowHeard a .service .held else []) s.now s (s.afterMoves k why a) := by
  have hfreed := freedAt_frame (k := k) (why := why) (s := s)
  have hquiet := hfreed.hears s.now (by simp)
  unfold State.afterMoves
  by_cases h : (s.grants.slots.get k).state = .active ∧ a.level = .intervene
  · obtain ⟨_, hstations, hfabric, hheard⟩ := moveWindow_moved a .service (after := .held) rfl (s.freedAt k why)
    rw [hfreed.stationMoved] at hstations
    rw [hfreed.windowOrdered] at hfabric
    rw [hfreed.windowHeard, hfreed.now] at hheard
    simp only [if_pos h]
    exact ⟨hstations, hfabric, hquiet.trans hheard⟩
  · simp only [if_neg h]
    exact ⟨fun _ => by rw [hfreed.stations], hfreed.fabric, hquiet⟩

/-- R159, step 3. -/
theorem afterCloses_closed (hs : HandleInv s) :
    StreamsClosed (s.closesAtEnd k a) (s.afterMoves k why a) (s.afterCloses k why a) := by
  have hmoved := afterMoves_handleInv (k := k) (why := why) (a := a) hs
  have hframe := afterMoves_frame (s := s) (k := k) (why := why) (a := a)
  unfold State.closesAtEnd State.afterCloses
  by_cases h : (s.grants.slots.get k).state = .active ∧ a.level ≠ .observe
  · have hsel : closedByEnd s k a = (s.afterMoves k why a).endedBy a := funext fun i => by
      rw [endedBy_congr (by rw [hframe.streams]) hframe.grants, freedAt_endedBy]
    simp only [if_pos h, decide_eq_true h, Bool.true_and, hsel]
    exact closeEnded_closed a hmoved
  · simp only [if_neg h, decide_eq_false h, Bool.false_and]
    exact closed_none hmoved

end steps

/-! ### The end as a whole (R159, R160) -/

section ended
variable {k : Fin 4} {why : EndReason} {a : GrantAsk} {s : State}

theorem windowHeard_eq (before after : StationState) : s.windowHeard a before after =
    (numbers 32).filterMap fun i => (standsIn s a before i).map fun _ => (⟨noticeStation i after, true⟩ : Heard) := by
  rw [State.windowHeard, ← List.filterMap_eq_map, List.filterMap_filter]
  refine List.filterMap_congr fun i _ => ?_
  rw [← standsIn_isSome]
  cases standsIn s a before i <;> rfl

theorem heardEnd_eq : heardEnd k why a s (s.freedAt k why) =
    (if (s.grants.slots.get k).state = .active ∧ a.level = .intervene then s.windowHeard a .service .held else []) ++
      (numbers 128).flatMap (heardClosed (s.closesAtEnd k a) (s.freedAt k why)) ++
      [toAll (noticeGrant k (.ended why))] := by
  have hfreed := freedAt_frame (k := k) (why := why) (s := s)
  rw [windowHeard_eq]
  unfold heardClosed
  simp only [hfreed.streams, hfreed.pendingList, hfreed.emptiedStore]
  rfl

theorem endGrant_grants : (endGrant k why s).grants = (s.freedAt k why).grants := by
  unfold endGrant
  dsimp only
  rw [(postAll_frame _ _).grants]
  split
  · exact (withdraw_frame _ _).grants
  · rfl

/-- What the end of a grant leaves, and what is heard of it with the coverage that is left. -/
theorem endGrant_ended (hs : HandleInv s) (ha : (s.grants.slots.get k).ask = some a) :
    GrantEnded k why a s (endGrant k why s) ∧
      Hears (heardEnd k why a s (s.freedAt k why)) s.now s (endGrant k why s) := by
  have hfreed := freedAt_frame (k := k) (why := why) (s := s)
  have hgrants := endGrant_grants (k := k) (why := why) (s := s)
  have hmove := afterMoves_frame (s := s) (k := k) (why := why) (a := a)
  obtain ⟨hstations, hlane, hturns⟩ := afterMoves_moved (s := s) (k := k) (why := why) (a := a)
  have hclosed := afterCloses_closed (k := k) (why := why) (a := a) hs
  have hclose := hclosed.frame
  obtain ⟨hstore, hfabric, hcounts, hstreams, hcloses⟩ := hclosed.rebase hmove
  rw [hfreed.emptiedStore] at hstore
  rw [hfreed.emptiedCounts] at hcounts
  rw [hfreed.closedStream] at hstreams
  rw [hfreed.emptiedFrom, hlane] at hfabric
  rw [hfreed.now] at hcloses
  have hlast := postAll_frame (noticeGrant k (.ended why)) (s.afterCloses k why a)
  have hpost := postAll_hears (noticeGrant k (.ended why)) (s.afterCloses k why a)
  rw [hclose.now, hmove.now, hfreed.now] at hpost
  rw [← endGrant_eq ha] at hpost hlast
  refine ⟨⟨?_, ?_, by rw [hgrants]; rfl, by rw [hgrants]; rfl, ?_, fun i => ?_, hlast.store.trans hstore,
    hlast.storeDiscards.trans hcounts, fun i => ?_, hlast.fabric.trans hfabric⟩, ?_⟩
  · exact (hfreed.mono (by decide)).trans ((hmove.mono (by decide)).trans ((hclose.mono (by decide)).trans
      (hlast.mono (by decide))))
  · rw [hgrants]
    exact onSlot_others k _ s
  · rw [hgrants, State.freedAt, onSlot_get_self]
    rfl
  · rw [hlast.stations, hclose.stations]
    exact hstations i
  · rw [hlast.streams]
    exact hstreams i
  · rw [heardEnd_eq]
    exact (hturns.trans hcloses).trans hpost

end ended

/-! ### The causes (R152, R153, R156 to R158) -/

section causes
variable {k : Fin 4} {why : EndReason} {a : GrantAsk} {b : Byte} {s t u : State}

/-- A grant that has ended, read from a state that differs in one link. -/
theorem GrantEnded.of_held {l : Link} {tag : Byte} {r : Request} (h : GrantEnded k why a (held l tag r s) u)
    (hf : SameBut ([.grants, .stations, .streams, .store, .storeDiscards, .fabric] ++ allLinks) s t)
    (hu : SameBut [.link l] u t) : GrantEnded k why a s t := by
  obtain ⟨_, hrest⟩ := h
  refine ⟨hf, ?_⟩
  rw [hu.grants (by simp), hu.stations (by simp), hu.store (by simp), hu.storeDiscards (by simp), hu.streams (by simp),
    hu.fabric (by simp)]
  cases l <;> exact hrest

theorem heardEnd_held (l : Link) (tag : Byte) (r : Request) (s : State) :
    heardEnd k why a (held l tag r s) ((held l tag r s).freedAt k why) = heardEnd k why a s (s.freedAt k why) := by
  cases l <;> rfl

/-- The state with the Grant Table after the end is that with the slot FREE. -/
theorem withGrants_freedAt (hg : t.grants = (s.freedAt k why).grants) :
    { s with grants := t.grants } = s.freedAt k why :=
  congrArg (fun x => { s with grants := x }) hg

/-- A request whose owner ends the grant. -/
theorem request_ends {c : Instr} {l : Link} {tag : Byte} {r : Request} {own : State → Answer}
    (hx : exec c s = .next (request l tag r own s)) (ht : Taken l r s) (hp : placedAtOnce r = false) (hs : HandleInv s)
    (ha : (s.grants.slots.get k).ask = some a)
    (ho : own (held l tag r s) = done [] (endGrant k why (held l tag r s))) :
    Completes c s fun t => GrantEnded k why a s t ∧
      Replied l tag r .done [] (heardEnd k why a s { s with grants := t.grants }) s t := by
  have hinv : HandleInv (held l tag r s) := (held_frame l tag r s).handleInv hs (by simp) (by simp)
  obtain ⟨hended, hheard⟩ := endGrant_ended (why := why) hinv (by rwa [held_grants])
  rw [held_now, heardEnd_held] at hheard
  obtain ⟨t, hx, hreply, hrest, hframe⟩ := request_completes hx ht hp ho hheard
  have hgrants : t.grants = (s.freedAt k why).grants := by
    rw [hrest.grants (by simp), endGrant_grants]
    cases l <;> rfl
  have hparts := hframe [.grants, .stations, .streams, .store, .storeDiscards, .fabric] hended.1
  refine ⟨t, hx, hended.of_held hparts hrest, ?_⟩
  rw [withGrants_freedAt hgrants]
  exact hreply

/-- A deadline that ends the grant. -/
theorem expiry_ends {c : Instr} (hx : exec c s = .next (endGrant k why s)) (hs : HandleInv s)
    (ha : (s.grants.slots.get k).ask = some a) :
    Completes c s fun t =>
      GrantEnded k why a s t ∧ Hears (heardEnd k why a s { s with grants := t.grants }) s.now s t := by
  obtain ⟨hended, hheard⟩ := endGrant_ended (why := why) hs ha
  refine ⟨_, hx, hended, ?_⟩
  rw [withGrants_freedAt endGrant_grants]
  exact hheard

theorem ownGrantDecline_named (hn : s.named b a.number = .ok k) :
    ownGrantDecline b a.number s =
      if (s.grants.slots.get k).state = .asked then done [] (endGrant k .declined s) else refuse .refusedState s := by
  rw [ownGrantDecline, hn]

theorem ownGrantRelease_named (hn : s.named b a.number = .ok k) :
    ownGrantRelease b a.number s =
      if (s.grants.slots.get k).state = .free then refuse .refusedState s else done [] (endGrant k .released s) := by
  rw [ownGrantRelease, hn]

theorem ownGrantRevoke_named (hn : s.named b a.number = .ok k) :
    ownGrantRevoke b a.number s =
      if (s.grants.slots.get k).state = .free then refuse .refusedState s else done [] (endGrant k .revoked s) := by
  rw [ownGrantRevoke, hn]

theorem exec_askTimeout_due {x : Int} (hs : (s.grants.slots.get k).state = .asked)
    (hx : (s.grants.slots.get k).askTimeout = some x) (ht : x ≤ s.now) :
    exec (.askTimeoutExpiry k) s = .next (endGrant k .timeout s) :=
  congrArg _ (if_pos ⟨hs, by rw [hx]; exact reached_some ht⟩)

theorem exec_askTimeout_early
    (h : ∀ x, (s.grants.slots.get k).state = .asked → (s.grants.slots.get k).askTimeout = some x → s.now < x) :
    exec (.askTimeoutExpiry k) s = .next s :=
  congrArg _ (if_neg fun hdue => not_reached (fun x => h x hdue.1) hdue.2)

theorem exec_expiryMt_due {x : Int} (hs : (s.grants.slots.get k).state = .active)
    (hx : (s.grants.slots.get k).expiry = some x) (ht : x ≤ s.now) :
    exec (.expiryMtExpiry k) s = .next (endGrant k .expired s) :=
  congrArg _ (if_pos ⟨hs, by rw [hx]; exact reached_some ht⟩)

theorem exec_expiryMt_early
    (h : ∀ x, (s.grants.slots.get k).state = .active → (s.grants.slots.get k).expiry = some x → s.now < x) :
    exec (.expiryMtExpiry k) s = .next s :=
  congrArg _ (if_neg fun hdue => not_reached (fun x => h x hdue.1) hdue.2)

end causes

/-- Settles O44: every cause ends the grant by `endGrant`, whose steps are judged once. -/
theorem grantsEndByTheirCauses : Obligations.GrantsEndByTheirCauses := by
  unfold Obligations.GrantsEndByTheirCauses
  intro k a s hs ha g after ended expired
  refine ⟨fun l tag b hb => ?_, fun x hg hx ht => expiry_ends (exec_askTimeout_due hg hx ht) hs ha,
    fun h => ⟨s, exec_askTimeout_early h, rfl⟩, fun x hg hx ht => expiry_ends (exec_expiryMt_due hg hx ht) hs ha,
    fun h => ⟨s, exec_expiryMt_early h, rfl⟩⟩
  have hname : ∀ r, (held l tag r s).named b a.number = .ok k := fun r => by rw [held_named, named_ask hb ha]
  have hstate : ∀ r, ((held l tag r s).grants.slots.get k).state = g.state := fun r => by rw [held_grants]
  refine ⟨fun ht => ⟨fun hg => ?_, fun hg => ?_⟩, fun ht => ⟨fun hg => ?_, fun hg => ?_⟩,
    fun ht => ⟨fun hg => ?_, fun hg => ?_⟩⟩
  · exact request_ends rfl ht rfl hs ha ((ownGrantDecline_named (hname _)).trans (if_pos (by rw [hstate, hg])))
  · exact request_onlyReplies rfl ht rfl ((ownGrantDecline_named (hname _)).trans (if_neg (by rw [hstate]; exact hg)))
  · exact request_ends rfl ht rfl hs ha ((ownGrantRelease_named (hname _)).trans (if_neg (by rw [hstate]; exact hg)))
  · exact request_onlyReplies rfl ht rfl ((ownGrantRelease_named (hname _)).trans (if_pos (by rw [hstate, hg])))
  · exact request_ends rfl ht rfl hs ha ((ownGrantRevoke_named (hname _)).trans (if_neg (by rw [hstate]; exact hg)))
  · exact request_onlyReplies rfl ht rfl ((ownGrantRevoke_named (hname _)).trans (if_pos (by rw [hstate, hg])))

end Sys2Proof.Machine
end

section
/-! The check value of a message (R195): what is sent passes it, and the layouts of section 11.5 are the bytes sent. -/

namespace Sys2Proof.Machine

-- One proof after the other: each waiting thread would hold its own stack.
set_option Elab.async false

/-! ### A message with its check value -/

theorem checkCrc_withCrc (bs : List Byte) : checkCrc (withCrc bs) = (bs, true) := by
  have hlength : (withCrc bs).length - 2 = bs.length := by simp [withCrc]
  have htake : (withCrc bs).take bs.length = bs := List.take_left
  have hdrop : (withCrc bs).drop bs.length = be 2 (crc16 bs) := List.drop_left
  simp only [checkCrc, hlength, htake, hdrop, Prod.mk.injEq, true_and, decide_eq_true_eq, and_true]
  simp [withCrc]

/-- A message taken as its kind byte and the bytes after it (R169). -/
theorem checkCrc_kind (kind : Byte) (rest : List Byte) :
    checkCrc (kind :: (withCrc (kind :: rest)).drop 1) = (kind :: rest, true) := checkCrc_withCrc (kind :: rest)

/-! ### The CRC-16 (R195) -/

/-- The generator's leading bit takes out the bit shifted beyond the sixteen. -/
theorem xor_generator {c : Nat} (hlow : 32768 ≤ c) (hc : c < 65536) :
    2 * c ^^^ 0x11021 = 2 * c % 65536 ^^^ 0x1021 := by
  have hdiv : (2 * c ^^^ 0x11021) / 65536 = 0 := by
    rw [show 65536 = 2 ^ 16 from rfl, Nat.xor_div_two_pow, show 2 * c / 2 ^ 16 = 1 by omega]
    rfl
  have hmod : (2 * c ^^^ 0x11021) % 65536 = 2 * c % 65536 ^^^ 0x1021 := by
    rw [show 65536 = 2 ^ 16 from rfl, Nat.xor_mod_two_pow]
  omega

theorem crcShift_toNat (c : BitVec 16) : (Layout.crcShift c).toNat = crcBit c.toNat := by
  have hc := c.isLt
  have hshift : (c <<< 1).toNat = 2 * c.toNat % 65536 := by
    rw [BitVec.toNat_shiftLeft, Nat.shiftLeft_eq, Nat.mul_comm, pow_one]
  rw [Layout.crcShift, crcBit, BitVec.msb_eq_decide]
  by_cases h : 32768 ≤ c.toNat
  · rw [if_pos (by simpa using h), if_pos h, xor_generator h hc, BitVec.toNat_xor, hshift]
    rfl
  · rw [if_neg (by simpa using h), if_neg h, hshift]
    omega

theorem crcByte_toNat (c : BitVec 16) (b : Byte) :
    (Layout.crcShift^[8] (c ^^^ (b ++ (0 : Byte)))).toNat = crcByte c.toNat b := by
  have hstart : (c ^^^ (b ++ (0 : Byte))).toNat = c.toNat ^^^ (b.toNat * 256) := by
    rw [BitVec.toNat_xor, toNat_append_add]
    exact congrArg _ (Nat.add_zero _)
  rw [crcByte, ← hstart]
  simp only [Function.iterate_succ_apply', Function.iterate_zero_apply, crcShift_toNat]

theorem crc_toNat (bs : List Byte) : (Layout.crc bs).toNat = crc16 bs := by
  have hfold : ∀ c : BitVec 16,
      (bs.foldl (fun (c : BitVec 16) (b : Byte) => Layout.crcShift^[8] (c ^^^ (b ++ (0 : Byte)))) c).toNat =
        bs.foldl crcByte c.toNat := fun c => by
    induction bs generalizing c with
    | nil => rfl
    | cons b bs ih => rw [List.foldl_cons, ih, crcByte_toNat, List.foldl_cons]
  exact hfold 0xFFFF

theorem framed_eq (bs : List Byte) : Layout.framed bs = withCrc bs := by
  rw [Layout.framed, crc_toNat, Layout.num_eq, withCrc]

/-! ### Outbound messages (section 11.5) -/

theorem fabricMessage_eq (kind : Byte) (fields : List Byte) :
    Layout.fabricMessage kind fields = withCrc (kind :: BitVec.ofNat 8 fields.length :: fields) := by
  rw [Layout.fabricMessage, framed_eq, Layout.num_eq, Layout.be_one]
  rfl

theorem discardReason_eq (why : DiscardReason) : Layout.discardReason why = why.code := by cases why <;> rfl

theorem order_eq (o : Order) : Layout.order o = o.code := by cases o <;> rfl

theorem outbound_eq (m : OutMsg) : Layout.outbound m = outBytes m := by
  cases m with
  | release h p =>
    rw [Layout.outbound, fabricMessage_eq, Layout.num_field, Layout.num_eq]
    rfl
  | discard h why =>
    rw [Layout.outbound, fabricMessage_eq, Layout.num_field, discardReason_eq]
    rfl
  | cellOut p i o q =>
    rw [Layout.outbound, fabricMessage_eq, Layout.cellMessage, order_eq]
    simp only [Layout.num_eq, Layout.be_one, outBytes]
    rfl
  | resync => exact fabricMessage_eq _ _

end Sys2Proof.Machine
end

section
/-! Inbound fabric messages: how the bytes of each kind are read (R169, R170, section 11.5). -/

namespace Sys2Proof.Machine

-- One proof after the other: each waiting thread would hold its own stack.
set_option Elab.async false

/-! ### The checks of R169 -/

theorem readInbound_wrong {kind : Byte} {rest : List Byte} (h : (checkCrc (kind :: rest)).2 = false) (x : Stamp) :
    readInbound kind rest x = .error .check := if_pos h

/-- The fields of a message of kind `kind`, read from the bytes between its field length and its check value. -/
def readFields (kind : Byte) (b : List Byte) (x : Stamp) : Except Malformed Inbound :=
  match kind.toNat with
  | 1 => if b.length = 5 then .ok (.enqueue (u8 b 0) (u16 b 1) (u16 b 3)) else .error .format
  | 2 => if b.length = 12 then readSent (u16 b 0) (u48 b 2) (u32 b 8) else .error .format
  | 3 => if b.length = 4 then readPortState (u8 b 0) (u8 b 1) (u8 b 2) (u8 b 3) else .error .format
  | 4 =>
    if 5 ≤ b.length ∧ b.length = 5 + (u8 b 4).toNat then
      readCellIn (u8 b 0) (u8 b 3) (readCell (u8 b 1) (u8 b 2) (b.drop 5)) x
    else .error .format
  | _ => .error .format

/-- A message with its check value passes where its second byte is the length of its fields. -/
theorem readInbound_right {kind : Byte} {rest : List Byte} (h : (checkCrc (kind :: rest)).2 = true) (x : Stamp) :
    let msg := (checkCrc (kind :: rest)).1
    readInbound kind rest x =
      if msg.length < 2 ∨ (u8 msg 1).toNat ≠ (msg.drop 2).length then .error .format
      else readFields kind (msg.drop 2) x := by
  intro msg
  exact (if_neg (fun hf => Bool.noConfusion (h.symm.trans hf))).trans rfl

theorem readInbound_fields {kind n : Byte} {b : List Byte} (h : n.toNat = b.length) (x : Stamp) :
    readInbound kind ((withCrc (kind :: n :: b)).drop 1) x = readFields kind b x := by
  have hcrc := checkCrc_kind kind (n :: b)
  rw [readInbound_right (by rw [hcrc]), hcrc]
  exact if_neg (by simp [u8, h])

theorem readCellIn_ne_check (port station : Byte) (c : Cell) (x : Stamp) :
    readCellIn port station c x ≠ .error .check := by
  unfold readCellIn
  split <;> nofun

theorem readPortState_ne_check (port link pause watermark : Byte) :
    readPortState port link pause watermark ≠ .error .check := by
  unfold readPortState
  split <;> nofun

theorem readSent_ne_check (handle : BitVec 16) (sec : BitVec 48) (ns : BitVec 32) :
    readSent handle sec ns ≠ .error .check := by
  unfold readSent
  split <;> nofun

theorem ne_of_ite {c : Prop} [Decidable c] {m : Except Malformed Inbound} (h : m ≠ .error .check) :
    (if c then m else .error .format) ≠ .error .check := by
  split
  · exact h
  · nofun

/-- Fields are judged by their form and their values alone. -/
theorem readFields_ne_check (kind : Byte) (b : List Byte) (x : Stamp) : readFields kind b x ≠ .error .check := by
  unfold readFields
  split
  · split <;> nofun
  · exact ne_of_ite (readSent_ne_check _ _ _)
  · exact ne_of_ite (readPortState_ne_check _ _ _ _)
  · exact ne_of_ite (readCellIn_ne_check _ _ _ _)
  · nofun

/-- A message with its check value that is not read fails with FORMAT. -/
theorem readInbound_format {kind : Byte} {rest : List Byte} {x : Stamp} (h : (checkCrc (kind :: rest)).2 = true)
    (hno : ∀ m, readInbound kind rest x ≠ .ok m) : readInbound kind rest x = .error .format := by
  have hcheck : readInbound kind rest x ≠ .error .check := by
    rw [readInbound_right h]
    split
    · nofun
    · exact readFields_ne_check _ _ x
  match hr : readInbound kind rest x with
  | .ok m => exact absurd hr (hno m)
  | .error .check => exact absurd hr hcheck
  | .error .format => rfl

/-! ### The kinds (section 11.5, R170) -/

section kinds
variable {b : List Byte} (x : Stamp)

theorem readFields_enqueue (h : b.length = 5) : readFields 1 b x = .ok (.enqueue (u8 b 0) (u16 b 1) (u16 b 3)) :=
  if_pos h

theorem readFields_sent (h : b.length = 12) : readFields 2 b x = readSent (u16 b 0) (u48 b 2) (u32 b 8) := if_pos h

theorem readFields_portState (h : b.length = 4) :
    readFields 3 b x = readPortState (u8 b 0) (u8 b 1) (u8 b 2) (u8 b 3) := if_pos h

theorem readFields_cellIn (h : 5 ≤ b.length) (hn : b.length = 5 + (u8 b 4).toNat) :
    readFields 4 b x = readCellIn (u8 b 0) (u8 b 3) (readCell (u8 b 1) (u8 b 2) (b.drop 5)) x := if_pos ⟨h, hn⟩

end kinds

theorem readFields_unknown {kind : Byte} (h1 : kind ≠ 1) (h2 : kind ≠ 2) (h3 : kind ≠ 3) (h4 : kind ≠ 4)
    (b : List Byte) (x : Stamp) : readFields kind b x = .error .format := by
  have hkind : ∀ n : Byte, kind ≠ n → kind.toNat ≠ n.toNat := fun n => mt BitVec.eq_of_toNat_eq
  unfold readFields
  split
  next h => exact absurd h (hkind 1 h1)
  next h => exact absurd h (hkind 2 h2)
  next h => exact absurd h (hkind 3 h3)
  next h => exact absurd h (hkind 4 h4)
  next => rfl

theorem readInbound_enqueue (stream : Byte) (handle length : BitVec 16) (x : Stamp) :
    readInbound 1 ((withCrc ([1, 5, stream] ++ field 2 handle ++ field 2 length)).drop 1) x =
      .ok (.enqueue stream handle length) := by
  refine (readInbound_fields (n := 5) (b := [stream] ++ field 2 handle ++ field 2 length) (by simp) x).trans ?_
  rw [readFields_enqueue x (by simp)]
  simp only [field, be_two, List.cons_append, List.nil_append, u8, u16, List.getD_cons_succ, List.getD_cons_zero,
    append_two]

theorem readInbound_sent (handle : BitVec 16) (sec : BitVec 48) (ns : BitVec 32) (x : Stamp) :
    readInbound 2 ((withCrc ([2, 12] ++ field 2 handle ++ field 6 sec ++ field 4 ns)).drop 1) x =
      readSent handle sec ns := by
  refine (readInbound_fields (n := 12) (b := field 2 handle ++ field 6 sec ++ field 4 ns) (by simp) x).trans ?_
  rw [readFields_sent x (by simp)]
  simp only [field, be_two, be_four, be_six, List.cons_append, List.nil_append, u8, u16, u32, u48, Nat.reduceAdd,
    List.getD_cons_succ, List.getD_cons_zero, append_two]
  exact congrArg₂ (readSent handle) (append_six sec) (append_four ns)

theorem readInbound_portState (port link pause watermark : Byte) (x : Stamp) :
    readInbound 3 ((withCrc [3, 4, port, link, pause, watermark]).drop 1) x =
      readPortState port link pause watermark :=
  (readInbound_fields (n := 4) (b := [port, link, pause, watermark]) rfl x).trans (readFields_portState x rfl)

theorem readInbound_cellIn (port kind code station : Byte) {body : List Byte} (h : body.length ≤ 250) (x : Stamp) :
    readInbound 4 ((withCrc ([4, BitVec.ofNat 8 (5 + body.length), port, kind, code, station,
      BitVec.ofNat 8 body.length] ++ body)).drop 1) x = readCellIn port station (readCell kind code body) x := by
  refine (readInbound_fields (n := BitVec.ofNat 8 (5 + body.length))
    (b := port :: kind :: code :: station :: BitVec.ofNat 8 body.length :: body) ?_ x).trans ?_
  · simp only [BitVec.toNat_ofNat, List.length_cons]
    omega
  · refine readFields_cellIn x (by simp) ?_
    simp only [u8, List.getD_cons_succ, List.getD_cons_zero, BitVec.toNat_ofNat, List.length_cons]
    omega

/-- Settles O6: each kind's fields are read back from their bytes, and the values of R170 are taken. -/
theorem fabricMessageBytesReadBack : Obligations.FabricMessageBytesReadBack := by
  unfold Obligations.FabricMessageBytesReadBack
  intro x
  refine ⟨fun stream handle length => readInbound_enqueue stream handle length x, fun handle sec ns hns => ?_,
    fun p up paused high => ?_, fun p kind code station body hbody => ?_, fun kind rest h1 h2 h3 h4 => ?_⟩
  · rw [readInbound_sent]
    exact if_pos hns
  · refine (readInbound_portState (BitVec.ofNat 8 p.1) (boolByte up) (boolByte paused) (boolByte high) x).trans ?_
    rw [readPortState, number_ofNat (by decide), yesNo_eq_some.2 rfl, yesNo_eq_some.2 rfl, yesNo_eq_some.2 rfl]
  · rw [readInbound_cellIn _ _ _ _ hbody, readCellIn, number_ofNat (by decide)]
  · have hcrc := checkCrc_kind kind rest
    rw [readInbound_right (by rw [hcrc]), readFields_unknown h1 h2 h3 h4, ite_self]

end Sys2Proof.Machine
end

section
/-! The link comes up, its alignment timer, and the sending of messages (R164, R165, R167). -/

namespace Sys2Proof.Machine

-- One proof after the other: each waiting thread would hold its own stack.
set_option Elab.async false

/-! ### A change of the Fabric Port and its notice -/

/-- The Fabric Port changed, and a notice posted to every link. -/
theorem onFabric_postAll (f : Fabric → Fabric) (n : Notice) (s : State) :
    SameBut ([.fabric] ++ allLinks) s (postAll n (s.onFabric f)) ∧
      (postAll n (s.onFabric f)).fabric = f s.fabric ∧ Hears [toAll n] s.now s (postAll n (s.onFabric f)) := by
  have hframe := State.onFabric_frame f s
  have hheard := postAll_hears n (s.onFabric f)
  rw [hframe.now] at hheard
  exact ⟨(hframe.mono (by decide)).trans ((postAll_frame _ _).mono (by decide)), rfl,
    (hframe.hears s.now (by simp)).trans hheard⟩

/-! ### The events of the link -/

section link
variable {s : State}

theorem exec_trainingComplete_down (h : s.fabric.up = false) : exec .trainingComplete s = .next (linkUp s) :=
  congrArg _ (if_neg (by rw [h]; nofun))

theorem exec_trainingComplete_up (h : s.fabric.up = true) : exec .trainingComplete s = .next s := congrArg _ (if_pos h)

theorem exec_lossOfAlignment (hu : s.fabric.up = true) (ht : s.fabric.alignTimer = none) :
    exec .lossOfAlignment s = .next (s.onFabric fun f => { f with alignTimer := some (s.time.clock25 + 2500) }) :=
  congrArg _ (if_pos ⟨hu, ht⟩)

theorem exec_lossOfAlignment_idle (h : s.fabric.up = false ∨ s.fabric.alignTimer ≠ none) :
    exec .lossOfAlignment s = .next s := by
  refine congrArg _ (if_neg fun ⟨hu, ht⟩ => ?_)
  obtain hd | hn := h
  · rw [hu] at hd
    cases hd
  · exact hn ht

theorem exec_alignmentRegained {d : Nat} (ht : s.fabric.alignTimer = some d) :
    exec .alignmentRegained s =
      .next (if s.time.clock25 ≤ d then s.onFabric fun f => { f with alignTimer := none } else s) := by
  show execAlignmentRegained s = _
  rw [execAlignmentRegained, ht]
  rfl

theorem exec_alignmentRegained_none (ht : s.fabric.alignTimer = none) : exec .alignmentRegained s = .next s := by
  show execAlignmentRegained s = _
  rw [execAlignmentRegained, ht]

theorem exec_outboundMessageSent {m : OutMsg} {rest : List OutMsg} (hu : s.fabric.up = true)
    (ho : s.fabric.outbound = m :: rest) :
    exec .outboundMessageSent s =
      .next (s.onFabric fun f => { f with outbound := rest, laneOut := outBytes m }) := by
  show execOutboundMessageSent s = _
  rw [execOutboundMessageSent, hu, ho]

theorem exec_outboundMessageSent_idle (h : s.fabric.up = false ∨ s.fabric.outbound = []) :
    exec .outboundMessageSent s = .next s := by
  show execOutboundMessageSent s = _
  unfold execOutboundMessageSent
  split
  next hu ho =>
    rw [hu, ho] at h
    obtain hd | hn := h
    · cases hd
    · cases hn
  · rfl

end link

/-- Settles O46: each event of the link changes the Fabric Port alone, where its condition holds. -/
theorem linkComesUpAndSends : Obligations.LinkComesUpAndSends := by
  unfold Obligations.LinkComesUpAndSends
  intro s f
  refine ⟨fun h => ⟨_, exec_trainingComplete_down h, onFabric_postAll _ _ s⟩,
    fun h => ⟨s, exec_trainingComplete_up h, rfl⟩,
    fun hu ht => ⟨_, exec_lossOfAlignment hu ht, State.onFabric_frame _ s, rfl⟩,
    fun h => ⟨s, exec_lossOfAlignment_idle h, rfl⟩,
    fun d ht hd => ⟨_, (exec_alignmentRegained ht).trans (congrArg _ (if_pos hd)), State.onFabric_frame _ s, rfl⟩,
    fun h => ⟨s, ?_, rfl⟩,
    fun m rest hu ho => ⟨_, exec_outboundMessageSent hu ho, State.onFabric_frame _ s, by rw [outbound_eq]; rfl⟩,
    fun h => ⟨s, exec_outboundMessageSent_idle h, rfl⟩⟩
  cases ht : s.fabric.alignTimer with
  | none => exact exec_alignmentRegained_none ht
  | some d => exact (exec_alignmentRegained ht).trans (congrArg _ (if_neg (Nat.not_le.2 (h d ht))))

end Sys2Proof.Machine
end

section
/-! The loss of the link: the store and the streams, the ports, the stations and the outputs, in turn (R64, R92, R39,
R142, R165). -/

namespace Sys2Proof.Machine

-- One proof after the other: each waiting thread would hold its own stack.
set_option Elab.async false

/-! ### The records of a table visited one by one -/

/-- What holds of no record visited, and of one more after each visit, holds when the whole list has been visited. -/
theorem forEach_visits {α : Type} {P : List α → State → Prop} {f : α → State → State} {xs : List α} {s : State}
    (hx : xs.Nodup) (h : P [] s) (hf : ∀ x ys u, x ∉ ys → P ys u → P (ys ++ [x]) (f x u)) :
    P xs (forEach xs f s) := by
  have hrest : ∀ zs ys u, (ys ++ zs).Nodup → P ys u → P (ys ++ zs) (forEach zs f u) := fun zs => by
    induction zs with
    | nil => exact fun ys u _ hu => (List.append_nil ys).symm ▸ hu
    | cons z zs ih =>
      intro ys u hn hu
      have hz : z ∉ ys := fun hm => List.disjoint_of_nodup_append hn hm List.mem_cons_self
      rw [List.append_cons] at hn ⊢
      exact ih (ys ++ [z]) (f z u) hn (hf z ys u hz hu)
  exact hrest xs [] s hx h

/-- The notices of a list, where each of its numbers posts one if `sel` selects it. -/
theorem flatMap_ite_eq {α β : Type} (sel : α → Bool) (f : α → β) (xs : List α) :
    xs.flatMap (fun i => if sel i = true then [f i] else []) = (xs.filter sel).map f := by
  induction xs with
  | nil => rfl
  | cons x xs ih =>
    rw [List.flatMap_cons, ih, List.filter_cons]
    split <;> rfl

/-- From `s` to `t`, in the parts `ps` alone, the records `xs` of a table have become those of `y`, and the notices of
each are heard in turn. -/
structure Visited {α : Type} {n : Nat} (ps : List Part) (table : State → Tbl α n) (y : Fin n → α)
    (ns : Fin n → List Heard) (xs : List (Fin n)) (s t : State) : Prop where
  frame : SameBut ps s t
  records : ∀ i, (table t).get i = if i ∈ xs then y i else (table s).get i
  heard : Hears (xs.flatMap ns) s.now s t

section visited
variable {α : Type} {n : Nat} {ps : List Part} {table : State → Tbl α n} {y : Fin n → α} {ns : Fin n → List Heard}
  {xs : List (Fin n)} {i : Fin n} {s t u : State}

theorem Visited.nil : Visited ps table y ns [] s s := ⟨.refl ps s, fun _ => (if_neg List.not_mem_nil).symm, .nil _ s⟩

theorem Visited.unvisited (h : Visited ps table y ns xs s t) (hi : i ∉ xs) : (table t).get i = (table s).get i :=
  (h.records i).trans (if_neg hi)

/-- One more record visited. -/
theorem Visited.next (h : Visited ps table y ns xs s t) (hf : SameBut ps t u)
    (ho : OthersSame i (table t) (table u)) (hy : (table u).get i = y i)
    (hn : Hears (ns i) s.now t u) : Visited ps table y ns (xs ++ [i]) s u where
  frame := h.frame.trans hf
  records j := by
    by_cases hj : j = i
    · subst hj
      rw [hy, if_pos (List.mem_append_right xs (List.mem_singleton_self j))]
    · rw [ho j hj, h.records]
      exact if_congr (by simp [hj]) rfl rfl
  heard := by
    rw [List.flatMap_append, List.flatMap_singleton]
    exact h.heard.trans hn

theorem Visited.all (h : Visited ps table y ns (numbers n) s t) (i : Fin n) : (table t).get i = y i :=
  (h.records i).trans (if_pos (List.mem_finRange i))

/-- The notices heard, where each record posts one if `sel` selects it. -/
theorem Visited.heard_filter {sel : Fin n → Bool} {note : Fin n → Heard}
    (h : Visited ps table y (fun i => if sel i = true then [note i] else []) xs s t) :
    Hears ((xs.filter sel).map note) s.now s t := by
  exact flatMap_ite_eq sel note xs ▸ h.heard

/-- Each record of a list visited once. -/
theorem forEach_visited {f : Fin n → State → State} (hx : xs.Nodup)
    (hf : ∀ i u, SameBut ps s u → (table u).get i = (table s).get i →
      SameBut ps u (f i u) ∧ OthersSame i (table u) (table (f i u)) ∧ (table (f i u)).get i = y i ∧
        Hears (ns i) s.now u (f i u)) :
    Visited ps table y ns xs s (forEach xs f s) :=
  forEach_visits (P := fun xs u => Visited ps table y ns xs s u) hx .nil fun i _ u hi hu => by
    obtain ⟨hframe, hothers, hrecord, hheard⟩ := hf i u hu.frame (hu.unvisited hi)
    exact hu.next hframe hothers hrecord hheard

end visited

/-! ### The store and the streams (R64) -/

theorem voidStore_voids (s : State) : (voidStore s).voids = satInc^[s.store.length] s.voids :=
  List.foldl_const satInc s.voids s.store

/-- The record of stream `i` once its descriptors are void. -/
def State.voided (s : State) (i : Fin 128) : Stream :=
  { s.streams.get i with
    state := if (s.streams.get i).state == .draining then .free else (s.streams.get i).state }

/-- What is heard of stream `i` once its descriptors are void. -/
def State.voidHeard (s : State) (i : Fin 128) : List Heard :=
  if (s.streams.get i).state == .draining then
    [byPort s (s.streams.get i).egress (noticeDrained i (s.streams.get i).closeReason)]
  else []

theorem drainAll_visited {s : State} (hs : s.store = []) :
    Visited ([.streams] ++ allLinks) State.streams s.voided s.voidHeard (numbers 128) s (drainAll s) := by
  refine forEach_visited (List.nodup_finRange 128) fun i u hframe hsame => ?_
  have hnone : u.holdsNone i = true := by
    rw [State.holdsNone, hframe.store, hs]
    rfl
  have hrecord := drainCheck_record i u
  have hheard := drainCheck_hears i u
  rw [hsame] at hrecord
  rw [hsame, hframe.byPort, hframe.now] at hheard
  refine ⟨drainCheck_frame i u, drainCheck_others i u, hrecord.trans ?_, ?_⟩
  · simp [State.voided, hnone]
  · simpa [State.voidHeard, hnone] using hheard

/-! ### The ports (R92) -/

/-- Port `p` marked at the loss of the link. -/
def markPort (p : Fin 24) (s : State) : State :=
  if (s.ports.get p).up then postAt (noticePortLink p false) (some p) (s.onPort p Port.mark) else s.onPort p Port.mark

theorem markPorts_eq (s : State) : markPorts s = forEach (numbers 24) markPort s := rfl

section ports
variable (p : Fin 24) (s : State)

theorem markPort_frame : SameBut ([.ports] ++ allLinks) s (markPort p s) :=
  .ite _ (((State.onPort_frame p _ s).mono (by decide)).trans ((postAt_frame _ _ _).mono (by decide)))
    ((State.onPort_frame p _ s).mono (by decide))

theorem markPort_ports : (markPort p s).ports = s.ports.upd p Port.mark := by
  unfold markPort
  split <;> rfl

theorem markPort_hears :
    Hears (if (s.ports.get p).up = true then [byPort s (some p) (noticePortLink p false)] else []) s.now s
      (markPort p s) := by
  have hframe := State.onPort_frame p Port.mark s
  have hquiet := hframe.hears s.now (by simp)
  have hpost := postAt_hears (noticePortLink p false) (some p) (s.onPort p Port.mark)
  rw [hframe.byPort, hframe.now] at hpost
  unfold markPort
  split
  · exact hquiet.trans hpost
  · exact hquiet

theorem markPorts_visited :
    Visited ([.ports] ++ allLinks) State.ports (fun p => (s.ports.get p).mark)
      (fun p => if (s.ports.get p).up = true then [byPort s (some p) (noticePortLink p false)] else []) (numbers 24) s
      (markPorts s) := by
  rw [markPorts_eq]
  refine forEach_visited (List.nodup_finRange 24) fun p u hframe hsame => ?_
  have hheard := markPort_hears p u
  rw [hsame, hframe.byPort, hframe.now] at hheard
  refine ⟨markPort_frame p u, ?_, ?_, hheard⟩
  · rw [markPort_ports]
    exact fun _ hj => Tbl.get_upd_of_ne _ _ hj
  · rw [markPort_ports, Tbl.get_upd_self, hsame]

end ports

/-! ### The stations and the outputs (R39, R142) -/

/-- Station `i` goes to ABSENT where it is configured and not there yet. -/
def goAbsent (i : Fin 32) (s : State) : State := if present s i then moveStation i .absent s else s

theorem allAbsent_eq (s : State) : allAbsent s = forEach (numbers 32) goAbsent s := by
  refine congrArg (fun f => forEach (numbers 32) f s) (funext fun i => funext fun u => ?_)
  unfold goAbsent present
  cases u.stationState i with
  | none => rfl
  | some st => cases st <;> rfl

section stations
variable {i : Fin 32} {s : State}

/-- A station that goes to ABSENT leaves every need set, and no ORDER is made. -/
theorem moveStation_absent (i : Fin 32) (s : State) :
    moveStation i .absent s =
      leaveNeeds i (postAt (noticeStation i .absent) (s.stationPort i) (setStation i .absent s)) := by
  have htold : ∀ u, tellOfState i .absent u = leaveNeeds i u := fun u => by
    unfold tellOfState
    cases u.stationPort i <;> rfl
  rw [moveStation, changeStation, htold]
  rfl

theorem goAbsent_frame (i : Fin 32) (s : State) : SameBut ([.stations, .outputs] ++ allLinks) s (goAbsent i s) := by
  unfold goAbsent
  rw [moveStation_absent]
  exact .ite _ ((((setStation_frame i _ s).mono (by decide)).trans ((postAt_frame _ _ _).mono (by decide))).trans
    ((leaveNeeds_frame i _).mono (by decide))) (.refl _ s)

theorem goAbsent_stationPort (i : Fin 32) (s : State) : (goAbsent i s).stationPort = s.stationPort := by
  unfold goAbsent
  split
  · exact moveStation_stationPort ..
  · rfl

theorem goAbsent_others (i : Fin 32) (s : State) : OthersSame i s.stations (goAbsent i s).stations := by
  unfold goAbsent
  split
  · rw [moveStation_absent, (leaveNeeds_frame _ _).stations, (postAt_frame _ _ _).stations]
    exact onStation_others i _ s
  · exact fun _ _ => rfl

/-- The record of a station whose link is lost at MT `now`. -/
def State.absented (s : State) (i : Fin 32) : Station :=
  { s.stations.get i with
    conf := (s.stations.get i).conf.map ({ · with state := .absent })
    lastChange := if present s i then some s.now else (s.stations.get i).lastChange }

/-- A station that is not configured, or ABSENT already, is left as it is. -/
theorem absented_of_not_present (h : ¬ present s i = true) : s.absented i = s.stations.get i := by
  have hconf : (s.stations.get i).conf.map ({ · with state := .absent }) = (s.stations.get i).conf := by
    unfold present State.stationState at h
    cases hc : (s.stations.get i).conf with
    | none => rfl
    | some x =>
      have hx : x.state = .absent := by simpa [hc] using h
      rw [Option.map_some, ← hx]
  rw [State.absented, hconf, if_neg h]

theorem goAbsent_record (i : Fin 32) (s : State) : (goAbsent i s).stations.get i = s.absented i := by
  unfold goAbsent
  split
  next h =>
    rw [moveStation_absent, (leaveNeeds_frame _ _).stations, (postAt_frame _ _ _).stations, setStation,
      onStation_get_self, State.absented, if_pos h]
  next h => exact (absented_of_not_present h).symm

theorem goAbsent_hears (i : Fin 32) (s : State) :
    Hears (if present s i = true then [byPort s (s.stationPort i) (noticeStation i .absent)] else []) s.now s
      (goAbsent i s) := by
  have hset := setStation_frame i .absent s
  have hpost := postAt_hears (noticeStation i .absent) (s.stationPort i) (setStation i .absent s)
  rw [hset.byPort, hset.now] at hpost
  unfold goAbsent
  split
  · rw [moveStation_absent]
    exact ((hset.hears s.now (by simp)).trans hpost).trans ((leaveNeeds_frame i _).hears s.now (by simp))
  · exact .nil _ s

/-- The need set of output record `x` without the stations of which `gone` holds, where it is in FEED mode. -/
def Output.needing (x : Output) (gone : Fin 32 → Bool) : Output :=
  { x with needs := if x.mode = .feed then x.needs.filter (fun i => !gone i) else x.needs }

theorem Output.needing_none (x : Output) : x.needing (fun _ => false) = x := by
  simp [Output.needing]

theorem Output.needing_needing (x : Output) (gone more : Fin 32 → Bool) :
    (x.needing gone).needing more = x.needing fun i => gone i || more i := by
  unfold Output.needing
  by_cases h : x.mode = .feed
  · simp [h, List.filter_filter, Bool.and_comm]
  · simp [h]

theorem goAbsent_output (i : Fin 32) (s : State) (o : Fin 8) :
    (goAbsent i s).outputs.get o = (s.outputs.get o).needing fun j => j == i && present s i := by
  unfold goAbsent
  split
  next h =>
    rw [moveStation_absent, leaveNeeds_output, (postAt_frame _ _ _).outputs, (setStation_frame _ _ _).outputs]
    simp [Output.needing, h, bne]
  next h => simp [Bool.eq_false_iff.2 h, Output.needing_none]

/-- From `s` to `t` the stations `xs` have been visited: each is ABSENT, and out of every need set (R39, R142). -/
structure StationsAbsent (xs : List (Fin 32)) (s t : State) : Prop where
  visited : Visited ([.stations, .outputs] ++ allLinks) State.stations s.absented
    (fun i => if present s i = true then [byPort s (s.stationPort i) (noticeStation i .absent)] else []) xs s t
  ports : t.stationPort = s.stationPort
  outputs : ∀ o, t.outputs.get o = (s.outputs.get o).needing fun i => decide (i ∈ xs) && present s i

theorem allAbsent_absent (s : State) : StationsAbsent (numbers 32) s (allAbsent s) := by
  rw [allAbsent_eq]
  refine forEach_visits (P := fun xs u => StationsAbsent xs s u) (List.nodup_finRange 32)
    ⟨.nil, rfl, fun o => by simp [Output.needing_none]⟩ fun i xs u hi ⟨hu, hports, houtputs⟩ => ?_
  have hsame : u.stations.get i = s.stations.get i := hu.unvisited hi
  have hpresent : present u i = present s i := by
    unfold present State.stationState
    rw [hsame]
  have hrecord : u.absented i = s.absented i := by
    rw [State.absented, hsame, hpresent, hu.frame.now]
    rfl
  have hheard := goAbsent_hears i u
  rw [hpresent, hports, hu.frame.byPort, hu.frame.now] at hheard
  refine ⟨hu.next (goAbsent_frame i u) (goAbsent_others i u) ((goAbsent_record i u).trans hrecord) hheard,
    (goAbsent_stationPort i u).trans hports, fun o => ?_⟩
  rw [goAbsent_output, houtputs, Output.needing_needing, hpresent]
  congr 1
  funext j
  by_cases hj : j = i
  · subst hj
    simp [hi]
  · simp [hj]

/-- Every station ABSENT, from a state `u` that differs from `s` neither in the stations nor in the outputs. -/
theorem allAbsent_of_same {ps : List Part} {u : State} (h : SameBut ps s u) (h1 : Part.stations ∉ ps := by decide)
    (h2 : Part.outputs ∉ ps := by decide) (h3 : Part.grants ∉ ps := by decide) (h4 : Part.time ∉ ps := by decide) :
    SameBut ([.stations, .outputs] ++ allLinks) u (allAbsent u) ∧
      (∀ i, (allAbsent u).stations.get i = s.absented i) ∧
      (∀ o, (allAbsent u).outputs.get o = (s.outputs.get o).needing (present s)) ∧
      Hears (((numbers 32).filter (present s)).map fun i => byPort s (s.stationPort i) (noticeStation i .absent)) s.now
        u (allAbsent u) := by
  obtain ⟨hvisited, _, houtputs⟩ := allAbsent_absent u
  have hpresent : present u = present s := by
    funext i
    unfold present State.stationState
    rw [h.stations h1]
  have habsented : u.absented = s.absented := by
    funext i
    rw [State.absented, hpresent, h.stations h1, h.now h4]
    rfl
  have hall : (fun i => decide (i ∈ numbers 32) && present s i) = present s := by
    funext i
    have hmem : i ∈ numbers 32 := List.mem_finRange i
    rw [decide_eq_true hmem, Bool.true_and]
  have hheard := hvisited.heard_filter
  rw [hpresent, h.stationPort h1, h.byPort h3, h.now h4] at hheard
  rw [hpresent, h.outputs h2, hall] at houtputs
  exact ⟨hvisited.frame, fun i => habsented ▸ hvisited.all i, houtputs, hheard⟩

end stations

/-! ### The loss of the link (R165) -/

/-- The state at the loss of the link before the streams learn of it: the link is DOWN and the store is empty. -/
def State.severed (s : State) : State :=
  voidStore (s.onFabric fun f => { f with up := false, lastDown := some s.now, outbound := [], alignTimer := none })

section lost
variable (s : State)

theorem severed_frame : SameBut [.fabric, .store, .voids] s s.severed :=
  ((State.onFabric_frame _ s).mono (by decide)).trans ((voidStore_frame _).mono (by decide))

/-- The streams, and then the ports, as the link is lost. -/
theorem unlinked_visited :
    Visited ([.streams] ++ allLinks) State.streams s.voided s.voidHeard (numbers 128) s.severed (drainAll s.severed) ∧
      Visited ([.ports] ++ allLinks) State.ports (fun p => (s.ports.get p).mark)
        (fun p => if (s.ports.get p).up = true then [byPort s (some p) (noticePortLink p false)] else []) (numbers 24)
        (drainAll s.severed) s.unlinked := by
  have hbyPort : byPort s.severed = byPort s := (severed_frame s).byPort
  have hvoided : s.severed.voided = s.voided := rfl
  have hheard : s.severed.voidHeard = s.voidHeard := by
    funext i
    rw [State.voidHeard, hbyPort]
    rfl
  have hstreams := drainAll_visited (s := s.severed) rfl
  have hports := markPorts_visited (drainAll s.severed)
  rw [hvoided, hheard] at hstreams
  rw [hstreams.frame.byPort, hbyPort, hstreams.frame.ports] at hports
  exact ⟨hstreams, hports⟩

theorem unlinked_frame : SameBut ([.fabric, .store, .voids, .streams, .ports] ++ allLinks) s s.unlinked := by
  obtain ⟨hstreams, hports⟩ := unlinked_visited s
  exact (((severed_frame s).mono (by decide)).trans (hstreams.frame.mono (by decide))).trans
    (hports.frame.mono (by decide))

theorem unlinked_hears :
    Hears (((numbers 128).filter fun i => (s.streams.get i).state == .draining).map (fun i =>
        byPort s (s.streams.get i).egress (noticeDrained i (s.streams.get i).closeReason)) ++
      ((numbers 24).filter fun p => (s.ports.get p).up).map fun p => byPort s (some p) (noticePortLink p false))
      s.now s s.unlinked := by
  obtain ⟨hstreams, hports⟩ := unlinked_visited s
  have hdrained := hstreams.heard_filter
  have hmarked := hports.heard_filter
  rw [hstreams.frame.now] at hmarked
  exact (((severed_frame s).hears s.now (by simp)).trans hdrained).trans hmarked

theorem unlinked_voids : s.unlinked.voids = satInc^[s.store.length] s.voids := by
  obtain ⟨hstreams, hports⟩ := unlinked_visited s
  rw [hports.frame.voids, hstreams.frame.voids]
  exact voidStore_voids _

theorem linkLost_eq :
    linkLost s = postAll (noticeResync (allAbsent s.unlinked).fabric.upCount false) (allAbsent s.unlinked) := by
  unfold linkLost State.unlinked
  rfl

theorem linkLost_lost : LinkLost s (linkLost s) := by
  obtain ⟨hstreams, hports⟩ := unlinked_visited s
  have hbase := unlinked_frame s
  obtain ⟨hframe, hstations, houtputs, hgone⟩ := allAbsent_of_same hbase
  have hfabric : (allAbsent s.unlinked).fabric =
      { s.fabric with up := false, lastDown := some s.now, outbound := [], alignTimer := none } :=
    hframe.fabric.trans (unlinked_fabric s)
  have hpost := postAll_hears (noticeResync s.fabric.upCount false) (allAbsent s.unlinked)
  rw [hframe.now, hbase.now] at hpost
  have hlost : linkLost s = postAll (noticeResync s.fabric.upCount false) (allAbsent s.unlinked) := by
    rw [linkLost_eq, hfabric]
  rw [hlost]
  -- Only the facts above are used of this state: it is never unfolded.
  generalize allAbsent s.unlinked = u at hframe hstations houtputs hgone hfabric hpost ⊢
  refine ⟨((hbase.mono (by decide)).trans (hframe.mono (by decide))).trans ((postAll_frame _ _).mono (by decide)),
    hfabric, hframe.store.trans (unlinked_store s), hframe.voids.trans (unlinked_voids s), fun i => ?_, fun p => ?_,
    hstations, houtputs, ((unlinked_hears s).trans hgone).trans hpost⟩
  · rw [postAll_streams, hframe.streams, hports.frame.streams]
    exact hstreams.all i
  · rw [postAll_ports, hframe.ports]
    exact hports.all p

end lost

section events
variable {s : State}

theorem exec_restartSignal_up (h : s.fabric.up = true) : exec .restartSignal s = .next (linkLost s) := by
  show execRestartSignal s = _
  rw [execRestartSignal, if_pos h]

theorem exec_restartSignal_down (h : s.fabric.up = false) : exec .restartSignal s = .next s := by
  show execRestartSignal s = _
  rw [execRestartSignal, if_neg (by rw [h]; nofun)]

theorem exec_alignmentLossExpiry_due {d : Nat} (hu : s.fabric.up = true) (ht : s.fabric.alignTimer = some d)
    (hd : d ≤ s.time.clock25) : exec .alignmentLossExpiry s = .next (linkLost s) := by
  show execAlignmentLossExpiry s = _
  rw [execAlignmentLossExpiry, if_pos ⟨hu, by rw [ht]; exact localReached_some.2 hd⟩]

theorem exec_alignmentLossExpiry_early
    (h : ∀ d, s.fabric.up = true → s.fabric.alignTimer = some d → s.time.clock25 < d) :
    exec .alignmentLossExpiry s = .next s := by
  show execAlignmentLossExpiry s = _
  rw [execAlignmentLossExpiry, if_neg fun hdue => not_localReached (fun d => h d hdue.1) hdue.2]

end events

/-- Settles O47: the two events that lose the link, where their conditions hold. -/
theorem linkLossVoidsWhatTheFabricHolds : Obligations.LinkLossVoidsWhatTheFabricHolds := by
  unfold Obligations.LinkLossVoidsWhatTheFabricHolds
  intro s
  exact ⟨fun hu => ⟨_, exec_restartSignal_up hu, linkLost_lost s⟩, fun hd => ⟨s, exec_restartSignal_down hd, rfl⟩,
    fun _ hu ht hd => ⟨_, exec_alignmentLossExpiry_due hu ht hd, linkLost_lost s⟩,
    fun h => ⟨s, exec_alignmentLossExpiry_early h, rfl⟩⟩

end Sys2Proof.Machine
end

section
/-! Inbound fabric messages are checked (R169, R170); in DOWN none is taken (R164). -/

namespace Sys2Proof.Machine

-- One proof after the other: each waiting thread would hold its own stack.
set_option Elab.async false

/-! ### Messages dropped and messages not taken -/

section inbound
variable {kind : Byte} {m : Except Malformed Inbound} {why : Malformed} {c : Instr} {s : State}

/-- In DOWN an inbound message changes nothing. -/
theorem inbound_down (hd : s.fabric.up = false) (hc : exec c s = .next (takeInbound kind m s)) :
    Completes c s fun t => t = s :=
  ⟨s, hc.trans (congrArg _ (if_pos hd)), rfl⟩

/-- In UP a message that is not read is dropped. -/
theorem inbound_dropped (hu : s.fabric.up = true) (hm : m = .error why)
    (hc : exec c s = .next (takeInbound kind m s)) : Completes c s (Dropped kind why.fault s) := by
  refine ⟨malformed kind why.fault s, hc.trans (congrArg _ ?_), onFabric_postAll _ _ s⟩
  rw [hm, takeInbound, if_neg (by rw [hu]; nofun)]

end inbound

/-! ### Fields outside the values of R170 -/

theorem readSent_format {handle : BitVec 16} {sec : BitVec 48} {ns : BitVec 32} (h : 999999999 < ns.toNat) :
    readSent handle sec ns = .error .format := if_neg (Nat.not_le.2 h)

theorem readPortState_format {port link pause watermark : Byte}
    (h : 24 ≤ port.toNat ∨ 2 ≤ link.toNat ∨ 2 ≤ pause.toNat ∨ 2 ≤ watermark.toNat) :
    readPortState port link pause watermark = .error .format := by
  unfold readPortState
  split
  next hp hl hz hw =>
    obtain h | h | h | h := h
    · rw [number_eq_none.2 h] at hp
      cases hp
    · rw [yesNo_eq_none h] at hl
      cases hl
    · rw [yesNo_eq_none h] at hz
      cases hz
    · rw [yesNo_eq_none h] at hw
      cases hw
  next => rfl

theorem readCellIn_format {port : Byte} (h : 24 ≤ port.toNat) (station : Byte) (c : Cell) (x : Stamp) :
    readCellIn port station c x = .error .format := by
  rw [readCellIn, number_eq_none.2 h]

/-! ### The bytes of a message -/

/-- A message as it stands on the lane, read as `m` with the stamp of the event. -/
theorem exec_malformedMessage {kind : Byte} {rest : List Byte} {x : Option Stamp} {s : State}
    {m : Except Malformed Inbound} (h : readInbound kind rest (s.stampOf x) = m) :
    exec (.malformedMessage kind rest x) s = .next (takeInbound kind m s) :=
  congrArg (fun m => Host.Outcome.next (takeInbound kind m s)) h

/-- Settles O48: every inbound command is `takeInbound` of what its bytes or its fields are read as. -/
theorem inboundMessagesAreChecked : Obligations.InboundMessagesAreChecked := by
  unfold Obligations.InboundMessagesAreChecked
  refine ⟨fun kind rest x s hu => ⟨fun hcrc => ?_, fun hcrc hno => ?_⟩, fun h sec ns s hu hns => ?_,
    fun p u z w s hu hout => ?_, fun p kind code station body x s hu hp => ?_, fun stream h n x s => ?_,
    fun h sec ns x s => ?_, fun p u z w x s => ?_, fun p kind code station body x s hbody => ?_, fun c s hd hc => ?_⟩
  · exact inbound_dropped (why := .check) hu (readInbound_wrong hcrc _) rfl
  · rw [State.stampedAt_eq] at hno
    exact inbound_dropped (why := .format) hu (readInbound_format hcrc hno) rfl
  · exact inbound_dropped (why := .format) hu (readSent_format hns) rfl
  · exact inbound_dropped (why := .format) hu (readPortState_format hout) rfl
  · exact inbound_dropped (why := .format) hu (readCellIn_format hp _ _ _) rfl
  · exact exec_malformedMessage (readInbound_enqueue stream h n _)
  · exact exec_malformedMessage (readInbound_sent h sec ns _)
  · exact exec_malformedMessage (readInbound_portState p u z w _)
  · exact exec_malformedMessage (readInbound_cellIn p kind code station hbody _)
  · obtain ⟨_, _, _, rfl⟩ | ⟨_, _, _, rfl⟩ | ⟨_, _, _, rfl⟩ | ⟨_, _, _, _, rfl⟩ | ⟨_, _, _, _, _, _, rfl⟩ |
      ⟨_, _, _, _, _, _, _, rfl⟩ | ⟨_, _, _, _, _, _, _, _, rfl⟩ | ⟨_, _, _, _, _, _, _, _, rfl⟩ |
      ⟨_, _, _, _, _, rfl⟩ | ⟨_, _, _, _, _, _, rfl⟩ := hc
    all_goals exact inbound_down hd rfl

end Sys2Proof.Machine
end

section
/-! Cell messages: the checks of their kind, their length and their sender (R172), and the bytes of each kind (R173). -/

namespace Sys2Proof.Machine

-- One proof after the other: each waiting thread would hold its own stack.
set_option Elab.async false

/-! ### Kinds and lengths (R172, checks 1 and 2) -/

theorem readCell_badKind {kind : Byte} (h : kind = 0 ∨ 6 ≤ kind.toNat) (code : Byte) (b : List Byte) :
    readCell kind code b = .badKind := by
  have hout : kind.toNat = 0 ∨ 6 ≤ kind.toNat := h.imp_left (congrArg BitVec.toNat)
  unfold readCell
  split
  rotate_left 5
  · rfl
  all_goals omega

theorem readCell_badLength {kind : Byte} {b : List Byte} {x : Byte × Nat}
    (hx : x ∈ [((1 : Byte), 11), (2, 12), (3, 12), (4, 1), (5, 2)]) (hk : kind = x.1) (hb : b.length ≠ x.2)
    (code : Byte) : readCell kind code b = .badLength := by
  simp only [List.mem_cons, List.not_mem_nil, or_false] at hx
  obtain rfl | rfl | rfl | rfl | rfl := hx <;> exact hk ▸ if_neg hb

/-! ### The bytes of each kind (section 11.5) -/

theorem u8_append (a b : List Byte) (i : Nat) : u8 (a ++ b) (a.length + i) = u8 b i := by
  simp [u8, List.getElem?_append_right]

theorem u8_append_length (a b : List Byte) : u8 (a ++ b) a.length = u8 b 0 := u8_append a b 0

/-- The seconds and the nanoseconds that stand at the end of a body. -/
theorem stamp_fields (a : List Byte) (sec : BitVec 48) (ns : BitVec 32) :
    u48 (a ++ field 6 sec ++ field 4 ns) a.length = sec ∧ u32 (a ++ field 6 sec ++ field 4 ns) (a.length + 6) = ns := by
  simp only [u48, u32, u16, Nat.add_assoc, Nat.reduceAdd, List.append_assoc]
  simp only [u8_append, u8_append_length]
  simp only [field, be_six, be_four, List.cons_append, List.nil_append, u8, List.getD_cons_succ, List.getD_cons_zero]
  exact ⟨append_six sec, append_four ns⟩

section lengths
variable {b : List Byte} (code : Byte)

theorem readCell_sync_of_length (h : b.length = 11) : readCell 1 code b = .sync (u8 b 0) (u48 b 1) (u32 b 7) := if_pos h

theorem readCell_fillDone_of_length (h : b.length = 12) :
    readCell 2 code b = .fillDone (u8 b 0) (u8 b 1) (u48 b 2) (u32 b 8) := if_pos h

theorem readCell_verdict_of_length (h : b.length = 12) :
    readCell 3 code b = .verdict (u8 b 0) (u8 b 1) (u48 b 2) (u32 b 8) := if_pos h

end lengths

section bytes
variable (code x y : Byte) (sec : BitVec 48) (ns : BitVec 32)

theorem readCell_sync : readCell 1 code ([x] ++ field 6 sec ++ field 4 ns) = .sync x sec ns := by
  obtain ⟨hsec, hns⟩ := stamp_fields [x] sec ns
  have hlength : ([x] ++ field 6 sec ++ field 4 ns).length = 11 := by simp
  exact (readCell_sync_of_length code hlength).trans (congrArg₂ (Cell.sync x) hsec hns)

theorem readCell_fillDone : readCell 2 code ([x, y] ++ field 6 sec ++ field 4 ns) = .fillDone x y sec ns := by
  obtain ⟨hsec, hns⟩ := stamp_fields [x, y] sec ns
  have hlength : ([x, y] ++ field 6 sec ++ field 4 ns).length = 12 := by simp
  exact (readCell_fillDone_of_length code hlength).trans (congrArg₂ (Cell.fillDone x y) hsec hns)

theorem readCell_verdict : readCell 3 code ([x, y] ++ field 6 sec ++ field 4 ns) = .verdict x y sec ns := by
  obtain ⟨hsec, hns⟩ := stamp_fields [x, y] sec ns
  have hlength : ([x, y] ++ field 6 sec ++ field 4 ns).length = 12 := by simp
  exact (readCell_verdict_of_length code hlength).trans (congrArg₂ (Cell.verdict x y) hsec hns)

end bytes

/-- A cell message read as `c` acts as `c`. -/
theorem exec_cellIn {port kind code station : Byte} {body : List Byte} {c : Cell} (h : readCell kind code body = c)
    (began : Option Stamp) (s : State) :
    exec (.cellIn port kind code station body began) s =
      .next (takeInbound 4 (readCellIn port station c (s.stampOf began)) s) :=
  congrArg (fun c => Host.Outcome.next (takeInbound 4 (readCellIn port station c (s.stampOf began)) s)) h

/-! ### The sender (R172, checks 3 and 4) -/

/-- Station byte `station` does not name the station of port `p`. -/
def State.stranger (s : State) (p : Fin 24) (station : Byte) : Prop := ∀ i, s.stationOn p = some i → station.toNat ≠ i.1

theorem fromStation_stranger {p : Fin 24} {station : Byte} {s : State} (h : s.stranger p station)
    (own : Fin 32 → State → State) : fromStation p station own s = rejectCell p .port s := by
  have hsender : s.sender p station = none := by
    unfold State.sender
    split
    next i hi => exact if_neg (h i hi)
    next => rfl
  rw [fromStation, hsender]

theorem station_of_not_stranger {p : Fin 24} {station : Byte} {s : State} (h : ¬ s.stranger p station) :
    ∃ i, s.stationOn p = some i ∧ station.toNat = i.1 := by
  simpa [State.stranger] using h

/-- In UP a cell message that fails a check of R172 is counted and posted. -/
theorem cell_rejected {b station : Byte} {c : Cell} {x : Stamp} {p : Fin 24} {why : MessageFault} {i : Instr}
    {s : State} (hu : s.fabric.up = true) (hb : b.toNat = p.1)
    (hi : exec i s = .next (takeInbound 4 (readCellIn b station c x) s))
    (hr : takeCell p station c x s = rejectCell p why s) :
    Completes i s fun t => SameBut ([.fabric] ++ allLinks) s t ∧
      t.fabric = { s.fabric with rejectedCells := satInc s.fabric.rejectedCells } ∧
      Hears [toAll (noticeMessageError p.1 why)] s.now s t :=
  ⟨rejectCell p why s, hi.trans (congrArg _ ((takeInbound_readCellIn hu hb).trans hr)), onFabric_postAll _ _ s⟩

/-- Settles O49: a cell message passes the checks of R172 in turn, and is its kind's named command by its bytes. -/
theorem cellMessagesAreChecked : Obligations.CellMessagesAreChecked := by
  unfold Obligations.CellMessagesAreChecked
  refine ⟨fun b kind code station body began p s hu hb => ?_, fun b code station x y sec ns a s => ?_⟩
  · intro rejected stranger
    refine ⟨fun hk => ?_, fun x hx hk hlen => ?_, fun seq sec ns hp => ?_,
      fun hs => ⟨fun h r sec ns => ⟨?_, ?_⟩, fun x => ?_, fun o w => ?_⟩, fun x hs hmiss => ?_⟩
    · exact cell_rejected hu hb (exec_cellIn (readCell_badKind hk code body) began s) rfl
    · exact cell_rejected hu hb (exec_cellIn (readCell_badLength hx hk hlen code) began s) rfl
    · exact cell_rejected hu hb (c := .sync seq sec ns) rfl (if_neg fun h => hp h.symm)
    · exact cell_rejected hu hb (c := .fillDone h r sec ns) rfl (fromStation_stranger hs _)
    · exact cell_rejected hu hb (c := .verdict h r sec ns) rfl (fromStation_stranger hs _)
    · exact cell_rejected hu hb (c := .backoff code x) rfl (fromStation_stranger hs _)
    · exact cell_rejected hu hb (c := .need o w) rfl (fromStation_stranger hs _)
    · obtain ⟨i, hi, hst⟩ := station_of_not_stranger hs
      refine ⟨_, exec_backoff hu hb hi hst, ?_⟩
      rw [takeBackoff, if_neg hmiss]
      exact ⟨backoff_frame _ s, rfl⟩
  · exact ⟨exec_cellIn (readCell_sync code x sec ns) a s, exec_cellIn (readCell_fillDone code x y sec ns) a s,
      exec_cellIn (readCell_verdict code x y sec ns) a s, rfl, rfl⟩

end Sys2Proof.Machine
end

section
/-! Requests as such: what a WRITE leaves where no owner performs it, and the reply of a request that is refused (R177,
R180, section 4.6). -/

namespace Sys2Proof.Machine

-- One proof after the other: each waiting thread would hold its own stack.
set_option Elab.async false

section slots
variable {l : Link} {tag : Byte} {r : Request} {own : State → Answer} {s : State}

/-! ### The slot of a link (R177) -/

theorem setSlot_link_self (x : Slot) : (s.setSlot l x).link l = { s.link l with slot := x } :=
  State.link_onLink_self ..

theorem setSlot_link_of_ne {m : Link} (h : m ≠ l) (x : Slot) : (s.setSlot l x).link m = s.link m :=
  State.link_onLink_of_ne h ..

theorem Slot.ne_idle_of_working {x : Slot} (h : x.working = true) : (x == .idle) = false := by
  cases x with
  | idle => cases h
  | _ => rfl

theorem beginWrite_link_self (n : Nat) :
    (beginWrite l n s).link l =
      { s.link l with
        spiOut := List.replicate n 0, overrun := (s.link l).overrun || !((s.link l).slot == .idle) } :=
  State.link_onLink_self ..

/-- A WRITE in WORKING only sets OVERRUN (R177). -/
theorem beginWrite_link_working (h : (s.link l).slot.working = true) (n : Nat) :
    (beginWrite l n s).link l = { s.link l with overrun := true, spiOut := List.replicate n 0 } := by
  rw [beginWrite_link_self, Slot.ne_idle_of_working h, Bool.not_false, Bool.or_true]

/-- The record of a link after a WRITE that has been taken, its slot in state `x` (R177). -/
theorem beginWrite_setSlot_link (n : Nat) (x : Slot) :
    ((beginWrite l n s).setSlot l x).link l =
      { s.link l with
        slot := x, overrun := (s.link l).overrun || !((s.link l).slot == .idle), spiOut := List.replicate n 0 } := by
  rw [setSlot_link_self, beginWrite_link_self]

theorem beginWrite_setSlot_frame (n : Nat) (x : Slot) : SameBut [.link l] s ((beginWrite l n s).setSlot l x) :=
  (beginWrite_frame l n s).trans (State.setSlot_frame l x _)

/-! ### Requests that are not performed -/

/-- A request refused by the rights table is answered, and nothing else changes (R180). -/
theorem request_refused_replied (h : (s.link l).slot.working = false) (ha : allowed l r = false) :
    Replied l tag r .refusedRights [] [] s (request l tag r own s) := by
  intro m
  rw [request_refused h ha]
  split
  · next e =>
    subst e
    exact beginWrite_setSlot_link _ _
  · next e => exact (beginWrite_setSlot_frame _ _).link m (by simpa using e)

/-- A request whose reply its own rule places is taken and placed in one (R189, R191). -/
theorem request_placed (h : Taken l r s) (hp : placedAtOnce r = true) :
    request l tag r own s =
      (own (held l tag r s)).state.setSlot l (.ready
        { code := requestCode r, tag := tag, status := (own (held l tag r s)).status
          body := (own (held l tag r s)).body }) := by
  obtain ⟨h1, h2⟩ := h
  simp [request, h1, h2, ownerTakes, hp, held]

/-- A request answered with anything but DONE has changed nothing beside its own link, where the slot, OVERRUN and the
data output alone differ, and its reply has no body. -/
theorem request_not_done {reply : Reply} (ho : Sound (held l tag r s) (own (held l tag r s)))
    (h : (s.link l).slot.working = false)
    (hslot : ((request l tag r own s).link l).slot = .workingAnswered reply) (hd : reply.status ≠ .done) :
    reply.body = [] ∧ SameBut [.link l] s (request l tag r own s) ∧
      ((request l tag r own s).link l).notices = (s.link l).notices ∧
      ((request l tag r own s).link l).mask = (s.link l).mask := by
  cases ha : allowed l r with
  | false =>
    rw [request_refused h ha] at hslot ⊢
    have hlink := beginWrite_setSlot_link (l := l) (s := s) ((requestBody r).length + 5)
      (.workingAnswered { code := requestCode r, tag := tag, status := .refusedRights, body := [] })
    rw [hlink] at hslot ⊢
    obtain rfl := Slot.workingAnswered.inj hslot
    exact ⟨rfl, beginWrite_setSlot_frame _ _, rfl, rfl⟩
  | true =>
    cases hp : placedAtOnce r with
    | true =>
      rw [request_placed ⟨h, ha⟩ hp, setSlot_link_self] at hslot
      cases hslot
    | false =>
      rw [request_taken ⟨h, ha⟩ hp, setSlot_link_self] at hslot ⊢
      obtain rfl := Slot.workingAnswered.inj hslot
      obtain ⟨hstate, hbody⟩ := ho.2 hd
      rw [hstate, held_link_self]
      exact ⟨hbody, (held_frame l tag r s).trans (State.setSlot_frame l _ _), rfl, rfl⟩

end slots

/-- Settles O3: a request that no owner takes is a WRITE and at most its refusal, and the answer of every owner is sound. -/
theorem requestsNotPerformedHaveNoEffect : Obligations.RequestsNotPerformedHaveNoEffect := by
  unfold Obligations.RequestsNotPerformedHaveNoEffect
  refine ⟨fun c l tag r s hc => ⟨fun hw => ?_, fun hw ha => ?_⟩, fun c l tag r s t reply hc hw ht hslot hd => ?_⟩
  · refine ⟨_, exec_request hc s, ?_⟩
    rw [request_working hw]
    exact ⟨beginWrite_frame l _ s, beginWrite_link_working hw _⟩
  · refine ⟨_, exec_request hc s, request_refused_replied hw ha, ?_⟩
    rw [request_refused hw ha]
    exact beginWrite_setSlot_frame _ _
  · rw [exec_request hc s] at ht
    obtain rfl := Host.Outcome.next.inj ht
    exact request_not_done (owner_sound r l _) hw hslot hd

end Sys2Proof.Machine
end

section
/-! The bytes of a request message: its check value, and the checks of R179 over it (section 11.3, R195). -/

namespace Sys2Proof.Machine

-- One proof after the other: each waiting thread would hold its own stack.
set_option Elab.async false

/-! ### The check value of a message with its own (R195) -/

theorem crc16_lt (bs : List Byte) : crc16 bs < 65536 := by
  rw [← crc_toNat]
  exact (Layout.crc bs).isLt

theorem crcBit_of_lt {c : Nat} (h : c < 32768) : crcBit c = 2 * c := if_neg (Nat.not_le.2 h)

/-- Bits shifted in below a register of sixteen bits whose leading bits are clear. -/
theorem crcBit_iterate {c : Nat} : ∀ {n : Nat}, c * 2 ^ n < 65536 → crcBit^[n] c = c * 2 ^ n
  | 0, _ => (Nat.mul_one c).symm
  | n + 1, h => by
    have hpow : c * 2 ^ (n + 1) = 2 * (c * 2 ^ n) := by ring
    rw [Function.iterate_succ_apply', crcBit_iterate (by omega), crcBit_of_lt (by omega), hpow]

theorem crcByte_eq_iterate (c : Nat) (b : Byte) : crcByte c b = crcBit^[8] (c ^^^ (b.toNat * 256)) := by
  simp only [crcByte, Function.iterate_succ_apply', Function.iterate_zero_apply]

theorem crc16_append (bs cs : List Byte) : crc16 (bs ++ cs) = cs.foldl crcByte (crc16 bs) := List.foldl_append

/-- Eight bits shifted out of a register whose high byte is clear move its low byte up. -/
theorem crcByte_of_xor {c x : Nat} {b : Byte} (h : c ^^^ (b.toNat * 256) = x) (hx : x < 256) :
    crcByte c b = x * 256 := by
  rw [crcByte_eq_iterate, h, crcBit_iterate (by omega)]
  norm_num

/-- The high byte of a register taken out of it leaves the low one. -/
theorem xor_high_byte (c : Nat) : c ^^^ (c / 256 * 256) = c % 256 := by
  have hdiv : (c ^^^ (c / 256 * 256)) / 2 ^ 8 = 0 := by
    rw [Nat.xor_div_two_pow, Nat.mul_div_cancel _ (by decide), Nat.xor_self]
  have hmod : (c ^^^ (c / 256 * 256)) % 2 ^ 8 = c % 256 := by
    rw [Nat.xor_mod_two_pow, Nat.mul_mod_left, Nat.xor_zero]
  omega

/-- The CRC-16 of a message and its check value is 0: the first byte of the check value takes out the register's high
byte, the second what is left of it. -/
theorem crc16_withCrc (bs : List Byte) : crc16 (withCrc bs) = 0 := by
  have hc := crc16_lt bs
  have hhigh : (BitVec.ofNat 8 (crc16 bs / 256)).toNat = crc16 bs / 256 := by
    rw [BitVec.toNat_ofNat]
    omega
  have hfirst : crcByte (crc16 bs) (BitVec.ofNat 8 (crc16 bs / 256)) = crc16 bs % 256 * 256 :=
    crcByte_of_xor (by rw [hhigh, xor_high_byte]) (Nat.mod_lt _ (by decide))
  have hlow : (BitVec.ofNat 8 (crc16 bs)).toNat = crc16 bs % 256 := BitVec.toNat_ofNat ..
  have hsecond : crcByte (crc16 bs % 256 * 256) (BitVec.ofNat 8 (crc16 bs)) = 0 :=
    crcByte_of_xor (x := 0) (by rw [hlow, Nat.xor_self]) (by decide)
  rw [withCrc, be_two, crc16_append, List.foldl_cons, hfirst, List.foldl_cons, hsecond, List.foldl_nil]

/-! ### The checks of R179 -/

theorem requestBody_length_lt (r : Request) : (requestBody r).length < 256 := by
  cases r <;> simp [requestBody]

theorem requestBytes_length (tag : Byte) (r : Request) : (requestBytes tag r).length = (requestBody r).length + 5 := by
  simp [requestBytes, withCrc]

/-- The body length in a message is that of the body it goes before. -/
theorem requestBytes_first (tag : Byte) (r : Request) : (u8 (requestBytes tag r) 0).toNat = (requestBody r).length :=
  Nat.mod_eq_of_lt (requestBody_length_lt r)

/-- Section 11.3: the bytes of a request pass the checks of R179 as that request. -/
theorem readRequest_requestBytes (tag : Byte) (r : Request) : readRequest (requestBytes tag r) = .ok r := by
  obtain ⟨form, hform, hread⟩ := Laws.form_of_body r
  have hlen := requestBytes_length tag r
  have hbody : ((requestBytes tag r).drop 3).take ((requestBytes tag r).length - 5) = requestBody r := by
    rw [hlen]
    exact List.take_left' rfl
  have hcheck : (checkCrc (requestBytes tag r)).2 = true := congrArg Prod.snd (checkCrc_withCrc _)
  have hcode : u8 (requestBytes tag r) 1 = requestCode r := rfl
  have hfirst := requestBytes_first tag r
  unfold readRequest
  rw [if_neg (not_not.2 ⟨by omega, by omega, hcheck⟩), hbody, hcode, hform]
  dsimp only
  rw [if_pos rfl, hread]

/-- Settles O4: the check value takes the register to 0, and a request's form reads its body back. -/
theorem requestBytesReadBack : Obligations.RequestBytesReadBack :=
  ⟨fun bs => ⟨crc16_withCrc bs, checkCrc_withCrc bs⟩, fun tag r => ⟨readRequest_requestBytes tag r, rfl, rfl⟩⟩

end Sys2Proof.Machine
end

section
/-! A request as bytes: the WRITE that carries it, and its owner's taking of it as its reply is placed (R177, R179). -/

namespace Sys2Proof.Machine

-- One proof after the other: each waiting thread would hold its own stack.
set_option Elab.async false

section raw
variable {l : Link} {tag : Byte} {r : Request} {own : State → Answer} {s : State}

theorem slotAfter_requestBytes (l : Link) (tag : Byte) (r : Request) :
    slotAfter l (requestBytes tag r) =
      if allowed l r then .workingHeld r tag
      else .workingAnswered { code := requestCode r, tag := tag, status := .refusedRights, body := [] } := by
  unfold slotAfter
  rw [readRequest_requestBytes]
  rfl

theorem takeWrite_working (h : (s.link l).slot.working = true) (bytes : List Byte) :
    takeWrite l bytes s = beginWrite l bytes.length s := if_pos h

theorem takeWrite_taken (h : (s.link l).slot.working = false) (bytes : List Byte) :
    takeWrite l bytes s = (beginWrite l bytes.length s).setSlot l (slotAfter l bytes) :=
  if_neg (Bool.not_eq_true _ ▸ h)

/-- The bytes of a request that is taken leave it held in WORKING. -/
theorem takeWrite_requestBytes (h : Taken l r s) : takeWrite l (requestBytes tag r) s = held l tag r s := by
  obtain ⟨hw, ha⟩ := h
  rw [takeWrite_taken hw, slotAfter_requestBytes, if_pos ha, requestBytes_length]
  rfl

theorem request_ownerTakes (h : Taken l r s) : request l tag r own s = ownerTakes l tag r own (held l tag r s) := by
  obtain ⟨hw, ha⟩ := h
  rw [request, if_neg (by rw [hw]; exact Bool.false_ne_true), if_pos ha]
  rfl

/-- A held request is taken by its owner before its reply is placed. -/
theorem takeHeld_held : takeHeld l (held l tag r s) = ownerTakes l tag r (owner r l) (held l tag r s) := by
  unfold takeHeld
  rw [held_link_self]

/-- A request is taken once: its answer stands in the slot. -/
theorem takeHeld_ownerTakes : takeHeld l (ownerTakes l tag r own s) = ownerTakes l tag r own s := by
  have hslot : ((ownerTakes l tag r own s).link l).slot =
      if placedAtOnce r then
        .ready { code := requestCode r, tag := tag, status := (own s).status, body := (own s).body }
      else .workingAnswered { code := requestCode r, tag := tag, status := (own s).status, body := (own s).body } :=
    congrArg LinkRec.slot (setSlot_link_self _)
  unfold takeHeld
  rw [hslot]
  cases placedAtOnce r <;> rfl

/-- A WRITE that no owner takes is the same as bytes and as the named command. -/
theorem takeWrite_requestBytes_not_taken (h : ¬ Taken l r s) :
    takeWrite l (requestBytes tag r) s = request l tag r own s := by
  cases hw : (s.link l).slot.working with
  | true => rw [takeWrite_working hw, request_working hw, requestBytes_length]
  | false =>
    have ha : allowed l r = false := Bool.eq_false_iff.2 fun ha => h ⟨hw, ha⟩
    rw [takeWrite_taken hw, request_refused hw ha, slotAfter_requestBytes, requestBytes_length, ha]
    rfl

end raw

/-- Settles O5: a request that is taken waits, as bytes, for the owner that takes the named one at once, and a placed reply
finds the owner's answer either way; one that is not taken is the same WRITE. -/
theorem rawRequestActsAsNamed : Obligations.RawRequestActsAsNamed := by
  unfold Obligations.RawRequestActsAsNamed
  intro c l tag r s hc
  refine ⟨_, _, _, rfl, exec_request hc s, rfl, ?_⟩
  by_cases h : Taken l r s
  · rw [takeWrite_requestBytes h, request_ownerTakes h]
    refine congrArg (fun u : State => Host.Outcome.next (u.onLink l placeReply)) ?_
    rw [takeHeld_held, takeHeld_ownerTakes]
  · rw [takeWrite_requestBytes_not_taken h]
    rfl

end Sys2Proof.Machine
end

section
/-! The transactions of a link: what a WRITE, a READ and the placing of a reply make of its slot (R176 to R179). -/

namespace Sys2Proof.Machine

-- One proof after the other: each waiting thread would hold its own stack.
set_option Elab.async false

/-! ### The checks of R179 -/

/-- Check 1 of R179 fails: too few bytes, a body length that is not that of the bytes, or a wrong check value. -/
def misframed (bytes : List Byte) : Prop :=
  bytes.length < 5 ∨ (bytes.getD 0 0).toNat + 5 ≠ bytes.length ∨ (checkCrc bytes).2 = false

/-- The status of the first check of R179 that the bytes of a WRITE on link `l` fail. -/
def failedCheck (l : Link) (bytes : List Byte) : Option Status :=
  let n := (bytes.getD 0 0).toNat
  if bytes.length < 5 ∨ n + 5 ≠ bytes.length ∨ (checkCrc bytes).2 = false then some .checkError
  else match requestForm (bytes.getD 1 0) with
    | none => some .unknownRequest
    | some (m, form) =>
      if n ≠ m then some .lengthError
      else if allowed l (form ((bytes.drop 3).take n)) = false then some .refusedRights
      else none

section checks
variable {bytes : List Byte}

theorem readRequest_misframed (h : misframed bytes) : readRequest bytes = .error .checkError := by
  refine if_pos fun ⟨hlen, hfirst, hcheck⟩ => ?_
  obtain h | h | h := h
  · omega
  · rw [u8] at hfirst
    omega
  · rw [hcheck] at h
    cases h

theorem framed_of_not_misframed (h : ¬ misframed bytes) :
    5 ≤ bytes.length ∧ (u8 bytes 0).toNat = bytes.length - 5 ∧ (checkCrc bytes).2 = true := by
  obtain ⟨hlen, hfirst, hcheck⟩ : 5 ≤ bytes.length ∧ (bytes.getD 0 0).toNat + 5 = bytes.length ∧
      (checkCrc bytes).2 = true := by simpa [misframed, not_or] using h
  exact ⟨hlen, by rw [u8]; omega, hcheck⟩

theorem readRequest_unknown (h : ¬ misframed bytes) (hf : requestForm (bytes.getD 1 0) = none) :
    readRequest bytes = .error .unknownRequest := by
  refine (if_neg (not_not.2 (framed_of_not_misframed h))).trans ?_
  rw [u8, hf]

theorem readRequest_form {m : Nat} {form : List Byte → Request} (h : ¬ misframed bytes)
    (hf : requestForm (bytes.getD 1 0) = some (m, form)) :
    readRequest bytes =
      if (bytes.getD 0 0).toNat = m then .ok (form ((bytes.drop 3).take (bytes.getD 0 0).toNat))
      else .error .lengthError := by
  obtain ⟨hlen, hfirst, hcheck⟩ := framed_of_not_misframed h
  rw [u8] at hfirst
  have hbody : ((bytes.drop 3).take (bytes.length - 5)).length = bytes.length - 5 := by
    rw [List.length_take, List.length_drop]
    omega
  refine (if_neg (not_not.2 ⟨hlen, hfirst, hcheck⟩)).trans ?_
  rw [u8, hf, hfirst]
  exact if_congr (by rw [hbody]) rfl rfl

theorem slotAfter_error {l : Link} {why : Status} (h : readRequest bytes = .error why) :
    slotAfter l bytes =
      .workingAnswered { code := bytes.getD 1 0, tag := bytes.getD 2 0, status := why, body := [] } := by
  unfold slotAfter
  rw [h]
  rfl

theorem slotAfter_ok {l : Link} {r : Request} (h : readRequest bytes = .ok r) :
    slotAfter l bytes = if allowed l r then .workingHeld r (bytes.getD 2 0)
      else .workingAnswered
        { code := bytes.getD 1 0, tag := bytes.getD 2 0, status := .refusedRights, body := [] } := by
  unfold slotAfter
  rw [h]
  rfl

/-- The slot after a WRITE of `bytes` that is taken is that of the outcome `why` of the checks: the reply of the one that
failed, or the request. -/
def SlotJudged (l : Link) (bytes : List Byte) (why : Option Status) : Prop :=
  (∀ x, why = some x → slotAfter l bytes =
    .workingAnswered { code := bytes.getD 1 0, tag := bytes.getD 2 0, status := x, body := [] }) ∧
  (why = none → ∃ r, readRequest bytes = .ok r ∧ slotAfter l bytes = .workingHeld r (bytes.getD 2 0))

section judged
variable {l : Link} {why : Status} {r : Request}

theorem slotJudged_refused (h : slotAfter l bytes =
    .workingAnswered { code := bytes.getD 1 0, tag := bytes.getD 2 0, status := why, body := [] }) :
    SlotJudged l bytes (some why) := ⟨fun _ hx => Option.some.inj hx ▸ h, fun hx => nomatch hx⟩

theorem slotJudged_error (h : readRequest bytes = .error why) : SlotJudged l bytes (some why) :=
  slotJudged_refused (slotAfter_error h)

theorem slotJudged_rights (h : readRequest bytes = .ok r) (ha : allowed l r = false) :
    SlotJudged l bytes (some .refusedRights) :=
  slotJudged_refused ((slotAfter_ok h).trans (if_neg (by rw [ha]; exact Bool.false_ne_true)))

theorem slotJudged_ok (h : readRequest bytes = .ok r) (ha : allowed l r = true) : SlotJudged l bytes none :=
  ⟨fun _ hx => (nomatch hx), fun _ => ⟨r, h, (slotAfter_ok h).trans (if_pos ha)⟩⟩

end judged

/-- The checks of R179 in their order decide the slot after a WRITE that is taken. -/
theorem slotAfter_judged (l : Link) (bytes : List Byte) : SlotJudged l bytes (failedCheck l bytes) := by
  unfold failedCheck
  dsimp only
  split
  next h => exact slotJudged_error (readRequest_misframed h)
  next h =>
    split
    next hform => exact slotJudged_error (readRequest_unknown h hform)
    next m form hform =>
      have hread := readRequest_form h hform
      split
      next hm => exact slotJudged_error (hread.trans (if_neg hm))
      next hm =>
        have hok := hread.trans (if_pos (not_not.1 hm))
        split
        next ha => exact slotJudged_rights hok ha
        next ha => exact slotJudged_ok hok (Bool.not_eq_false _ ▸ ha)

end checks

/-! ### The bytes of a READ (section 11.3) -/

theorem slotStatus_eq (k : LinkRec) : Layout.slotStatus k = statusByte k := by
  unfold Layout.slotStatus statusByte
  cases k.slot <;> cases k.overrun <;> dsimp only <;> rfl

theorem status_eq (x : Status) : Layout.status x = [x.code] := by cases x <;> rfl

theorem reply_eq (r : Reply) (overrun : Bool) : Layout.reply r overrun = replyBytes r overrun := by
  simp only [Layout.reply, replyBytes, framed_eq, Layout.num_eq, status_eq, Layout.bit_eq, List.append_assoc,
    List.cons_append, List.nil_append]

theorem readSlot_ready {k : LinkRec} {r : Reply} (h : k.slot = .ready r) (n : Nat) :
    readSlot n k =
      { k with
        slot := .idle, overrun := false
        spiOut := clockOut n 0 (Layout.slotStatus k :: Layout.reply r k.overrun) } := by
  rw [readSlot, readout, h, slotStatus_eq, reply_eq]

theorem readSlot_no_reply {k : LinkRec} (h : ∀ r, k.slot ≠ .ready r) (n : Nat) :
    readSlot n k = { k with spiOut := clockOut n Config.noReplyFill [Layout.slotStatus k] } := by
  rw [readSlot, readout, slotStatus_eq]
  split
  · next r hr => exact absurd hr (h r)
  · split
    · next r hr => exact absurd hr (h r)
    · rfl

/-! ### Transactions -/

section transactions
variable {l : Link} {s : State}

/-- A link changed by a function that keeps its record is unchanged. -/
theorem State.onLink_eq_self {f : LinkRec → LinkRec} (h : f (s.link l) = s.link l) : s.onLink l f = s := by
  cases l with
  | lc => exact congrArg (fun k => { s with lc := k }) h
  | sm => exact congrArg (fun k => { s with sm := k }) h
  | sc => exact congrArg (fun k => { s with sc := k }) h

theorem exec_read_other {b : Byte} (hb : b ≠ 1) (rest : List Byte) :
    exec (.read l (b :: rest)) s = .next (s.onLink l (readSlot rest.length)) := congrArg _ (if_neg hb)

theorem takeHeld_of_not_held (h : ∀ r tag, (s.link l).slot ≠ .workingHeld r tag) : takeHeld l s = s := by
  unfold takeHeld
  split
  · next r tag hr => exact absurd hr (h r tag)
  · rfl

theorem placeReply_answered {k : LinkRec} {r : Reply} (h : k.slot = .workingAnswered r) :
    placeReply k = { k with slot := .ready r } := by rw [placeReply, h]

theorem exec_replyPlaced_answered {r : Reply} (h : (s.link l).slot = .workingAnswered r) :
    exec (.replyPlaced l) s = .next (s.onLink l placeReply) := by
  have hheld : takeHeld l s = s := takeHeld_of_not_held fun _ _ => by rw [h]; exact Slot.noConfusion
  exact congrArg (fun u : State => Host.Outcome.next (u.onLink l placeReply)) hheld

theorem exec_replyPlaced_idle (h : (s.link l).slot.working = false) : exec (.replyPlaced l) s = .next s := by
  have hheld : takeHeld l s = s := takeHeld_of_not_held fun _ _ e => by rw [e] at h; cases h
  have hplace : placeReply (s.link l) = s.link l := by
    unfold placeReply
    split
    · next e => rw [e] at h; cases h
    · rfl
  exact (congrArg (fun u : State => Host.Outcome.next (u.onLink l placeReply)) hheld).trans
    (congrArg _ (State.onLink_eq_self hplace))

end transactions

/-- Settles O50: a WRITE goes through the checks of R179 in their order, and a READ and a placed reply by the state of the
slot. -/
theorem transactionsMoveTheSlot : Obligations.TransactionsMoveTheSlot := by
  unfold Obligations.TransactionsMoveTheSlot
  intro l s k
  refine ⟨fun bytes => ⟨fun hw => ?_, fun hw => ?_⟩, ⟨s, rfl, rfl⟩, fun _ => rfl, fun b rest hb => ⟨fun r hr => ?_,
    fun hr => ⟨Config.noReplyFill, ?_⟩⟩, fun r hr => ?_, fun hw => ⟨s, exec_replyPlaced_idle hw, rfl⟩⟩
  · refine ⟨_, rfl, ?_⟩
    rw [takeWrite_working hw]
    exact ⟨beginWrite_frame l _ s, beginWrite_link_working hw _⟩
  · refine ⟨_, rfl, ?_⟩
    rw [takeWrite_taken hw]
    beta_reduce
    rw [beginWrite_setSlot_link]
    exact ⟨beginWrite_setSlot_frame _ _, rfl, slotAfter_judged l bytes⟩
  · refine ⟨_, exec_read_other hb rest, State.onLink_frame l _ s, ?_⟩
    rw [State.link_onLink_self, readSlot_ready hr]
    rfl
  · refine ⟨_, exec_read_other hb rest, State.onLink_frame l _ s, ?_⟩
    rw [State.link_onLink_self, readSlot_no_reply hr]
    rfl
  · refine ⟨_, exec_replyPlaced_answered hr, State.onLink_frame l _ s, ?_⟩
    rw [State.link_onLink_self]
    exact placeReply_answered hr

end Sys2Proof.Machine
end

section
/-! The notice requests: each changes its own link alone, and the set of the pending classes (R182, R185 to R189). -/

namespace Sys2Proof.Machine

-- One proof after the other: each waiting thread would hold its own stack.
set_option Elab.async false

/-! ### The pending classes and the ATTN output (R182, R185) -/

theorem foldl_ite_add {α : Type} (p : α → Bool) (f : α → Nat) (xs : List α) (n : Nat) :
    xs.foldl (fun acc x => if p x then acc + f x else acc) n = n + (xs.map fun x => if p x then f x else 0).sum := by
  induction xs generalizing n with
  | nil => rfl
  | cons x xs ih =>
    rw [List.foldl_cons, ih, List.map_cons, List.sum_cons]
    split <;> omega

theorem pendingSet_eq (k : LinkRec) : k.pendingSet = pendingBits k := by
  rw [LinkRec.pendingSet, foldl_ite_add, Nat.zero_add]
  rfl

theorem pendingBytes_eq (k : LinkRec) : pendingBytes k = be 2 (pendingBits k) := by rw [pendingBytes, pendingSet_eq]

theorem pendingBits_eq_sum (k : LinkRec) :
    pendingBits k = ∑ c : Fin 16, if (k.notices.get c).isSome then 2 ^ c.1 else 0 := (Fin.sum_univ_def _).symm

/-- A class that is taken leaves the set of the pending ones. -/
theorem pendingBits_take {k : LinkRec} {c : Fin 16} {d : Detail} (h : k.notices.get c = some d) :
    pendingBits (k.take c) = pendingBits k - 2 ^ c.1 := by
  have hrest : ∀ e ∈ Finset.univ.erase c, ((k.take c).notices.get e) = k.notices.get e := fun e he =>
    Tbl.get_set_of_ne _ _ (Finset.ne_of_mem_erase he)
  have htaken : (k.take c).notices.get c = none := Tbl.get_set_self ..
  rw [pendingBits_eq_sum, pendingBits_eq_sum, ← Finset.add_sum_erase _ _ (Finset.mem_univ c),
    ← Finset.add_sum_erase _ _ (Finset.mem_univ c), htaken, h, Finset.sum_congr rfl fun e he => by rw [hrest e he]]
  simp

theorem attnLow_iff (k : LinkRec) :
    k.attnLow = true ↔ ∃ c, (k.notices.get c).isSome = true ∧ k.mask.getLsbD c.1 = true := by
  simp only [LinkRec.attnLow, any_numbers, LinkRec.pends, LinkRec.enables, Bool.and_eq_true]

/-- With no class pending ATTN is inactive. -/
theorem attnLow_of_empty {k : LinkRec} (h : k.notices = Tbl.fill 16 none) : k.attnLow = false := by
  rw [Bool.eq_false_iff, ne_eq, attnLow_iff]
  rintro ⟨c, hc, _⟩
  rw [h, Tbl.get_fill] at hc
  cases hc

/-! ### A request that changes its own link -/

section link
variable {l : Link} {tag : Byte} {r : Request} {own : State → Answer} {s : State} {body : List Byte}
  {f : LinkRec → LinkRec}

theorem held_pendingBits : pendingBits ((held l tag r s).link l) = pendingBits (s.link l) := by
  rw [held_link_self]
  rfl

theorem held_notices : ((held l tag r s).link l).notices = (s.link l).notices := by rw [held_link_self]

/-- A request whose owner changes its link alone is answered in the record that the owner leaves. -/
theorem request_onLink {c : Instr} (hx : exec c s = .next (request l tag r own s)) (h : Taken l r s)
    (hp : placedAtOnce r = false) (ho : own (held l tag r s) = done body ((held l tag r s).onLink l f)) :
    Completes c s fun t => SameBut [.link l] s t ∧ t.link l =
      { f ((held l tag r s).link l) with
        slot := .workingAnswered { code := requestCode r, tag := tag, status := .done, body := body } } := by
  refine ⟨_, hx, ?_⟩
  rw [request_taken h hp, ho]
  refine ⟨((held_frame l tag r s).trans (State.onLink_frame l f _)).trans (State.setSlot_frame l _ _), ?_⟩
  simp only [setSlot_link_self, done, State.link_onLink_self]

end link

/-! ### NOTICE-CLEAR and LINK-RESET (R187, R189) -/

/-- Settles O51: the owner clears the notices of its link alone, and a link without notices leaves ATTN inactive. -/
theorem noticeClearClearsItsLink : Obligations.NoticeClearClearsItsLink := by
  unfold Obligations.NoticeClearClearsItsLink
  intro l tag s hw
  obtain ⟨t, hx, hframe, hlink⟩ := request_onLink (c := .noticeClear l tag) rfl ⟨hw, rfl⟩ rfl rfl
  rw [held_link_self, pendingBytes_eq] at hlink
  exact ⟨t, hx, hframe, hlink, by rw [hlink], attnLow_of_empty (by rw [hlink])⟩

/-- Settles O52: the owner clears the record of its link alone, and its reply is placed within the request. -/
theorem linkResetResetsItsLink : Obligations.LinkResetResetsItsLink := by
  unfold Obligations.LinkResetResetsItsLink
  intro l tag s hw
  refine ⟨_, rfl, ?_⟩
  rw [request_placed ⟨hw, rfl⟩ rfl]
  have hlink := setSlot_link_self (l := l) (s := (held l tag .linkReset s).onLink l LinkRec.cleared)
    (.ready { code := 0x93, tag := tag, status := .done, body := [] })
  rw [State.link_onLink_self] at hlink
  refine ⟨((held_frame l tag .linkReset s).trans (State.onLink_frame l _ _)).trans (State.setSlot_frame l _ _),
    hlink.trans ?_, attnLow_of_empty (congrArg LinkRec.notices hlink)⟩
  exact congrArg (fun out => LinkRec.mk _ _ _ _ out) (congrArg LinkRec.spiOut hlink).symm

end Sys2Proof.Machine
end

section
/-! Notices: their codes, their posts, and the requests that take and mask them (R181 to R186, R188, section 11.4). -/

namespace Sys2Proof.Machine

-- One proof after the other: each waiting thread would hold its own stack.
set_option Elab.async false

/-! ### The class table (section 11.4) -/

/-- A notice reads as the class, the subject and the reason that it is written with. -/
theorem reads_mk (c : Fin 16) (n : Nat) (r : Byte) : (Notice.mk c n r).reads (c.1 + 1) n r := ⟨rfl, rfl, rfl⟩

theorem messageFault_code (why : MessageFault) :
    why.code = BitVec.ofNat 8 (1 + [MessageFault.check, .format, .kind, .length, .port, .range, .repeated, .handle, .role,
      .head, .point, .mode].idxOf why) := by cases why <;> rfl

theorem sourceOfTimed_code (src : TimedSource) : (sourceOfTimed src).code.toNat = src.number := by cases src <;> rfl

/-- Section 11.4: the notices of the model have the codes of the class table. -/
theorem noticeCodes : NoticeCodes := by
  refine ⟨fun src => ?_, fun r => ⟨reads_mk .., reads_mk .., reads_mk ..⟩, rfl, fun n => ⟨reads_mk .., reads_mk ..⟩,
    fun i => ⟨reads_mk .., reads_mk .., reads_mk ..⟩, fun k => ?_, fun i => ?_,
    fun p => ⟨reads_mk .., reads_mk ..⟩, fun i => ?_, fun i => ?_, fun n why => ?_, fun n why => ?_,
    fun n => ⟨reads_mk .., reads_mk ..⟩, reads_mk .., reads_mk .., reads_mk .., reads_mk .., reads_mk ..⟩
  · rw [← sourceOfTimed_code]
    exact ⟨reads_mk .., reads_mk .., reads_mk .., reads_mk ..⟩
  · exact ⟨reads_mk .., reads_mk .., reads_mk .., reads_mk .., reads_mk .., reads_mk .., reads_mk .., reads_mk ..,
      reads_mk ..⟩
  · exact ⟨reads_mk .., reads_mk .., reads_mk .., reads_mk .., reads_mk .., reads_mk ..⟩
  · exact ⟨reads_mk .., reads_mk .., reads_mk .., reads_mk .., reads_mk ..⟩
  · exact ⟨reads_mk .., reads_mk .., reads_mk .., reads_mk .., reads_mk ..⟩
  · rw [discardReason_eq]
    exact reads_mk ..
  · rw [← messageFault_code]
    exact reads_mk ..

/-! ### Posts (R183, R184) -/

/-- A port is covered at OBSERVE exactly where some ACTIVE grant holds it in its window: no level is lower (R148). -/
theorem coveredAt_observe_iff (s : State) (p : Option (Fin 24)) :
    s.coveredAt .observe p = true ↔
      ∃ x k a, p = some x ∧ (s.grants.slots.get k).state = .active ∧ (s.grants.slots.get k).ask = some a ∧
        a.base ≤ x ∧ x ≤ a.limit := by
  have hrank : ∀ v : GrantLevel, GrantLevel.observe.rank ≤ v.rank := fun v => by cases v <;> decide
  cases p with
  | none => exact ⟨fun h => (nomatch h), fun ⟨_, _, _, h, _⟩ => (nomatch h)⟩
  | some x =>
    rw [State.coveredAt, State.covered, Tbl.any_xs]
    constructor
    · rintro ⟨k, hk⟩
      obtain ⟨hs, a, ha, _, hb⟩ := (Layout.covers_iff ..).1 hk
      exact ⟨x, k, a, rfl, hs, ha, hb⟩
    · rintro ⟨_, k, a, hx, hs, ha, hb⟩
      obtain rfl := Option.some.inj hx
      exact ⟨k, (Layout.covers_iff ..).2 ⟨hs, a, ha, hrank _, hb⟩⟩

theorem deliver_get (n : Notice) (mt : Int) (k : LinkRec) :
    (deliver n mt k).notices.get n.cls = n.record mt (k.notices.get n.cls) := Tbl.get_upd_self ..

theorem deliver_others (n : Notice) (mt : Int) (k : LinkRec) :
    OthersSame n.cls k.notices (deliver n mt k).notices := fun _ hj => Tbl.get_upd_of_ne _ _ hj

/-! ### NOTICE-TAKE (R186) -/

section take
variable {l : Link} {s : State}

theorem firstPending_eq_some {k : LinkRec} {c : Fin 16} {d : Detail} (h : k.notices.get c = some d)
    (hlow : ∀ e, e < c → k.notices.get e = none) : k.firstPending = some c := by
  refine List.find?_eq_some_iff_getElem.2 ⟨by rw [LinkRec.pends, h]; rfl, c.1, by simp [numbers], by simp [numbers],
    fun j hj => ?_⟩
  have hnone := hlow ⟨j, by omega⟩ hj
  simp [numbers, LinkRec.pends, hnone]

theorem firstPending_eq_none {k : LinkRec} (h : ∀ c, k.notices.get c = none) : k.firstPending = none :=
  List.find?_eq_none.2 fun c _ hc => by
    rw [LinkRec.pends, h c] at hc
    cases hc

theorem ownNoticeTake_pending {c : Fin 16} {d : Detail} (h : (s.link l).notices.get c = some d)
    (hlow : ∀ e, e < c → (s.link l).notices.get e = none) :
    ownNoticeTake l s =
      done (be 1 (c.1 + 1) ++ timeBytes d.mt ++ field 4 d.subject ++ [d.reason, boolByte d.more] ++
        be 2 (pendingBits (s.link l) - 2 ^ c.1)) (s.onLink l (·.take c)) := by
  have hbytes : be 1 (c.1 + 1) ++ detailBytes d ++ pendingBytes ((s.link l).take c) =
      be 1 (c.1 + 1) ++ timeBytes d.mt ++ field 4 d.subject ++ [d.reason, boolByte d.more] ++
        be 2 (pendingBits (s.link l) - 2 ^ c.1) := by
    rw [pendingBytes_eq, pendingBits_take h, detailBytes]
    simp only [List.append_assoc]
    rfl
  rw [ownNoticeTake, firstPending_eq_some h hlow]
  dsimp only
  rw [h]
  dsimp only
  rw [hbytes]

theorem ownNoticeTake_empty (h : ∀ c, (s.link l).notices.get c = none) :
    ownNoticeTake l s = done ([0] ++ List.replicate 16 0xFF ++ [0, 0]) (s.onLink l id) := by
  rw [ownNoticeTake, firstPending_eq_none h, State.onLink_eq_self rfl]
  rfl

end take

/-- Settles O53: the class table notice by notice, a post on one link and on the three, and the two requests by what their
owner leaves of the record of their link. -/
theorem noticesArePostedAndTaken : Obligations.NoticesArePostedAndTaken := by
  unfold Obligations.NoticesArePostedAndTaken
  refine ⟨noticeCodes, fun n mt k => ⟨rfl, deliver_others n mt k, fun h => ?_, fun d h => ?_⟩,
    fun n toSc s => ⟨post_frame n toSc s, rfl, rfl, rfl⟩, coveredAt_observe_iff,
    fun l tag s hw => ?_⟩
  · rw [deliver_get, h]
    rfl
  · rw [deliver_get, h]
    rfl
  intro k
  refine ⟨fun c d hd hlow => ?_, fun hnone => ?_, fun m => ?_⟩
  · rw [← held_notices (tag := tag) (r := .noticeTake)] at hd
    obtain ⟨t, hx, hframe, hlink⟩ := request_onLink (c := .noticeTake l tag) rfl ⟨hw, rfl⟩ rfl
      (ownNoticeTake_pending hd (by rwa [held_notices]))
    rw [held_link_self] at hlink
    exact ⟨t, hx, hframe, by rw [hlink]; rfl, by rw [hlink]; exact Tbl.get_set_self .., by
      rw [hlink]
      exact fun e he => Tbl.get_set_of_ne _ _ he⟩
  · obtain ⟨t, hx, hframe, hlink⟩ := request_onLink (c := .noticeTake l tag) rfl ⟨hw, rfl⟩ rfl
      (ownNoticeTake_empty (by rwa [held_notices]))
    rw [held_link_self] at hlink
    exact ⟨t, hx, hframe, hlink⟩
  · obtain ⟨t, hx, hframe, hlink⟩ := request_onLink (c := .noticeMask l tag m) rfl ⟨hw, rfl⟩ rfl rfl
    rw [pendingBytes_eq, held_link_self] at hlink
    exact ⟨t, hx, hframe, hlink, by rw [attnLow_iff, hlink]⟩

end Sys2Proof.Machine
end

section
/-! The resets: the blocks after a warm reset, and the links, whose one notice is RESTARTED (R191, R192, section 4.7). -/

namespace Sys2Proof.Machine

-- One proof after the other: each waiting thread would hold its own stack.
set_option Elab.async false

/-! ### The Station Map (R38) -/

/-- Station `i` at a warm reset. -/
def warmStation (i : Fin 32) (s : State) : State :=
  if s.stationState i = some .run ∨ s.stationState i = some .service then emitOrder i .held (setStation i .held s) else s

theorem warmStations_eq (s : State) : warmStations s = forEach (numbers 32) warmStation s := rfl

/-- The record of a station after a warm reset at MT `now`, with `f` the Fabric Port that takes the ORDER. -/
def Station.warmed (f : Fabric) (now : Int) (x : Station) : Station :=
  if x.conf.map (·.state) = some .run ∨ x.conf.map (·.state) = some .service then x.turned .held f now else x

/-- The Fabric Port after the ORDER HOLD of a warm reset to station `i`, whose record is `x`. -/
def Station.warmOrdered (i : Fin 32) (x : Station) (f : Fabric) : Fabric :=
  match x.conf.map (·.port) with
  | some p =>
    if x.conf.map (·.state) = some .run ∨ x.conf.map (·.state) = some .service then f.ordered p i .hold (x.orderSeq + 1)
    else f
  | none => f

/-- From `s` to `t` the stations `xs` have gone through a warm reset in order. -/
structure StationsWarmed (xs : List (Fin 32)) (s t : State) : Prop where
  frame : SameBut [.stations, .fabric] s t
  stations : ∀ i, t.stations.get i = if i ∈ xs then (s.stations.get i).warmed s.fabric s.now else s.stations.get i
  fabric : t.fabric = xs.foldl (fun f i => (s.stations.get i).warmOrdered i f) s.fabric
  up : t.fabric.up = s.fabric.up

section stations
variable {i : Fin 32} {s u : State} {xs : List (Fin 32)}

theorem Fabric.ordered_up (p : Fin 24) (o : Order) (q : Byte) (f : Fabric) : (f.ordered p i o q).up = f.up := by
  unfold Fabric.ordered
  split <;> rfl

theorem Fabric.ordered_down {f : Fabric} (h : f.up = false) (p : Fin 24) (o : Order) (q : Byte) :
    f.ordered p i o q = f := if_neg (Bool.not_eq_true _ ▸ h)

theorem Station.warmOrdered_up (x : Station) (f : Fabric) : (x.warmOrdered i f).up = f.up := by
  unfold Station.warmOrdered
  split
  · split
    · exact Fabric.ordered_up ..
    · rfl
  · rfl

theorem Station.warmOrdered_down {f : Fabric} (h : f.up = false) (x : Station) : x.warmOrdered i f = f := by
  unfold Station.warmOrdered
  split
  · rw [Fabric.ordered_down h, ite_self]
  · rfl

theorem warmStation_frame : SameBut [.stations, .fabric] s (warmStation i s) :=
  .ite _ (((setStation_frame i _ s).mono (by decide)).trans ((emitOrder_frame i _ _).mono (by decide))) (.refl _ s)

theorem warmStation_others : OthersSame i s.stations (warmStation i s).stations := by
  unfold warmStation
  split
  · exact (onStation_others i _ s).trans (emitOrder_others i .held (setStation i .held s))
  · exact fun _ _ => rfl

theorem warmStation_unconfigured (h : (s.stations.get i).conf = none) : warmStation i s = s := by
  simp [warmStation, State.stationState, h]

theorem warmStation_record :
    (warmStation i s).stations.get i = (s.stations.get i).warmed s.fabric s.now := by
  cases hc : (s.stations.get i).conf with
  | none =>
    rw [warmStation_unconfigured hc, Station.warmed, hc]
    rfl
  | some x =>
    have hp : (setStation i .held s).stationPort i = some x.port := by
      rw [setStation_stationPort, stationPort_of_conf hc]
    unfold warmStation Station.warmed
    split
    next h =>
      rw [emitOrder_station hp rfl, setStation_get_self hc]
      refine Eq.trans ?_ (if_pos h).symm
      rw [Station.turned, hc]
      rfl
    next h => exact (if_neg h).symm

theorem warmStation_fabric : (warmStation i s).fabric = (s.stations.get i).warmOrdered i s.fabric := by
  cases hc : (s.stations.get i).conf with
  | none =>
    rw [warmStation_unconfigured hc, Station.warmOrdered, hc]
    rfl
  | some x =>
    have hp : (setStation i .held s).stationPort i = some x.port := by
      rw [setStation_stationPort, stationPort_of_conf hc]
    have hport : (s.stations.get i).conf.map (·.port) = some x.port := stationPort_of_conf hc
    unfold warmStation Station.warmOrdered
    rw [hport]
    split
    next h =>
      rw [emitOrder_fabric hp rfl, setStation_get_self hc]
      exact (if_pos h).symm
    next h => exact (if_neg h).symm

/-- One more station: its record is still the one from before the reset. -/
theorem StationsWarmed.next (h : StationsWarmed xs s u) (hi : i ∉ xs) :
    StationsWarmed (xs ++ [i]) s (warmStation i u) := by
  have hrecord : u.stations.get i = s.stations.get i := (h.stations i).trans (if_neg hi)
  have hseq : u.fabric.nextSeq = s.fabric.nextSeq := by
    funext q
    rw [Fabric.nextSeq, h.up, Fabric.nextSeq]
  have hwarmed : (s.stations.get i).warmed u.fabric u.now = (s.stations.get i).warmed s.fabric s.now := by
    rw [Station.warmed, Station.turned, hseq, h.frame.now]
    rfl
  refine ⟨h.frame.trans warmStation_frame, fun j => ?_, ?_, ?_⟩
  · by_cases hj : j = i
    · subst hj
      rw [warmStation_record, hrecord, hwarmed, if_pos (List.mem_append_right xs (List.mem_singleton_self j))]
    · rw [warmStation_others j hj, h.stations]
      exact if_congr (by simp [hj]) rfl rfl
  · rw [warmStation_fabric, hrecord, h.fabric, List.foldl_append]
    rfl
  · rw [warmStation_fabric, Station.warmOrdered_up, h.up]

theorem warmStations_warmed (s : State) : StationsWarmed (numbers 32) s (warmStations s) := by
  rw [warmStations_eq]
  exact forEach_visits (P := fun xs u => StationsWarmed xs s u) (List.nodup_finRange 32)
    ⟨.refl _ s, fun _ => (if_neg List.not_mem_nil).symm, rfl, rfl⟩ fun _ _ _ hi h => h.next hi

end stations

/-! ### The blocks -/

/-- What a warm reset makes of the blocks beside the Fabric Port and the Station Map (R63, R91, R116, R144, R163). -/
def warmOthers (s : State) : State := warmGrants (warmTrack (warmPorts (warmStreams s)))

/-- The warm reset of the blocks, links apart (R191). -/
def warmBlocks (s : State) : State := warmOthers (warmStations (warmFabric s))

theorem warm_eq (n : Notice) (s : State) : warm n s = postAll n (clearLinks (idleSlots (warmBlocks s))) := rfl

/-- In DOWN the Fabric Port stays as it is: no RESYNC is placed in its queue, and no ORDER is made (R30, R166). -/
theorem warmStations_fabric (s : State) :
    (warmStations (warmFabric s)).fabric =
      if s.fabric.up then
        (numbers 32).foldl (fun f i => (s.stations.get i).warmOrdered i f) { s.fabric with outbound := [.resync] }
      else s.fabric := by
  rw [(warmStations_warmed (warmFabric s)).fabric, warmFabric, State.onFabric_fabric]
  by_cases hu : s.fabric.up = true
  · rw [if_pos hu, if_pos hu]
    rfl
  · rw [if_neg hu, if_neg hu]
    exact List.foldl_fixed' (fun i => Station.warmOrdered_down (Bool.eq_false_iff.2 hu) _) (numbers 32)

/-- An output at a warm reset, which opens the forced-reject window (R131, R144). -/
theorem Output.warm_held (now : Int) (x : Output) :
    (if (x.warm now).mode = .gate then { x.warm now with hold := true } else x.warm now) =
      { x with
        pulseEnd := none, needs := [], started := 0, merged := 0
        nextFeed := if x.mode = .feed then some (nextInstant x.period now) else x.nextFeed
        hold := x.hold || x.mode == .gate } := by
  have hmode : (x.warm now).mode = x.mode := rfl
  rw [hmode]
  split
  next h => simp [Output.warm, h]
  next h => simp [Output.warm, h]

section others
variable {s u : State}

theorem warmOthers_output (o : Fin 8) :
    (warmOthers u).outputs.get o =
      { u.outputs.get o with
        pulseEnd := none, needs := [], started := 0, merged := 0
        nextFeed := if (u.outputs.get o).mode = .feed then some (nextInstant (u.outputs.get o).period u.now)
          else (u.outputs.get o).nextFeed
        hold := (u.outputs.get o).hold || (u.outputs.get o).mode == .gate } := by
  have houtputs : (warmOthers u).outputs =
      (u.outputs.map (·.warm u.now)).map fun x => if x.mode = .gate then { x with hold := true } else x := rfl
  rw [houtputs, Tbl.get_map, Tbl.get_map, Output.warm_held]

theorem warmOthers_track (h : SameBut [.stations, .fabric] s u) :
    (warmOthers u).track = { s.track with
      records := [], lastDeparture := none, counts := Tbl.fill 7 0, future := 0, escaped := 0, full := 0, lateFill := 0
      windowEnd := some (s.now + s.gate.delayUs * 1000 + s.gate.halfWindowUs * 1000) } := by
  have htrack : (warmOthers u).track = u.track.warm (u.now + usToNs u.gate.delayUs + usToNs u.gate.halfWindowUs) := rfl
  rw [htrack, h.track, h.now, h.gate, usToNs_eq, usToNs_eq]
  rfl

theorem warmOthers_port (p : Fin 24) : (warmOthers u).ports.get p = (u.ports.get p).warm := Tbl.get_map ..

theorem warmOthers_grants :
    (warmOthers u).grants = { u.grants with slots := u.grants.slots.map (·.release .reset) } := rfl

/-- What the blocks beside the Fabric Port and the Station Map may change. -/
theorem warmOthers_frame :
    SameBut [.streams, .store, .storeDiscards, .voids, .backoff, .ports, .track, .outputs, .outWindow, .grants] u
      (warmOthers u) :=
  ((((warmStreams_frame u).mono (by decide)).trans ((warmPorts_frame _).mono (by decide))).trans
    ((warmTrack_frame _).mono (by decide))).trans ((warmGrants_frame _).mono (by decide))

end others

/-- The blocks leave the links to their own reset. -/
theorem warmBlocks_frame (s : State) :
    SameBut [.stations, .fabric, .streams, .store, .storeDiscards, .voids, .backoff, .ports, .track, .outputs, .outWindow,
      .grants] s (warmBlocks s) :=
  (((warmFabric_frame s).mono (by decide)).trans ((warmStations_warmed _).frame.mono (by decide))).trans
    (warmOthers_frame.mono (by decide))

/-- The blocks after a warm reset: the Station Map and the Fabric Port station by station, the others each on its own. -/
theorem warmBlocks_blocks (s : State) : WarmBlocks s (warmBlocks s) := by
  have hwarmed := warmStations_warmed (warmFabric s)
  have hframe : SameBut [.stations, .fabric] s (warmStations (warmFabric s)) :=
    ((warmFabric_frame s).mono (by decide)).trans hwarmed.frame
  have hfabric := warmStations_fabric s
  have hstation : ∀ i, (warmStations (warmFabric s)).stations.get i = (s.stations.get i).warmed s.fabric s.now :=
    fun i => (hwarmed.stations i).trans (if_pos (List.mem_finRange i))
  unfold warmBlocks
  generalize warmStations (warmFabric s) = u at hframe hfabric hstation
  refine ⟨hframe.time, hframe.queues, hframe.points, hframe.gate, hframe.pending, hstation, hfabric, rfl, rfl, rfl, rfl,
    ?_, fun p => ?_, warmOthers_track hframe, rfl, fun o => ?_, ?_, ?_, fun k => ?_⟩
  · exact congrArg (fun b : BackoffMatch => { b with matched := 0, unmatched := 0 }) hframe.backoff
  · rw [warmOthers_port, hframe.ports]
    rfl
  · obtain ⟨hafter, hwithin, hgrid⟩ := nextInstant_spec (s.outputs.get o).period s.now
    refine ⟨_, hafter, hwithin, hgrid, ?_⟩
    rw [warmOthers_output, hframe.outputs, hframe.now]
  · rw [warmOthers_grants, hframe.grants]
  · rw [warmOthers_grants, hframe.grants]
  · rw [warmOthers_grants, hframe.grants]
    exact Tbl.get_map ..

/-! ### A state that differs in its links -/

theorem SameBut.symm {ps : List Part} {s t : State} (h : SameBut ps s t) : SameBut ps t s := by
  intro p hp
  have hsame := h p hp
  cases p <;> exact Eq.symm hsame

theorem SameBut.eq_of_links {s t : State} (h : SameBut allLinks s t) :
    t = { s with lc := t.lc, sm := t.sm, sc := t.sc } := by
  cases s
  cases t
  rw [State.mk.injEq]
  exact ⟨h.time, h.stations, h.streams, h.store, h.storeDiscards, h.voids, h.backoff, h.queues, h.ports, h.points, h.gate,
    h.track, h.outputs, h.outWindow, h.grants, h.fabric, rfl, rfl, rfl, h.pending⟩

/-- A warm reset of the blocks is one whatever the links hold. -/
theorem WarmBlocks.of_links {s s' t t' : State} (h : WarmBlocks s t) (hs : SameBut allLinks s s')
    (ht : SameBut allLinks t t') : WarmBlocks s' t' := by
  rw [hs.eq_of_links, ht.eq_of_links]
  exact h

theorem warm_blocks (n : Notice) (s : State) : WarmBlocks s (warm n s) :=
  (warmBlocks_blocks s).of_links (.refl _ s)
    (((idleSlots_frame _).trans (clearLinks_frame _)).trans (postAll_frame n _))

/-! ### The links (R191, R192) -/

/-- A link cleared hears of the reset alone. -/
theorem deliver_cleared (k : LinkRec) (mt : Int) (subject : Nat) (reason : Byte) :
    deliver ⟨15, subject, reason⟩ mt { k with slot := .idle }.cleared =
      restarted .idle k.spiOut mt (BitVec.ofNat 32 subject) reason := by
  rw [deliver, LinkRec.cleared, Tbl.upd, Tbl.get_fill]
  rfl

theorem warm_link (subject : Nat) (reason : Byte) (s : State) (m : Link) :
    (warm ⟨15, subject, reason⟩ s).link m =
      restarted .idle (s.link m).spiOut s.now (BitVec.ofNat 32 subject) reason := by
  have hframe := warmBlocks_frame s
  rw [← hframe.link m (by simp), ← hframe.now, ← deliver_cleared, warm_eq]
  generalize warmBlocks s = u
  cases m <;> rfl

/-- Settles O54: a warm reset is judged block by block, on the state in which PART-RESET is held as on any other, and every
link hears RESTARTED once its notices are cleared. -/
theorem resetsRestartThePart : Obligations.ResetsRestartThePart := by
  unfold Obligations.ResetsRestartThePart
  refine fun s => ⟨⟨_, rfl, warm_blocks _ s, warm_link 0 3 s⟩, fun l tag h => ⟨_, rfl, ?_⟩,
    ⟨_, rfl, rfl, fun m => by cases m <;> rfl⟩⟩
  rw [request_placed h rfl]
  refine ⟨(warm_blocks (noticeWarm l) (held l tag .partReset s)).of_links
    ((held_frame l tag .partReset s).mono ?_).symm ((State.setSlot_frame l _ _).mono ?_), fun m => ?_⟩
  · simpa using link_mem_allLinks l
  · simpa using link_mem_allLinks l
  · have hlink := warm_link (linkCode l).toNat 2 (held l tag .partReset s) m
    rw [held_now] at hlink
    by_cases hm : m = l
    · subst hm
      rw [held_link_self] at hlink
      rw [if_pos rfl, if_pos rfl, setSlot_link_self]
      exact congrArg (fun k : LinkRec => { k with
        slot := Slot.ready { code := 0x95, tag := tag, status := .done, body := [] } }) hlink
    · rw [held_link_of_ne hm] at hlink
      rw [if_neg hm, if_neg hm, setSlot_link_of_ne hm]
      exact hlink

end Sys2Proof.Machine
end

section
/-! The queue of the commands that wait: what each operation of the blocks reads and changes lies outside it.

Each lemma moves `State.withQueue` out of one operation. What an operation reads of the state is, by definition, the
same whatever waits: so a choice goes alike on both sides (`ite_withQueue`), and a `match` does once a reading rule has
rewritten its discriminant. -/

namespace Sys2Proof.Machine

/-- An answer with another queue in its state. -/
def Answer.withQueue (a : Answer) (q : List Instr) : Answer := { a with state := a.state.withQueue q }

section queue
variable (q : List Instr) (s : State)

/-! ### Reading rules -/

theorem State.withQueue_self : s.withQueue s.pending = s := rfl

@[simp] theorem State.now_withQueue : (s.withQueue q).now = s.now := rfl
@[simp] theorem State.stampOf_withQueue (x : Option Stamp) : (s.withQueue q).stampOf x = s.stampOf x := rfl
@[simp] theorem State.link_withQueue (l : Link) : (s.withQueue q).link l = s.link l := by cases l <;> rfl
@[simp] theorem State.stationOn_withQueue (p : Fin 24) : (s.withQueue q).stationOn p = s.stationOn p := rfl
@[simp] theorem State.stationState_withQueue (i : Fin 32) : (s.withQueue q).stationState i = s.stationState i := rfl
@[simp] theorem State.stationPort_withQueue (i : Fin 32) : (s.withQueue q).stationPort i = s.stationPort i := rfl
@[simp] theorem State.stateByLink_withQueue (p : Fin 24) : (s.withQueue q).stateByLink p = s.stateByLink p := rfl
@[simp] theorem State.pendingList_withQueue (i : Fin 128) : (s.withQueue q).pendingList i = s.pendingList i := rfl
@[simp] theorem State.intakeReason_withQueue (i : Fin 128) : (s.withQueue q).intakeReason i = s.intakeReason i := rfl
@[simp] theorem State.choose_withQueue (p : Fin 24) : (s.withQueue q).choose p = s.choose p := rfl
@[simp] theorem State.portHolding_withQueue (h : BitVec 16) : (s.withQueue q).portHolding h = s.portHolding h := rfl
@[simp] theorem State.named_withQueue (k : Byte) (n : BitVec 16) : (s.withQueue q).named k n = s.named k n := rfl
@[simp] theorem State.freeGrantSlot_withQueue : (s.withQueue q).freeGrantSlot = s.freeGrantSlot := rfl
@[simp] theorem State.recordOf_withQueue (n : BitVec 16) : (s.withQueue q).recordOf n = s.recordOf n := rfl
@[simp] theorem State.judge_withQueue (r : TrackRecord) : (s.withQueue q).judge r = s.judge r := rfl
@[simp] theorem State.pointOf_withQueue (i : Fin 32) : (s.withQueue q).pointOf i = s.pointOf i := rfl
@[simp] theorem State.classify_withQueue (k : Fin 4) (t : Int) : (s.withQueue q).classify k t = s.classify k t := rfl
@[simp] theorem State.sender_withQueue (p : Fin 24) (i : Byte) : (s.withQueue q).sender p i = s.sender p i := rfl

/-! ### Choices and repetition -/

variable {q s}

theorem ite_withQueue {c : Prop} [Decidable c] {a b a' b' : State} (ha : a' = a.withQueue q) (hb : b' = b.withQueue q) :
    (if c then a' else b') = (if c then a else b).withQueue q := by
  split
  · exact ha
  · exact hb

/-- A choice between two states that hold one queue holds it. -/
@[simp] theorem withQueue_ite_withQueue (c : Prop) [Decidable c] (a b : State) :
    (if c then a.withQueue q else b.withQueue q) = (if c then a else b).withQueue q := ite_withQueue rfl rfl

theorem answer_ite_withQueue {c : Prop} [Decidable c] {a b a' b' : Answer} (ha : a' = a.withQueue q)
    (hb : b' = b.withQueue q) : (if c then a' else b') = (if c then a else b).withQueue q := by
  split
  · exact ha
  · exact hb

/-- A check of an owner: it refuses, or goes on. -/
theorem check_withQueue {c : Prop} [Decidable c] {why : Status} {a a' : Answer} (h : a' = a.withQueue q) :
    (if c then refuse why (s.withQueue q) else a') = (if c then refuse why s else a).withQueue q :=
  answer_ite_withQueue rfl h

theorem done_withQueue {t t' : State} (body : List Byte) (h : t' = t.withQueue q) :
    done body t' = (done body t).withQueue q := h ▸ rfl

theorem forEach_withQueue {α : Type} {f : α → State → State}
    (hf : ∀ x s, f x (s.withQueue q) = (f x s).withQueue q) (xs : List α) (s : State) :
    forEach xs f (s.withQueue q) = (forEach xs f s).withQueue q := by
  induction xs generalizing s with
  | nil => rfl
  | cons x xs ih =>
    calc forEach xs f (f x (s.withQueue q)) = forEach xs f ((f x s).withQueue q) := by rw [hf]
      _ = (forEach xs f (f x s)).withQueue q := ih (f x s)

variable (q s)

/-! ### Changes of one record -/

@[simp] theorem State.onTime_withQueue (f : TimeUnit → TimeUnit) :
    (s.withQueue q).onTime f = (s.onTime f).withQueue q := rfl
@[simp] theorem State.onStation_withQueue (i : Fin 32) (f : Station → Station) :
    (s.withQueue q).onStation i f = (s.onStation i f).withQueue q := rfl
@[simp] theorem State.onStream_withQueue (i : Fin 128) (f : Stream → Stream) :
    (s.withQueue q).onStream i f = (s.onStream i f).withQueue q := rfl
@[simp] theorem State.onStore_withQueue (f : List Descriptor → List Descriptor) :
    (s.withQueue q).onStore f = (s.onStore f).withQueue q := rfl
@[simp] theorem State.onPort_withQueue (i : Fin 24) (f : Port → Port) :
    (s.withQueue q).onPort i f = (s.onPort i f).withQueue q := rfl
@[simp] theorem State.onTrack_withQueue (f : Track → Track) :
    (s.withQueue q).onTrack f = (s.onTrack f).withQueue q := rfl
@[simp] theorem State.onSlot_withQueue (i : Fin 4) (f : GrantSlot → GrantSlot) :
    (s.withQueue q).onSlot i f = (s.onSlot i f).withQueue q := rfl
@[simp] theorem State.onFabric_withQueue (f : Fabric → Fabric) :
    (s.withQueue q).onFabric f = (s.onFabric f).withQueue q := rfl
@[simp] theorem State.onLink_withQueue (l : Link) (f : LinkRec → LinkRec) :
    (s.withQueue q).onLink l f = (s.onLink l f).withQueue q := by cases l <;> rfl
@[simp] theorem State.setSlot_withQueue (l : Link) (x : Slot) :
    (s.withQueue q).setSlot l x = (s.setSlot l x).withQueue q := State.onLink_withQueue q s l _
@[simp] theorem beginWrite_withQueue (l : Link) (n : Nat) :
    beginWrite l n (s.withQueue q) = (beginWrite l n s).withQueue q := State.onLink_withQueue q s l _

/-! ### Notices and messages -/

@[simp] theorem postAll_withQueue (n : Notice) : postAll n (s.withQueue q) = (postAll n s).withQueue q := rfl
@[simp] theorem postAt_withQueue (n : Notice) (p : Option (Fin 24)) :
    postAt n p (s.withQueue q) = (postAt n p s).withQueue q := rfl
@[simp] theorem postStation_withQueue (n : Notice) (i : Fin 32) :
    postStation n i (s.withQueue q) = (postStation n i s).withQueue q := rfl
@[simp] theorem handOver_withQueue (m : OutMsg) : handOver m (s.withQueue q) = (handOver m s).withQueue q := rfl

/-! ### Outputs -/

theorem askTrigger_withQueue (o : Option (Fin 8)) :
    askTrigger o (s.withQueue q) = (askTrigger o s).withQueue q := by cases o <;> rfl

theorem askGate_withQueue : askGate (s.withQueue q) = (askGate s).withQueue q := by
  unfold askGate
  rw [State.withQueue_gate]
  cases s.gate.output <;> rfl

@[simp] theorem leaveNeeds_withQueue (i : Fin 32) : leaveNeeds i (s.withQueue q) = (leaveNeeds i s).withQueue q := rfl

theorem takeNeed_withQueue (i : Fin 32) (o w : Byte) :
    takeNeed i o w (s.withQueue q) = (takeNeed i o w s).withQueue q := by
  unfold takeNeed
  split
  · exact ite_withQueue rfl rfl
  · rfl

/-! ### Streams and the store -/

@[simp] theorem drainCheck_withQueue (i : Fin 128) :
    drainCheck i (s.withQueue q) = (drainCheck i s).withQueue q := ite_withQueue rfl rfl

theorem freeSlot_withQueue (h : BitVec 16) : freeSlot h (s.withQueue q) = (freeSlot h s).withQueue q := rfl
theorem countStoreWide_withQueue (why : DiscardReason) :
    countStoreWide why (s.withQueue q) = (countStoreWide why s).withQueue q := rfl
theorem countStream_withQueue (why : DiscardReason) (i : Fin 128) :
    countStream why i (s.withQueue q) = (countStream why i s).withQueue q := rfl

theorem discardPending_withQueue (why : DiscardReason) (d : Descriptor) :
    discardPending why d (s.withQueue q) = (discardPending why d s).withQueue q := rfl

theorem discardList_withQueue (why : DiscardReason) (ds : List Descriptor) :
    discardList why ds (s.withQueue q) = (discardList why ds s).withQueue q :=
  forEach_withQueue (fun d s => discardPending_withQueue q s why d) ds s

theorem discardAll_withQueue (why : DiscardReason) (i : Fin 128) :
    discardAll why i (s.withQueue q) = (discardAll why i s).withQueue q :=
  discardList_withQueue q s why (s.pendingList i)

theorem discardIntake_withQueue (why : DiscardReason) (h : BitVec 16) (k : Byte) :
    discardIntake why h k (s.withQueue q) = (discardIntake why h k s).withQueue q := by
  unfold discardIntake
  dsimp only
  split
  · exact ite_withQueue rfl rfl
  · rfl

theorem settleClose_withQueue (i : Fin 128) :
    settleClose i (s.withQueue q) = (settleClose i s).withQueue q := ite_withQueue rfl rfl

theorem closeFlush_withQueue (why : CloseReason) (i : Fin 128) :
    closeFlush why i (s.withQueue q) = (closeFlush why i s).withQueue q := by
  simp only [closeFlush, State.onStream_withQueue, discardAll_withQueue, settleClose_withQueue]

theorem closeDrain_withQueue (why : CloseReason) (i : Fin 128) :
    closeDrain why i (s.withQueue q) = (closeDrain why i s).withQueue q :=
  ite_withQueue (settleClose_withQueue q (s.onStream i (recordReason why)) i) rfl

theorem closeEnded_withQueue (a : GrantAsk) :
    closeEnded a (s.withQueue q) = (closeEnded a s).withQueue q := by
  refine forEach_withQueue (fun i s => ?_) _ s
  exact ite_withQueue (closeFlush_withQueue q s .grantEnded i) rfl

theorem discardStreams_withQueue (why : DiscardReason) (sel : Stream → Bool) :
    discardStreams why sel (s.withQueue q) = (discardStreams why sel s).withQueue q := by
  refine forEach_withQueue (fun i s => ?_) _ s
  rw [discardAll_withQueue, drainCheck_withQueue]
  exact ite_withQueue rfl rfl

@[simp] theorem portWentDown_withQueue (p : Fin 24) :
    portWentDown p (s.withQueue q) = (portWentDown p s).withQueue q := discardStreams_withQueue q s _ _

theorem serviceEntered_withQueue (ports : Fin 24 → Bool) :
    serviceEntered ports (s.withQueue q) = (serviceEntered ports s).withQueue q := discardStreams_withQueue q s _ _

@[simp] theorem clearStationField_withQueue (i : Fin 32) (k : Option (Fin 24)) :
    clearStationField i k (s.withQueue q) = (clearStationField i k s).withQueue q := rfl

theorem congest_withQueue (b : Bool) (i : Fin 128) :
    congest b i (s.withQueue q) = (congest b i s).withQueue q := by
  have tell : ∀ u : State, (if (s.streams.get i).level = 0 then
        postAt (noticeCongested i b) ((u.withQueue q).streamPort i) (u.withQueue q) else u.withQueue q) =
      (if (s.streams.get i).level = 0 then postAt (noticeCongested i b) (u.streamPort i) u else u).withQueue q :=
    fun u => ite_withQueue rfl rfl
  simp only [congest, State.withQueue_streams]
  split
  · rw [State.onStream_withQueue]
    exact tell _
  · rw [discardAll_withQueue, State.onStream_withQueue]
    exact (congrArg (drainCheck i) (tell _)).trans (drainCheck_withQueue q _ i)

theorem congestStreams_withQueue (b : Bool) (sel : Stream → Bool) :
    congestStreams b sel (s.withQueue q) = (congestStreams b sel s).withQueue q := by
  refine forEach_withQueue (fun i s => ?_) _ s
  exact ite_withQueue (congest_withQueue q s b i) rfl

@[simp] theorem watermarkHigh_withQueue (p : Fin 24) :
    watermarkHigh p (s.withQueue q) = (watermarkHigh p s).withQueue q := congestStreams_withQueue q s _ _

theorem takeBackoff_withQueue (p : Fin 24) (c k : Byte) :
    takeBackoff p c k (s.withQueue q) = (takeBackoff p c k s).withQueue q := by
  refine ite_withQueue ?_ rfl
  exact congestStreams_withQueue q { s with backoff := { s.backoff with matched := satInc s.backoff.matched } } _ _

theorem accept_withQueue (i : Fin 128) (h n : BitVec 16) :
    accept i h n (s.withQueue q) = (accept i h n s).withQueue q := by
  rw [accept_eq, accept_eq]
  exact congrArg (State.onStore _) (discardList_withQueue q s .overtaken (s.overtaken i))

theorem takeEnqueue_withQueue (k : Byte) (h n : BitVec 16) :
    takeEnqueue k h n (s.withQueue q) = (takeEnqueue k h n s).withQueue q := by
  have refused : ∀ why, discardIntake why h k (s.withQueue q) = (discardIntake why h k s).withQueue q :=
    fun why => discardIntake_withQueue q s why h k
  refine ite_withQueue (refused _) (ite_withQueue (refused _) ?_)
  cases number 128 k with
  | none => exact refused _
  | some i =>
    refine ite_withQueue (refused _) ?_
    rw [State.intakeReason_withQueue]
    cases s.intakeReason i with
    | some why => exact refused why
    | none => exact accept_withQueue q s i h n

end queue

end Sys2Proof.Machine
end

section
/-! The queue of the commands that wait: the stations, the ports and the grants neither read nor change it. -/

namespace Sys2Proof.Machine

section queue
variable (q : List Instr) (s : State)

/-! ### Stations (R29 to R39) -/

@[simp] theorem emitOrder_withQueue (i : Fin 32) (st : StationState) :
    emitOrder i st (s.withQueue q) = (emitOrder i st s).withQueue q := by
  unfold emitOrder
  rw [State.stationPort_withQueue]
  split
  · exact ite_withQueue rfl rfl
  · rfl

theorem tellOfState_withQueue (i : Fin 32) (st : StationState) :
    tellOfState i st (s.withQueue q) = (tellOfState i st s).withQueue q := by
  unfold tellOfState
  rw [State.stationPort_withQueue]
  split
  · exact serviceEntered_withQueue q s _
  · rfl
  · rfl

theorem turnStation_withQueue (i : Fin 32) (st : StationState) (b : Bool) :
    turnStation i st b (s.withQueue q) = (turnStation i st b s).withQueue q :=
  emitOrder_withQueue q (post (noticeStation i st) b (setStation i st s)) i st

theorem moveStation_withQueue (i : Fin 32) (st : StationState) :
    moveStation i st (s.withQueue q) = (moveStation i st s).withQueue q := by
  unfold moveStation changeStation
  rw [turnStation_withQueue, tellOfState_withQueue]
  rfl

@[simp] theorem portLinkChanged_withQueue (p : Fin 24) (up : Bool) :
    portLinkChanged p up (s.withQueue q) = (portLinkChanged p up s).withQueue q := by
  unfold portLinkChanged
  rw [State.stationOn_withQueue]
  split
  · rfl
  · rw [State.stationState_withQueue]
    split
    · rfl
    · exact moveStation_withQueue q s _ _
    · exact moveStation_withQueue q s _ _
    · rfl

@[simp] theorem moveWindow_withQueue (a : GrantAsk) (x y : StationState) :
    moveWindow a x y (s.withQueue q) = (moveWindow a x y s).withQueue q :=
  forEach_withQueue (fun i s => turnStation_withQueue q s i y true) ((numbers 32).filter (s.standsAt a x)) s

theorem enterWindow_withQueue (a : GrantAsk) :
    enterWindow a (s.withQueue q) = (enterWindow a s).withQueue q := by
  unfold enterWindow
  rw [moveWindow_withQueue, serviceEntered_withQueue]
  rfl

theorem allAbsent_withQueue : allAbsent (s.withQueue q) = (allAbsent s).withQueue q := by
  refine forEach_withQueue (fun i s => ?_) _ s
  rw [State.stationState_withQueue]
  split
  · rfl
  · rfl
  · exact moveStation_withQueue q s i .absent

theorem warmStations_withQueue : warmStations (s.withQueue q) = (warmStations s).withQueue q := by
  refine forEach_withQueue (fun i s => ?_) _ s
  exact ite_withQueue (emitOrder_withQueue q (setStation i .held s) i .held) rfl

/-! ### STATION-SET and STATION-REMOVE (R31 to R33) -/

@[simp] theorem postConfigured_withQueue (i : Fin 32) :
    postConfigured i (s.withQueue q) = (postConfigured i s).withQueue q := rfl

theorem configureNew_withQueue (i : Fin 32) (r : Role) (p : Fin 24) (n : Nat) :
    configureNew i r p n (s.withQueue q) = (configureNew i r p n s).withQueue q := by
  simp [configureNew]

theorem configureMoved_withQueue (i : Fin 32) (c : StationConf) (r : Role) (p : Fin 24) (n : Nat) :
    configureMoved i c r p n (s.withQueue q) = (configureMoved i c r p n s).withQueue q := by
  simp [configureMoved]

theorem configure_withQueue (i : Fin 32) (r : Role) (p : Fin 24) (n : Nat) :
    configure i r p n (s.withQueue q) = (configure i r p n s).withQueue q := by
  unfold configure
  rw [State.withQueue_stations]
  split
  · exact configureNew_withQueue q s i r p n
  · exact ite_withQueue rfl (configureMoved_withQueue q s i _ r p n)

/-! ### Pacing and ports (R65 to R92) -/

@[simp] theorem linkChange_withQueue (p : Fin 24) (up : Bool) :
    linkChange p up (s.withQueue q) = (linkChange p up s).withQueue q := by
  simp [linkChange]

theorem takePortState_withQueue (p : Fin 24) (up paused high : Bool) :
    takePortState p up paused high (s.withQueue q) = (takePortState p up paused high s).withQueue q := by
  simp [takePortState]

theorem releaseOne_withQueue (p : Fin 24) (t : Tier) (n : Nat) (i : Fin 128) (d : Descriptor) :
    releaseOne p t n i d (s.withQueue q) = (releaseOne p t n i d s).withQueue q := by
  simp [releaseOne]

theorem handleSettled_withQueue (h : BitVec 16) :
    handleSettled h (s.withQueue q) = (handleSettled h s).withQueue q := by
  unfold handleSettled
  rw [State.withQueue_store]
  split
  · rw [freeSlot_withQueue, drainCheck_withQueue]
  · rfl

theorem takeSent_withQueue (h : BitVec 16) (wire : Int) :
    takeSent h wire (s.withQueue q) = (takeSent h wire s).withQueue q := by
  unfold takeSent
  rw [State.portHolding_withQueue]
  split
  · rw [State.onPort_withQueue, handleSettled_withQueue]
  · rfl

theorem chargeLost_withQueue (i : Fin 128) : chargeLost i (s.withQueue q) = (chargeLost i s).withQueue q := by
  unfold chargeLost
  rw [countStoreWide_withQueue]
  dsimp only
  rw [ite_withQueue (countStream_withQueue q _ _ i) rfl]
  rfl

theorem writeOff_withQueue (p : Fin 24) (e : Outstanding) :
    writeOff p e (s.withQueue q) = (writeOff p e s).withQueue q := by
  unfold writeOff
  rw [State.onPort_withQueue, handleSettled_withQueue, chargeLost_withQueue]

theorem markPorts_withQueue : markPorts (s.withQueue q) = (markPorts s).withQueue q := by
  refine forEach_withQueue (fun p s => ?_) _ s
  exact ite_withQueue rfl rfl

/-! ### Grants (R150 to R159) -/

theorem withdraw_withQueue (a : GrantAsk) : withdraw a (s.withQueue q) = (withdraw a s).withQueue q := by
  simp [withdraw, closeEnded_withQueue]

theorem endGrant_withQueue (k : Fin 4) (why : EndReason) :
    endGrant k why (s.withQueue q) = (endGrant k why s).withQueue q := by
  unfold endGrant
  rw [State.withQueue_grants, State.onSlot_withQueue]
  dsimp only
  split
  · rw [withdraw_withQueue, postAll_withQueue]
  · rfl

theorem takeAsk_withQueue (k : Fin 4) (a : GrantAsk) :
    takeAsk k a (s.withQueue q) = (takeAsk k a s).withQueue q := ite_withQueue rfl rfl

theorem concur_withQueue (k : Fin 4) (a : GrantAsk) :
    concur k a (s.withQueue q) = (concur k a s).withQueue q := by
  simp [concur, enterWindow_withQueue]

end queue

end Sys2Proof.Machine
end

section
/-! The queue of the commands that wait: the track, the Time Unit, the fabric and the resets neither read nor
change it. -/

namespace Sys2Proof.Machine

section queue
variable (q : List Instr) (s : State)

/-! ### Fills (R98 to R102) -/

theorem forceWindow_withQueue (e : Int) :
    forceWindow e (s.withQueue q) = (forceWindow e s).withQueue q := by
  unfold forceWindow
  rw [State.withQueue_track]
  cases s.track.windowEnd <;> rfl

theorem makeRecord_withQueue (i : Fin 32) (n : Nat) (r : FillResult) (t a : Int) :
    makeRecord i n r t a (s.withQueue q) = (makeRecord i n r t a s).withQueue q := ite_withQueue rfl rfl

theorem escapedFill_withQueue (i : Fin 32) (r : FillResult) :
    escapedFill i r (s.withQueue q) = (escapedFill i r s).withQueue q := ite_withQueue rfl rfl

theorem fullFill_withQueue (i : Fin 32) (r : FillResult) (t : Int) :
    fullFill i r t (s.withQueue q) = (fullFill i r t s).withQueue q := by
  refine ite_withQueue rfl ?_
  rw [State.withQueue_gate, forceWindow_withQueue, State.onTrack_withQueue, postStation_withQueue]

theorem placeFill_withQueue (i : Fin 32) (n : Nat) (r : FillResult) (t a : Int) :
    placeFill i n r t a (s.withQueue q) = (placeFill i n r t a s).withQueue q :=
  ite_withQueue (escapedFill_withQueue q s i r)
    (ite_withQueue (fullFill_withQueue q s i r t) (makeRecord_withQueue q s i n r t a))

theorem clampFill_withQueue (t a : Int) :
    clampFill t a (s.withQueue q) = ((clampFill t a s).1, (clampFill t a s).2.withQueue q) := by
  unfold clampFill
  split <;> rfl

theorem takeFill_withQueue (i : Fin 32) (h r : Byte) (x : BitVec 48) (n : BitVec 32) (a : Int) :
    takeFill i h r x n a (s.withQueue q) = (takeFill i h r x n a s).withQueue q := by
  simp only [takeFill, State.withQueue_stations, clampFill_withQueue]
  split
  · rfl
  · refine ite_withQueue rfl (ite_withQueue rfl ?_)
    split
    · exact ite_withQueue rfl (placeFill_withQueue q _ i _ _ _ a)
    · rfl

/-! ### Verdicts and departures (R107, R117 to R122) -/

theorem depart_withQueue (r : TrackRecord) (rest : List TrackRecord) :
    depart r rest (s.withQueue q) = (depart r rest s).withQueue q := by
  simp [depart, askGate_withQueue]

theorem matchVerdict_withQueue (i : Fin 32) (k : Fin 4) (t : Int) (pass : Bool) (d : Byte) :
    matchVerdict i k t pass d (s.withQueue q) = (matchVerdict i k t pass d s).withQueue q := by
  unfold matchVerdict
  rw [State.classify_withQueue]
  split
  · rfl
  · rfl
  · split <;> rfl
  · rfl
  · rfl

theorem takeVerdict_withQueue (i : Fin 32) (v d : Byte) (x : BitVec 48) (n : BitVec 32) :
    takeVerdict i v d x n (s.withQueue q) = (takeVerdict i v d x n s).withQueue q := by
  unfold takeVerdict
  rw [State.pointOf_withQueue]
  split
  · rfl
  · split
    · exact ite_withQueue rfl (matchVerdict_withQueue q s i _ _ _ d)
    · rfl

/-! ### Clock states, selection and faults (R4 to R10) -/

theorem reselect_withQueue : reselect (s.withQueue q) = (reselect s).withQueue q :=
  ite_withQueue rfl (ite_withQueue rfl (ite_withQueue rfl rfl))

/-! ### Samples and arrivals (R3, R5, R11 to R18) -/

@[simp] theorem recordOffset_withQueue (o : Int) (src : TimedSource) (mt : Int) :
    recordOffset o src mt (s.withQueue q) = (recordOffset o src mt s).withQueue q := rfl

@[simp] theorem stepTime_withQueue (src : TimedSource) (o : Int) :
    stepTime src o (s.withQueue q) = (stepTime src o s).withQueue q := rfl

theorem lockStage_withQueue (o : Int) : lockStage o (s.withQueue q) = (lockStage o s).withQueue q :=
  ite_withQueue (ite_withQueue (ite_withQueue rfl rfl) rfl) rfl

theorem sample_withQueue (src : TimedSource) (o : Int) (ms : Nat) (mt : Int) :
    sample src o ms mt (s.withQueue q) = (sample src o ms mt s).withQueue q := by
  simp [sample, lockStage_withQueue]

theorem arrival_withQueue (src : TimedSource) (onTime : Bool) (d : Nat) (x : Stamp) :
    arrival src onTime d x (s.withQueue q) = (arrival src onTime d x s).withQueue q := by
  unfold arrival
  dsimp only
  rw [State.onTime_withQueue, postAll_withQueue, ite_withQueue rfl rfl, reselect_withQueue]
  rfl

theorem takeSync_withQueue (k : Byte) (x : BitVec 48) (n : BitVec 32) (began : Stamp) :
    takeSync k x n began (s.withQueue q) = (takeSync k x n began s).withQueue q := by
  simp only [takeSync, State.withQueue_time, State.onTime_withQueue, arrival_withQueue]
  exact ite_withQueue rfl (ite_withQueue rfl (ite_withQueue (sample_withQueue q _ _ _ _ _) rfl))

theorem samplePulse_withQueue (mt : Int) : samplePulse mt (s.withQueue q) = (samplePulse mt s).withQueue q := by
  simp [samplePulse, sample_withQueue]

/-! ### TIME-CONFIG (R21) -/

theorem newPort_withQueue : newPort (s.withQueue q) = (newPort s).withQueue q := ite_withQueue rfl rfl

theorem newInterval_withQueue : newInterval (s.withQueue q) = (newInterval s).withQueue q := by
  unfold newInterval
  rw [State.withQueue_time]
  split
  · exact ite_withQueue rfl rfl
  · rfl

theorem newEdge_withQueue : newEdge (s.withQueue q) = (newEdge s).withQueue q := rfl

theorem newHoldover_withQueue : newHoldover (s.withQueue q) = (newHoldover s).withQueue q := by
  unfold newHoldover
  rw [State.withQueue_time]
  split
  · exact ite_withQueue rfl rfl
  · rfl

variable {q} in
theorem doWhen_withQueue {f : State → State} (hf : ∀ u, f (u.withQueue q) = (f u).withQueue q) (c : Prop)
    [Decidable c] : doWhen c f (s.withQueue q) = (doWhen c f s).withQueue q := ite_withQueue (hf s) rfl

theorem configureTime_withQueue (c : TimeConfig) :
    configureTime c (s.withQueue q) = (configureTime c s).withQueue q := by
  unfold configureTime
  rw [State.onTime_withQueue]
  dsimp only
  rw [doWhen_withQueue _ (newPort_withQueue q), doWhen_withQueue _ (newInterval_withQueue q),
    doWhen_withQueue _ (newEdge_withQueue q), doWhen_withQueue _ (newHoldover_withQueue q), reselect_withQueue]
  rfl

/-! ### Inbound messages (R169 to R173) -/

variable {s} in
theorem fromStation_withQueue {own : Fin 32 → State → State} (p : Fin 24) (k : Byte)
    (ho : ∀ i, own i (s.withQueue q) = (own i s).withQueue q) :
    fromStation p k own (s.withQueue q) = (fromStation p k own s).withQueue q := by
  unfold fromStation
  rw [State.sender_withQueue]
  split
  · exact ho _
  · rfl

theorem takeCell_withQueue (p : Fin 24) (k : Byte) (c : Cell) (began : Stamp) :
    takeCell p k c began (s.withQueue q) = (takeCell p k c began s).withQueue q := by
  cases c with
  | badKind => rfl
  | badLength => rfl
  | sync n x y => exact ite_withQueue (takeSync_withQueue q s n x y began) rfl
  | fillDone => exact fromStation_withQueue q p k fun i => takeFill_withQueue q s i _ _ _ _ _
  | verdict => exact fromStation_withQueue q p k fun i => takeVerdict_withQueue q s i _ _ _ _
  | backoff => exact fromStation_withQueue q p k fun _ => takeBackoff_withQueue q s p _ _
  | need => exact fromStation_withQueue q p k fun i => takeNeed_withQueue q s i _ _

theorem handOn_withQueue (m : Inbound) : handOn m (s.withQueue q) = (handOn m s).withQueue q := by
  cases m with
  | enqueue => exact takeEnqueue_withQueue q s _ _ _
  | sent => exact takeSent_withQueue q s _ _
  | portState => exact takePortState_withQueue q s _ _ _ _
  | cellIn => exact takeCell_withQueue q s _ _ _ _

theorem takeInbound_withQueue (kind : Byte) (m : Except Malformed Inbound) :
    takeInbound kind m (s.withQueue q) = (takeInbound kind m s).withQueue q := by
  refine ite_withQueue rfl ?_
  cases m with
  | ok m => exact handOn_withQueue q s m
  | error why => rfl

/-! ### The link (R164, R165) -/

theorem linkUp_withQueue : linkUp (s.withQueue q) = (linkUp s).withQueue q := rfl

theorem voidStore_withQueue : voidStore (s.withQueue q) = (voidStore s).withQueue q := rfl

theorem drainAll_withQueue : drainAll (s.withQueue q) = (drainAll s).withQueue q := by
  unfold drainAll
  rw [forEach_withQueue fun i s => drainCheck_withQueue q s i]

theorem linkLost_withQueue : linkLost (s.withQueue q) = (linkLost s).withQueue q := by
  simp only [linkLost, State.onFabric_withQueue, State.now_withQueue, voidStore_withQueue, drainAll_withQueue,
    markPorts_withQueue, allAbsent_withQueue, State.withQueue_fabric, postAll_withQueue]

/-! ### The warm reset (R191, R192) -/

theorem warmFabric_withQueue : warmFabric (s.withQueue q) = (warmFabric s).withQueue q := rfl
theorem warmStreams_withQueue : warmStreams (s.withQueue q) = (warmStreams s).withQueue q := rfl
theorem warmPorts_withQueue : warmPorts (s.withQueue q) = (warmPorts s).withQueue q := rfl
theorem warmTrack_withQueue : warmTrack (s.withQueue q) = (warmTrack s).withQueue q := rfl
theorem warmGrants_withQueue : warmGrants (s.withQueue q) = (warmGrants s).withQueue q := rfl
theorem idleSlots_withQueue : idleSlots (s.withQueue q) = (idleSlots s).withQueue q := rfl
theorem clearLinks_withQueue : clearLinks (s.withQueue q) = (clearLinks s).withQueue q := rfl

theorem warm_withQueue (n : Notice) : warm n (s.withQueue q) = (warm n s).withQueue q := by
  unfold warm
  rw [warmFabric_withQueue, warmStations_withQueue, warmStreams_withQueue, warmPorts_withQueue, warmTrack_withQueue,
    warmGrants_withQueue, idleSlots_withQueue, clearLinks_withQueue, postAll_withQueue]

end queue

end Sys2Proof.Machine
end

section
/-! The queue of the commands that wait: no owner of a request reads or changes it. -/

namespace Sys2Proof.Machine

section queue
variable (q : List Instr) (s : State)

/-! ### The Time Unit -/

theorem ownTimeConfig_withQueue (a b c : Byte) (t : BitVec 16) (pd ud : BitVec 32) (kp ki : Byte) (st : BitVec 16)
    (lk : BitVec 32) (n : Byte) (h : BitVec 32) (g e : Byte) :
    ownTimeConfig a b c t pd ud kp ki st lk n h g e (s.withQueue q) =
      (ownTimeConfig a b c t pd ud kp ki st lk n h g e s).withQueue q := by
  unfold ownTimeConfig
  split
  · exact done_withQueue [] (configureTime_withQueue q s _)
  · rfl

theorem ownTimePulseSet_withQueue (op : Byte) (x : BitVec 48) :
    ownTimePulseSet op x (s.withQueue q) = (ownTimePulseSet op x s).withQueue q :=
  answer_ite_withQueue rfl (answer_ite_withQueue rfl rfl)

theorem ownTimeStepLock_withQueue (v : Byte) :
    ownTimeStepLock v (s.withQueue q) = (ownTimeStepLock v s).withQueue q := by
  unfold ownTimeStepLock
  split <;> rfl

theorem ownTimeFaultClear_withQueue (v : Byte) :
    ownTimeFaultClear v (s.withQueue q) = (ownTimeFaultClear v s).withQueue q := answer_ite_withQueue rfl rfl

theorem ownTimeReport_withQueue (v : Byte) :
    ownTimeReport v (s.withQueue q) = (ownTimeReport v s).withQueue q :=
  answer_ite_withQueue rfl (answer_ite_withQueue rfl rfl)

/-! ### Stations -/

theorem ownStationSet_withQueue (a b c d : Byte) :
    ownStationSet a b c d (s.withQueue q) = (ownStationSet a b c d s).withQueue q := by
  unfold ownStationSet
  split
  · refine check_withQueue (check_withQueue (check_withQueue (check_withQueue (check_withQueue ?_))))
    exact done_withQueue [] (configure_withQueue q s _ _ _ _)
  · rfl

theorem ownStationRemove_withQueue (a : Byte) :
    ownStationRemove a (s.withQueue q) = (ownStationRemove a s).withQueue q := by
  unfold ownStationRemove
  split
  · rfl
  · rw [State.stationState_withQueue]
    split
    · exact check_withQueue rfl
    · exact check_withQueue rfl
    · rfl

theorem ownStationRun_withQueue (a : Byte) :
    ownStationRun a (s.withQueue q) = (ownStationRun a s).withQueue q := by
  unfold ownStationRun
  split
  · rfl
  · exact answer_ite_withQueue (done_withQueue [] (moveStation_withQueue q s _ .run)) rfl

theorem ownStationHold_withQueue (a : Byte) :
    ownStationHold a (s.withQueue q) = (ownStationHold a s).withQueue q := by
  unfold ownStationHold
  split
  · rfl
  · rw [State.stationState_withQueue]
    split
    · exact done_withQueue [] (moveStation_withQueue q s _ .held)
    · rfl
    · rfl
    · rfl

theorem ownStationReport_withQueue (l : Link) (a b : Byte) :
    ownStationReport l a b (s.withQueue q) = (ownStationReport l a b s).withQueue q :=
  check_withQueue (check_withQueue rfl)

/-! ### Streams -/

theorem ownStreamOpen_withQueue (l : Link) (a b c d e f g : Byte) (x : BitVec 32) (r w : Byte) :
    ownStreamOpen l a b c d e f g x r w (s.withQueue q) = (ownStreamOpen l a b c d e f g x r w s).withQueue q := by
  unfold ownStreamOpen
  split
  · exact check_withQueue (check_withQueue (check_withQueue rfl))
  · rfl

theorem ownStreamClose_withQueue (l : Link) (a b : Byte) :
    ownStreamClose l a b (s.withQueue q) = (ownStreamClose l a b s).withQueue q := by
  unfold ownStreamClose
  split
  next i f _ _ =>
    have hflush : ∀ why, closeFlush why i (s.withQueue q) = (closeFlush why i s).withQueue q :=
      fun why => closeFlush_withQueue q s why i
    refine check_withQueue (check_withQueue (check_withQueue (answer_ite_withQueue ?_ ?_)))
    · exact done_withQueue [] (hflush .forced)
    · exact done_withQueue [] (ite_withQueue (hflush .closed) (closeDrain_withQueue q s .closed i))
  · rfl

theorem ownStreamAdjust_withQueue (l : Link) (a b c d e : Byte) (x : BitVec 32) :
    ownStreamAdjust l a b c d e x (s.withQueue q) = (ownStreamAdjust l a b c d e x s).withQueue q := by
  unfold ownStreamAdjust
  split
  · refine check_withQueue (check_withQueue (check_withQueue (check_withQueue ?_)))
    exact done_withQueue [] (discardList_withQueue q (s.onStream _ _) .cap _)
  · rfl

theorem ownStreamReport_withQueue (l : Link) (a b : Byte) :
    ownStreamReport l a b (s.withQueue q) = (ownStreamReport l a b s).withQueue q := by
  refine answer_ite_withQueue ?_ (answer_ite_withQueue ?_ (answer_ite_withQueue ?_ rfl))
  · unfold reportStream
    split
    · exact check_withQueue rfl
    · rfl
  · unfold reportStation
    split
    · exact check_withQueue rfl
    · rfl
  · exact check_withQueue rfl

/-! ### Queues and ports -/

theorem ownQueueSet_withQueue (a b : Byte) (x : BitVec 32) (c : Byte) :
    ownQueueSet a b x c (s.withQueue q) = (ownQueueSet a b x c s).withQueue q := by
  unfold ownQueueSet
  split <;> rfl

theorem ownQueueReport_withQueue (a : Byte) :
    ownQueueReport a (s.withQueue q) = (ownQueueReport a s).withQueue q := by
  unfold ownQueueReport
  split <;> rfl

theorem ownBackoffMatch_withQueue (a b : Byte) :
    ownBackoffMatch a b (s.withQueue q) = (ownBackoffMatch a b s).withQueue q := check_withQueue rfl

theorem ownPortSet_withQueue (a b : Byte) : ownPortSet a b (s.withQueue q) = (ownPortSet a b s).withQueue q := by
  unfold ownPortSet
  split <;> rfl

theorem ownPortReport_withQueue (a : Byte) : ownPortReport a (s.withQueue q) = (ownPortReport a s).withQueue q := by
  unfold ownPortReport
  split <;> rfl

/-! ### The track and outputs -/

theorem ownPointSet_withQueue (a b c d e : Byte) (t h v : BitVec 32) :
    ownPointSet a b c d e t h v (s.withQueue q) = (ownPointSet a b c d e t h v s).withQueue q := by
  unfold ownPointSet
  split
  · exact check_withQueue (check_withQueue (check_withQueue (check_withQueue (check_withQueue rfl))))
  · rfl

theorem ownGateSet_withQueue (a : Byte) (d h w : BitVec 32) :
    ownGateSet a d h w (s.withQueue q) = (ownGateSet a d h w s).withQueue q := by
  unfold ownGateSet
  split
  · rfl
  · exact check_withQueue (check_withQueue (check_withQueue rfl))

theorem ownTrackReport_withQueue (l : Link) (a : Byte) :
    ownTrackReport l a (s.withQueue q) = (ownTrackReport l a s).withQueue q := by
  unfold ownTrackReport
  split
  · rfl
  · exact answer_ite_withQueue rfl rfl
  · rfl

theorem ownOutputSet_withQueue (a b c : Byte) (w : BitVec 32) (p e r : Byte) :
    ownOutputSet a b c w p e r (s.withQueue q) = (ownOutputSet a b c w p e r s).withQueue q := by
  unfold ownOutputSet
  split
  · exact check_withQueue (check_withQueue rfl)
  · rfl

theorem ownOutputReport_withQueue (a : Byte) :
    ownOutputReport a (s.withQueue q) = (ownOutputReport a s).withQueue q := by
  unfold ownOutputReport
  split <;> rfl

/-! ### Grants -/

theorem ownGrantAsk_withQueue (a b c : Byte) (x : BitVec 16) :
    ownGrantAsk a b c x (s.withQueue q) = (ownGrantAsk a b c x s).withQueue q := by
  unfold ownGrantAsk
  split
  · rfl
  · refine check_withQueue ?_
    rw [State.freeGrantSlot_withQueue]
    split
    · rfl
    · exact done_withQueue _ (takeAsk_withQueue q s _ _)

theorem ownGrantConcur_withQueue (a : Byte) (n : BitVec 16) :
    ownGrantConcur a n (s.withQueue q) = (ownGrantConcur a n s).withQueue q := by
  unfold ownGrantConcur
  rw [State.named_withQueue]
  split
  · rfl
  · rw [State.withQueue_grants]
    dsimp only
    split
    · exact check_withQueue (done_withQueue _ (concur_withQueue q s _ _))
    · rfl

theorem ownGrantDecline_withQueue (a : Byte) (n : BitVec 16) :
    ownGrantDecline a n (s.withQueue q) = (ownGrantDecline a n s).withQueue q := by
  unfold ownGrantDecline
  rw [State.named_withQueue]
  split
  · rfl
  · exact answer_ite_withQueue (done_withQueue [] (endGrant_withQueue q s _ .declined)) rfl

theorem ownGrantExtend_withQueue (a : Byte) (n x : BitVec 16) :
    ownGrantExtend a n x (s.withQueue q) = (ownGrantExtend a n x s).withQueue q := by
  unfold ownGrantExtend
  rw [State.named_withQueue]
  split
  · rfl
  · rw [State.withQueue_grants]
    dsimp only
    split
    · rfl
    · split
      · exact done_withQueue _ (ite_withQueue rfl rfl)
      · rfl

theorem ownGrantRelease_withQueue (a : Byte) (n : BitVec 16) :
    ownGrantRelease a n (s.withQueue q) = (ownGrantRelease a n s).withQueue q := by
  unfold ownGrantRelease
  rw [State.named_withQueue]
  split
  · rfl
  · exact check_withQueue (done_withQueue [] (endGrant_withQueue q s _ .released))

theorem ownGrantRevoke_withQueue (a : Byte) (n : BitVec 16) :
    ownGrantRevoke a n (s.withQueue q) = (ownGrantRevoke a n s).withQueue q := by
  unfold ownGrantRevoke
  rw [State.named_withQueue]
  split
  · rfl
  · exact check_withQueue (done_withQueue [] (endGrant_withQueue q s _ .revoked))

theorem ownGrantPolicy_withQueue (x : BitVec 16) :
    ownGrantPolicy x (s.withQueue q) = (ownGrantPolicy x s).withQueue q := by
  unfold ownGrantPolicy
  split <;> rfl

/-! ### The links -/

theorem ownNoticeTake_withQueue (l : Link) :
    ownNoticeTake l (s.withQueue q) = (ownNoticeTake l s).withQueue q := by
  unfold ownNoticeTake
  rw [State.link_withQueue]
  dsimp only
  split
  · split
    · exact done_withQueue _ (State.onLink_withQueue q s l _)
    · rfl
  · rfl

theorem ownNoticeClear_withQueue (l : Link) :
    ownNoticeClear l (s.withQueue q) = (ownNoticeClear l s).withQueue q := by cases l <;> rfl

theorem ownNoticeMask_withQueue (l : Link) (m : BitVec 16) :
    ownNoticeMask l m (s.withQueue q) = (ownNoticeMask l m s).withQueue q := by cases l <;> rfl

theorem ownLinkReset_withQueue (l : Link) :
    ownLinkReset l (s.withQueue q) = (ownLinkReset l s).withQueue q :=
  done_withQueue [] (State.onLink_withQueue q s l _)

theorem ownPartReset_withQueue (l : Link) :
    ownPartReset l (s.withQueue q) = (ownPartReset l s).withQueue q := done_withQueue [] (warm_withQueue q s _)

/-! ### Every owner -/

theorem owner_withQueue (r : Request) (l : Link) : owner r l (s.withQueue q) = (owner r l s).withQueue q := by
  cases r with
  | timeConfig => exact ownTimeConfig_withQueue ..
  | timePulseSet => exact ownTimePulseSet_withQueue ..
  | timeStepLock => exact ownTimeStepLock_withQueue ..
  | timeFaultClear => exact ownTimeFaultClear_withQueue ..
  | timeReport => exact ownTimeReport_withQueue ..
  | stationSet => exact ownStationSet_withQueue ..
  | stationRemove => exact ownStationRemove_withQueue ..
  | stationRun => exact ownStationRun_withQueue ..
  | stationHold => exact ownStationHold_withQueue ..
  | stationReport => exact ownStationReport_withQueue ..
  | streamOpen => exact ownStreamOpen_withQueue ..
  | streamClose => exact ownStreamClose_withQueue ..
  | streamAdjust => exact ownStreamAdjust_withQueue ..
  | streamReport => exact ownStreamReport_withQueue ..
  | queueSet => exact ownQueueSet_withQueue ..
  | queueReport => exact ownQueueReport_withQueue ..
  | backoffMatch => exact ownBackoffMatch_withQueue ..
  | portSet => exact ownPortSet_withQueue ..
  | portReport => exact ownPortReport_withQueue ..
  | pointSet => exact ownPointSet_withQueue ..
  | gateSet => exact ownGateSet_withQueue ..
  | trackReport => exact ownTrackReport_withQueue ..
  | outputSet => exact ownOutputSet_withQueue ..
  | outputReport => exact ownOutputReport_withQueue ..
  | grantAsk => exact ownGrantAsk_withQueue ..
  | grantConcur => exact ownGrantConcur_withQueue ..
  | grantDecline => exact ownGrantDecline_withQueue ..
  | grantExtend => exact ownGrantExtend_withQueue ..
  | grantRelease => exact ownGrantRelease_withQueue ..
  | grantRevoke => exact ownGrantRevoke_withQueue ..
  | grantPolicy => exact ownGrantPolicy_withQueue ..
  | noticeTake => exact ownNoticeTake_withQueue ..
  | noticeClear => exact ownNoticeClear_withQueue ..
  | noticeMask => exact ownNoticeMask_withQueue ..
  | linkReset => exact ownLinkReset_withQueue ..
  | partReset => exact ownPartReset_withQueue ..
  | trackList | grantReport | fabricReport | partInfo => rfl

end queue

end Sys2Proof.Machine
end

section
/-! The queue of the commands that wait: a step takes its front, and no command reads or changes it. -/

namespace Sys2Proof.Machine

/-- An outcome with another queue in its state. -/
def outcomeWithQueue (q : List Instr) : Result → Result
  | .next s => .next (s.withQueue q)
  | .fault r => .fault r
  | .refused r => .refused r

section queue
variable (q : List Instr) (s : State)

/-! ### Outcomes -/

variable {q} in
theorem next_withQueue {t t' : State} (h : t' = t.withQueue q) :
    (Host.Outcome.next t' : Result) = outcomeWithQueue q (.next t) := h ▸ rfl

variable {q s} in
/-- A command that completes by a choice between an effect and none. -/
theorem next_ite_withQueue {c : Prop} [Decidable c] {t t' : State} (h : t' = t.withQueue q) :
    (Host.Outcome.next (if c then t' else s.withQueue q) : Result) = outcomeWithQueue q (.next (if c then t else s)) :=
  next_withQueue (ite_withQueue h rfl)

/-! ### Requests and transactions (R176 to R179) -/

theorem ownerTakes_withQueue (l : Link) (tag : Byte) (r : Request) :
    ownerTakes l tag r (owner r l) (s.withQueue q) = (ownerTakes l tag r (owner r l) s).withQueue q := by
  unfold ownerTakes
  rw [owner_withQueue]
  exact State.setSlot_withQueue q (owner r l s).state l _

theorem request_withQueue (l : Link) (tag : Byte) (r : Request) :
    request l tag r (owner r l) (s.withQueue q) = (request l tag r (owner r l) s).withQueue q := by
  simp only [request, beginWrite_withQueue, State.link_withQueue, State.setSlot_withQueue, ownerTakes_withQueue,
    withQueue_ite_withQueue]

theorem takeWrite_withQueue (l : Link) (bs : List Byte) :
    takeWrite l bs (s.withQueue q) = (takeWrite l bs s).withQueue q := by
  simp only [takeWrite, beginWrite_withQueue, State.link_withQueue, State.setSlot_withQueue, withQueue_ite_withQueue]

theorem takeHeld_withQueue (l : Link) : takeHeld l (s.withQueue q) = (takeHeld l s).withQueue q := by
  unfold takeHeld
  rw [State.link_withQueue]
  split
  · exact ownerTakes_withQueue q s l _ _
  · rfl

/-! ### Events that read a record before they act -/

theorem execRead_withQueue (l : Link) (bs : List Byte) :
    execRead l bs (s.withQueue q) = outcomeWithQueue q (execRead l bs s) := by
  cases bs with
  | nil => rfl
  | cons b rest =>
    exact next_withQueue (ite_withQueue (takeWrite_withQueue q s l rest) (State.onLink_withQueue q s l _))

theorem execPulseEdge_withQueue (e : PulseEdge) (x : Option Stamp) :
    execPulseEdge e (s.withQueue q) x = outcomeWithQueue q (execPulseEdge e s x) := by
  unfold execPulseEdge
  rw [State.stampOf_withQueue, State.withQueue_time]
  dsimp only
  split
  · rfl
  split
  · rfl
  · rw [arrival_withQueue]
    exact next_ite_withQueue (samplePulse_withQueue q _ _)

theorem execStalenessDeadlineExpiry_withQueue (h : BitVec 16) :
    execStalenessDeadlineExpiry h (s.withQueue q) = outcomeWithQueue q (execStalenessDeadlineExpiry h s) := by
  unfold execStalenessDeadlineExpiry
  rw [State.withQueue_store]
  split
  next d _ => exact next_ite_withQueue (drainCheck_withQueue q (discardPending .stale d s) _)
  · rfl

theorem execPacingQueueExpiry_withQueue (k : Fin 8) :
    execPacingQueueExpiry k (s.withQueue q) = outcomeWithQueue q (execPacingQueueExpiry k s) := by
  unfold execPacingQueueExpiry
  rw [State.withQueue_queues]
  dsimp only
  split
  · exact next_ite_withQueue rfl
  · rfl

theorem execRelease_withQueue (p : Fin 24) :
    execRelease p (s.withQueue q) = outcomeWithQueue q (execRelease p s) := by
  unfold execRelease
  rw [State.withQueue_ports, State.choose_withQueue]
  split
  · split
    · rw [State.pendingList_withQueue]
      split
      · exact next_withQueue (releaseOne_withQueue q s _ _ _ _ _)
      · rfl
    · rfl
  · rfl

theorem execSentOverdueExpiry_withQueue (h : BitVec 16) :
    execSentOverdueExpiry h (s.withQueue q) = outcomeWithQueue q (execSentOverdueExpiry h s) := by
  unfold execSentOverdueExpiry
  rw [State.portHolding_withQueue]
  split
  · rw [State.withQueue_ports]
    split
    · exact next_ite_withQueue (writeOff_withQueue q s _ _)
    · rfl
  · rfl

theorem execTriggerDeadlineExpiry_withQueue (n : BitVec 16) (k : Fin 4) :
    execTriggerDeadlineExpiry n k (s.withQueue q) = outcomeWithQueue q (execTriggerDeadlineExpiry n k s) := by
  unfold execTriggerDeadlineExpiry
  rw [State.recordOf_withQueue]
  split
  · exact next_ite_withQueue (askTrigger_withQueue q (setEntry n k (s.triggered k) s) _)
  · rfl

theorem execVerdictDeadlineExpiry_withQueue (n : BitVec 16) (k : Fin 4) :
    execVerdictDeadlineExpiry n k (s.withQueue q) = outcomeWithQueue q (execVerdictDeadlineExpiry n k s) := by
  unfold execVerdictDeadlineExpiry
  rw [State.recordOf_withQueue]
  split
  · exact next_ite_withQueue rfl
  · rfl

theorem execGateDeadlineExpiry_withQueue :
    execGateDeadlineExpiry (s.withQueue q) = outcomeWithQueue q (execGateDeadlineExpiry s) := by
  unfold execGateDeadlineExpiry
  rw [State.withQueue_track]
  split
  · exact next_ite_withQueue (depart_withQueue q s _ _)
  · rfl

theorem execFeedInstant_withQueue (o : Fin 8) :
    execFeedInstant o (s.withQueue q) = outcomeWithQueue q (execFeedInstant o s) := by
  unfold execFeedInstant
  rw [State.withQueue_outputs]
  dsimp only
  split
  · exact next_ite_withQueue rfl
  · rfl

theorem execOutboundMessageSent_withQueue :
    execOutboundMessageSent (s.withQueue q) = outcomeWithQueue q (execOutboundMessageSent s) := by
  unfold execOutboundMessageSent
  rw [State.withQueue_fabric]
  split <;> rfl

theorem execAlignmentRegained_withQueue :
    execAlignmentRegained (s.withQueue q) = outcomeWithQueue q (execAlignmentRegained s) := by
  unfold execAlignmentRegained
  rw [State.withQueue_fabric]
  split
  · exact next_ite_withQueue rfl
  · rfl

/-! ### Every command -/

/-- A command acts alike whatever waits, and leaves what waits. -/
theorem exec_withQueue (c : Instr) : exec c (s.withQueue q) = outcomeWithQueue q (exec c s) := by
  cases hr : c.asRequest with
  | some x =>
    obtain ⟨l, tag, r⟩ := x
    rw [exec_request hr, exec_request hr, request_withQueue]
    rfl
  | none =>
    cases c
    case powerOnReset | mtAdvance => rfl
    case warmReset => exact next_withQueue (warm_withQueue q s _)
    case pulseEdge e x => exact execPulseEdge_withQueue q s e x
    case write l bs => exact next_withQueue (takeWrite_withQueue q s l bs)
    case read l bs => exact execRead_withQueue q s l bs
    case replyPlaced l =>
      refine next_withQueue ?_
      rw [takeHeld_withQueue, State.onLink_withQueue]
    case malformedMessage | enqueue | sent | portState | cellIn | sync | fillDone | verdict | backoff | need =>
      exact next_withQueue (takeInbound_withQueue q s _ _)
    case trainingComplete => exact next_withQueue (ite_withQueue rfl (linkUp_withQueue q s))
    case alignmentLossExpiry => exact next_ite_withQueue (linkLost_withQueue q s)
    case restartSignal => exact next_ite_withQueue (linkLost_withQueue q s)
    case lossOfAlignment => exact next_ite_withQueue rfl
    case alignmentRegained => exact execAlignmentRegained_withQueue q s
    case outboundMessageSent => exact execOutboundMessageSent_withQueue q s
    case faultDeadlineExpiry src =>
      exact next_ite_withQueue (reselect_withQueue q (faultSource src s))
    case holdoverDeadlineExpiry => exact next_ite_withQueue rfl
    case stalenessDeadlineExpiry h => exact execStalenessDeadlineExpiry_withQueue q s h
    case pacingQueueExpiry k => exact execPacingQueueExpiry_withQueue q s k
    case release p => exact execRelease_withQueue q s p
    case sentOverdueExpiry h => exact execSentOverdueExpiry_withQueue q s h
    case triggerDeadlineExpiry n k => exact execTriggerDeadlineExpiry_withQueue q s n k
    case verdictDeadlineExpiry n k => exact execVerdictDeadlineExpiry_withQueue q s n k
    case gateDeadlineExpiry => exact execGateDeadlineExpiry_withQueue q s
    case windowEndExpiry => exact next_ite_withQueue rfl
    case askTimeoutExpiry k => exact next_ite_withQueue (endGrant_withQueue q s k .timeout)
    case warningTimeExpiry => exact next_ite_withQueue rfl
    case expiryMtExpiry k => exact next_ite_withQueue (endGrant_withQueue q s k .expired)
    case pulseEndExpiry => exact next_ite_withQueue rfl
    case feedInstant o => exact execFeedInstant_withQueue q s o
    all_goals cases hr

end queue

/-! ### The statements -/

/-- Settles O2: a command acts alike whatever waits (`exec_withQueue`); a state with its own queue put in its place is
itself, so what waits after the command is what waited before. -/
theorem commandsLeaveTheQueue : Obligations.CommandsLeaveTheQueue := by
  unfold Obligations.CommandsLeaveTheQueue
  intro c s t h
  have hany : ∀ q, exec c (s.withQueue q) = .next (t.withQueue q) := fun q => by
    rw [exec_withQueue, h]
    rfl
  have hown := hany s.pending
  rw [State.withQueue_self, h] at hown
  have hpending : t.pending = (t.withQueue s.pending).pending := congrArg State.pending (Host.Outcome.next.inj hown)
  exact ⟨hpending, hany⟩

/-- Settles O1, by the front of the queue: a command, or none. -/
theorem stepRunsTheFrontCommand : Obligations.StepRunsTheFrontCommand := by
  unfold Obligations.StepRunsTheFrontCommand
  exact ⟨fun _ _ _ => rfl, fun _ => rfl⟩

end Sys2Proof.Machine
end
